-- ==== Sys2Proof/Word.lean ====
section
/-!
DEFINITION. The plainest types of the model: a byte of memory, and the unit of time.
-/

namespace Sys2Proof

/-- A byte of the device address map. -/
abbrev Byte := BitVec 8

/-- An instant or a duration in ticks of the model. One nanosecond is 24,576,000 ticks, so that one picosecond
(24,576), one unit of 2^-16 ns (375) and one sample at 122.88 MS/s (200,000,000) are whole numbers of ticks
(DESIGN CHOICE, assumption 1). -/
abbrev Tick := Nat

/-- One picosecond (R26, R295). -/
def tPs : Tick := 24576
/-- One unit of 2^-16 ns, the fraction of TIME96 (R291). -/
def tFrac : Tick := 375
/-- One nanosecond. -/
def tNs : Tick := 24576000
/-- One microsecond. -/
def tUs : Tick := 24576000000
/-- One millisecond. -/
def tMs : Tick := 24576000000000
/-- One second. -/
def tSec : Tick := 24576000000000000
/-- One sample at 122.88 MS/s (Table 4-6). -/
def tSample : Tick := 200000000

end Sys2Proof
end

