-- ==== Sys2Proof/Syntax.lean ====
section
/-!
DEFINITION. The commands of the block: the data they carry, and one constructor per row of the table of
operations and events.
-/

namespace Sys2Proof

/-- A UAL packet (R246), its header fields and its payload bytes; LEN is a quarter of the payload's length. -/
structure Pkt where
  /-- DEST, CLASS, PRIO, SRC: Tables 10-5 and 10-6. -/
  dest : Nat
  cls : Nat
  prio : Nat
  src : Nat
  /-- STREAM_OBJ and SEQ: Table 10-7. -/
  stream : Nat
  seq : Nat
  /-- PROVISIONAL, SPEC, RESP, REPLAY, FIRST: Table 10-8. -/
  prov : Bool
  spec : Bool
  resp : Bool
  replay : Bool
  first : Bool
  payload : List Nat
deriving DecidableEq, Repr

/-- Who asks: the owner kind and identity of Tables 14-6 and 14-22, the port of arrival of a remote request, and
the TAG and PRIO under which it is answered. -/
structure Req where
  /-- 0 hardware block, 1 firmware task, 2 remote node, 3 LHP. -/
  kind : Nat
  /-- Block or task number, or the node address of SRC. -/
  id : Nat
  /-- Port of arrival of a remote request: 0 U, 1 D1, 2 D2. -/
  port : Nat
  tag : Nat
  prio : Nat
  /-- A broadcast write: executed, not answered (R322). -/
  bcast : Bool
deriving DecidableEq, Repr

/-- A ledger request (R18, R19): its place in the order of R19 (2 to 7), the domain it is counted for, the holder, its base
costs in the order of R17; or a release of what the holder has. -/
structure LedReq where
  cls : Nat
  dom : Nat
  n : Nat
  cost : List Nat
  release : Bool
deriving DecidableEq, Repr

/-- What LO_HANDOVER_ARMED reports (R179): its instant, and the steps of 1/2,048 cycle by which the spare was found ahead. -/
structure LoLead where
  t : Tick
  lead : Int
deriving DecidableEq, Repr

/-- What a requester asks of an arbiter (R139, R203): the code of ORXSEL_n, and the LO that a code from 12 to 14 goes with. -/
structure OrxWant where
  code : Nat
  lo : Nat
deriving DecidableEq, Repr

/-- A domain that is ready (R402), and the retained banks of BF whose CRC-32 does not match (R75). -/
structure DomUp where
  dom : Nat
  bad : List Nat
deriving DecidableEq, Repr

/-- The commands of the block, one constructor per row of the table of operations and events. The first operand of
each is the instant of the event (assumption 1); a command with an instant already past happens now. -/
inductive Instr where
  /-- SLOT_BOUNDARY (R20). At each slot boundary the device fixes the bench set and the EIRP gain G, applies band changes, retries pending credit requests and raises its once-per-slot alarms. -/
  | slotBoundary (t : Tick) (scs : Nat) (slot : Int)
  /-- SYMBOL_BOUNDARY (R13). At each symbol boundary CTRL-domain writes take effect in the FRAME and CONV datapath, and the symbol's radio codes are applied. -/
  | symbolBoundary (t : Tick) (scs : Nat) (slot : Int) (sym : Nat)
  /-- FRAME_BOUNDARY (R125). At each SFN change a REMOVED child that meets the conditions is re-admitted to combining. -/
  | frameBoundary (t : Tick)
  /-- COMMIT_ACTIVATION (R341). At its activation instant every object of an accepted commit takes effect in the same FRAME cycle, in order of acceptance. -/
  | commitActivation (t : Tick)
  /-- CP_ABSENT_TIMEOUT (R16). The control processor has been absent for 30 ms, so management requests are answered CP_ABSENT, new benches stop and DPD adaptation stops. -/
  | cpAbsentTimeout (t : Tick)
  /-- CONTROL_RESTART_DONE (R455). The control processor returns from a restart and answers the queued management requests. -/
  | controlRestartDone (t : Tick)
  /-- LEDGER_REQUEST (R18). A block asks for ledger credit, and the ledger grants the request whole or refuses it whole in the AON-cycle order of R19. -/
  | ledgerRequest (t : Tick) (reqs : List LedReq)
  /-- LEDGER_RETRY (R19). A refused start-up, wake, DMA or hallmark step retries its credit request after 100 µs. -/
  | ledgerRetry (t : Tick)
  /-- DL_PACKET_ARRIVAL (R80). A class D stream-data packet is checked against stream maps, format and the U-plane window, and its records are accepted or the packet is discarded. -/
  | dlPacketArrival (t : Tick) (p : Pkt)
  /-- SECTION_ARRIVAL (R489). A class C section is checked and then applies per covered symbol as a confirming, provisional or uplink section. -/
  | sectionArrival (t : Tick) (p : Pkt)
  /-- C_WINDOW_CLOSE (R36). The C-plane window of a symbol closes: streams without a confirming section become no section, and the changed groups are queued. -/
  | cWindowClose (t : Tick) (car : Nat) (slot : Int) (sym : Nat)
  /-- BEAMFORM_DONE (R83). The main beamformer completes a PRB group from its data and its confirmed or predicted section. -/
  | beamformDone (t : Tick) (car : Nat) (slot : Int) (sym lo hi : Nat)
  /-- FAST_PATH_RECOMPUTE_START (R38). A queued group becomes eligible 0.5 µs after its event, and the fast path starts its recompute. -/
  | fastPathRecomputeStart (t : Tick)
  /-- FAST_PATH_RECOMPUTE_DONE (R38). A fast-path recompute completes, and the group is released and counted in SPEC_RECOMPUTED. -/
  | fastPathRecomputeDone (t : Tick)
  /-- TOUCHSTONE (R39). At T_air − 14.0 µs the symbol's per-path output is fixed: unfinished groups are blanked and the blank stands in for streams without data. -/
  | touchstone (t : Tick) (scs : Nat) (slot : Int) (sym : Nat)
  /-- UL_SYMBOL_END (R115). At the end of an uplink symbol the FFT is taken, own beams are formed and uplink table writes and dynamic vectors are applied. -/
  | ulSymbolEnd (t : Tick) (e : Int) (adc : List (Nat × Nat × List (Int × Int)))
  /-- UL_PACKET_DEPART (R44). At t_dep(H, p) the node sends partial-sum packet p on port U. -/
  | ulPacketDepart (t : Tick) (e : Int) (p : Nat)
  /-- UL_CHILD_PACKET_ARRIVAL (R123). A class U packet from a child is matched to a place and judged by the checks of Table 5-5. -/
  | ulChildPacketArrival (t : Tick) (port : Nat) (p : Pkt)
  /-- UL_CUTOFF (R45). The cut-off for packet place p passes, and children with no admissible packet are counted missing. -/
  | ulCutoff (t : Tick) (e : Int) (p : Nat)
  /-- STAGE_OPEN (R63). A write opens weight staging for a bank in clone or zero mode. -/
  | stageOpen (t : Tick) (r : Req) (dir v : Nat)
  /-- STAGE_FILL_DONE (R63). The staging fill completes, and STAGE_STATE becomes OPEN. -/
  | stageFillDone (t : Tick) (dir : Nat)
  /-- STAGE_SWAP_RELEASE (R65). 100 µs after a swap boundary the old bank memory becomes staging, STAGE_STATE reads CLOSED and STAGE_SWAP returns to 0. -/
  | stageSwapRelease (t : Tick) (dir : Nat)
  /-- BANK_MARK_VALID (R75). A write marks reloaded weight banks valid from the next touchstone or uplink symbol end. -/
  | bankMarkValid (t : Tick) (r : Req) (dir v : Nat)
  /-- SCHED_CLONE (R66). A write starts copying the active schedule into the inactive copy. -/
  | schedClone (t : Tick) (r : Req) (dir v : Nat)
  /-- SCHED_CLONE_DONE (R66). The schedule copy completes, and SCHED_STATE leaves COPYING. -/
  | schedCloneDone (t : Tick) (dir : Nat)
  /-- SUPPRESSION_END (R99). The filter span after a start, return or channel switch has passed, and the SUPPRESSED output is released. -/
  | suppressionEnd (t : Tick)
  /-- TX_ATTEN_WRITE (R135). A write sets the TX attenuation of a path, taking effect at the next cyclic prefix. -/
  | txAttenWrite (t : Tick) (r : Req) (path v : Nat)
  /-- RX_ATTEN_WRITE (R136). A write sets the RX attenuation of a path, taking effect at the next cyclic prefix. -/
  | rxAttenWrite (t : Tick) (r : Req) (path v : Nat)
  /-- TX_ENTRY (R147). The entry sequence into Transmit starts at its first action, after the LO, gate-bias and CX grant checks. -/
  | txEntry (t : Tick) (lo : Nat) (slot : Int) (sym : Nat)
  /-- TX_EXIT (R147). After the last TX symbol of a run the driver is muted and the domain returns to Receive or Synth-on. -/
  | txExit (t : Tick) (lo : Nat) (slot : Int) (sym : Nat)
  /-- RX_ENTRY (R147). The RX input stage and gate move so that Receive is reached at the first RX symbol. -/
  | rxEntry (t : Tick) (lo : Nat) (slot : Int) (sym : Nat)
  /-- RX_EXIT (R147). At the end of the last RX symbol the domain leaves Receive for Synth-on. -/
  | rxExit (t : Tick) (lo : Nat) (slot : Int) (sym : Nat)
  /-- GB_FAULT_CLEAR (R154). A write clears PATH_TX_BLOCK[0] and [3] of a path, which latch again if the cause persists. -/
  | gbFaultClear (t : Tick) (r : Req) (path v : Nat)
  /-- CX_REQUEST (R157). The device asserts CXREQ and drives CXPRI for an injection; `n`: the path whose RECIP it is. -/
  | cxRequest (t : Tick) (n : Nat)
  /-- CX_TX_REQUEST (R159). In CX_TX_MODE the device asserts CXREQ with CXPRI at CX_TX_LEAD before a TX run. -/
  | cxTxRequest (t : Tick)
  /-- CX_GRANT_SEEN (R157). The synchronised CXGNT is seen asserted; without CXREQ it is counted as spurious. -/
  | cxGrantSeen (t : Tick)
  /-- CX_GUARD_EXPIRY (R157). CX_GUARD after the grant was seen, the injection begins. -/
  | cxGuardExpiry (t : Tick)
  /-- CX_INJECTION_END (R157). An injection ends, and CXREQ is deasserted within 100 ns. -/
  | cxInjectionEnd (t : Tick)
  /-- CXGNT_DEASSERT (R158). CXGNT falls; after a request this frees the handshake, and during use it revokes the grant. -/
  | cxgntDeassert (t : Tick)
  /-- CX_WAIT_TIMEOUT (R158). No grant arrived within CX_WAIT_MAX, so CXREQ is deasserted and the assay is deferred. -/
  | cxWaitTimeout (t : Tick)
  /-- CX_LEASE_EXPIRY (R158). A grant held past CX_LEASE forces the injection off or makes a fast stop. -/
  | cxLeaseExpiry (t : Tick)
  /-- REF_ACCEPT (R170). An external REF is measured and accepted, and REFX moves onto it. -/
  | refAccept (t : Tick) (khz : Nat)
  /-- REF_LOST (R171). A missing REF edge or a ratio error is detected, and the device enters holdover within 1 µs. -/
  | refLost (t : Tick)
  /-- REF_RESTORE (R171). REF has been good for 1.0 s, so REFX slews back onto it. -/
  | refRestore (t : Tick)
  /-- CLK_PLL_UNLOCK (R168). The CTRL or LINK PLL loses lock, and its consumers switch to the AON clock. -/
  | clkPllUnlock (t : Tick) (pll : Nat)
  /-- CLK_PLL_RELOCK (R168). The CTRL or LINK PLL declares lock again, and its consumers switch back. -/
  | clkPllRelock (t : Tick) (pll : Nat)
  /-- DATAPATH_PLL_UNLOCK (R169). The FRAME, CONV or TIME PLL loses lock unplanned, so the clock is gated and every transmitting path makes a fast stop. -/
  | datapathPllUnlock (t : Tick) (n : Nat)
  /-- DATAPATH_PLL_RELOCK (R169). The datapath PLL declares lock again, and every enabled carrier restarts. -/
  | datapathPllRelock (t : Tick) (n : Nat)
  /-- LO_COUNT_WINDOW (R176). A frequency-count window of a synthesiser ends and is compared with N_exp. -/
  | loCountWindow (t : Tick) (lo count : Nat)
  /-- LO_CYCLE_SLIP (R177). The slip detector reports a cycle slip at the phase detector. -/
  | loCycleSlip (t : Tick) (lo : Nat)
  /-- LO_LOAD_NOW (R175). A write loads the divider buffer at once, which re-locks the LO if any divider changed. -/
  | loLoadNow (t : Tick) (r : Req) (lo v : Nat)
  /-- LO_PHASE_STEP (R181). A write requests a phase step of the LO by s/2,048 cycle. -/
  | loPhaseStep (t : Tick) (r : Req) (lo v : Nat)
  /-- LO_HANDOVER_START (R179). The spare synthesiser takes its credit and starts its full calibration at the active LO's dividers. -/
  | loHandoverStart (t : Tick) (x sp : Nat)
  /-- LO_HANDOVER_ARMED (R179). The spare's phase is measured and stepped to match the active LO, and the handover is armed. -/
  | loHandoverArmed (m : LoLead)
  /-- DPD_ATTEMPT_START (R199). A free DPD core takes the next due path and waits for a usable TX run to request its ORX. -/
  | dpdAttemptStart (t : Tick)
  /-- DPD_CAPTURE_DONE (R199). The 4,096-sample y and ORX capture completes and is checked for rejection. -/
  | dpdCaptureDone (t : Tick) (x : Nat) (ref orx : List Nat)
  /-- DPD_SOLVE_DONE (R199). The core finishes alignment, NMSE and fit, and then rolls back, rejects or writes the shadow for commit. -/
  | dpdSolveDone (t : Tick) (path : Nat) (nmse gain : Int) (chat : List (Int × Int))
  /-- DPD_PERIOD_LATE (R202). DPD_PERIOD passes for a path without an attempt beginning, and DPD_LATE counts it. -/
  | dpdPeriodLate (t : Tick) (path : Nat)
  /-- DPD_STALE_AGE_EXPIRY (R201). COEF_AGE exceeds DPD_STALE_AGE, and the path goes stale. -/
  | dpdStaleAgeExpiry (t : Tick) (path : Nat)
  /-- ORX_REQUEST (R203). A requester asks the arbiter of an OXn for a grant, and the wait hints are recomputed. -/
  | orxRequest (t : Tick) (x who : Nat) (want : OrxWant)
  /-- ORX_GRANT (R203). In the arbiter cycle after a grant ends, the next requester is granted in priority order and ORXSEL_n changes. -/
  | orxGrant (t : Tick) (x : Nat)
  /-- ORX_SETTLE_DONE (R139). The switch settle time passes, and the capture starts. -/
  | orxSettleDone (t : Tick) (x : Nat)
  /-- ORX_DROP (R204). The holder drops its request, and the grant ends. -/
  | orxDrop (t : Tick) (x : Nat)
  /-- ORX_WITHDRAW (R204). A holder withdraws before its first capture cycle, which leaves one dead arbiter cycle. -/
  | orxWithdraw (t : Tick) (x : Nat)
  /-- ORX_BURST_LIMIT_EXPIRY (R204). An ordinary grant reaches ORX_BURST_LIMIT, and its capture is discarded. -/
  | orxBurstLimitExpiry (t : Tick) (x : Nat)
  /-- ORX_LEASE_EXPIRY (R204). A privileged lock lease expires, so ORXSEL_n parks and the capture is discarded. -/
  | orxLeaseExpiry (t : Tick) (x : Nat)
  /-- ORX_PRIV_WD_EXPIRY (R204). A continuous privileged grant exceeds ORX_PRIV_WD, and ORX_PRIV_LONG is raised. -/
  | orxPrivWdExpiry (t : Tick) (x : Nat)
  /-- DC_ECC_ERROR (R209). A read of cluster memory finds a single-bit error, which is scrubbed, or a double-bit error, which aborts the attempt. -/
  | dcEccError (t : Tick) (core : Nat) (double : Bool)
  /-- CHF_PENDING_TIMEOUT (R107). CHF_PENDING stays above zero for 60 s, and the alarm is raised. -/
  | chfPendingTimeout (t : Tick)
  /-- UL_CHF_PENDING_TIMEOUT (R132). UL_CHF_PENDING stays above zero for 60 s, and the alarm is raised. -/
  | ulChfPendingTimeout (t : Tick)
  /-- REXT_MEASURE (R215). Every 60 s REXT is measured against the bandgap, and the trims are updated or frozen. -/
  | rextMeasure (t : Tick) (dev : Int)
  /-- START_CAL_STEP_DONE (R216). A step of start-up calibration completes, its result is stored and the next step begins. -/
  | startCalStepDone (t : Tick) (meas : List (Nat × Nat × List Int))
  /-- ASSAY_DONE (R224). An assay's measurement on a benched path completes, and the next assay of that chain starts. -/
  | assayDone (t : Tick) (path chain : Nat)
  /-- ASSAY_RESULT_READY (R227). A DSP core finishes an assay result, which is accepted or rejected against Table 9-5. -/
  | assayResultReady (t : Tick) (path assay : Nat) (meas : List Int)
  /-- CAL_STORE_WRITE (R227). An accepted result or a committed DPD bank is written into the calibration store. -/
  | calStoreWrite (t : Tick)
  /-- CAL_BENCH_NOW (R231). A write plans an on-demand bench slot for the group of a path. -/
  | calBenchNow (t : Tick) (r : Req) (v : Nat)
  /-- CAL_OVERDUE_EXPIRY (R230). An assay result ages past CAL_OVERDUE_AGE, or four times that for BENCH_STARVED. -/
  | calOverdueExpiry (t : Tick) (path : Nat)
  /-- AGE_MEASURE (R233). Every 60 s both oscillators of each powered ageing monitor are counted and AGE_DELTA is updated. -/
  | ageMeasure (t : Tick) (counts : List (Nat × Nat))
  /-- AGE_HOURLY (R236). Every hour the ageing values and SERVICE_HOURS are stored and AGE_YEARS_LEFT is recomputed. -/
  | ageHourly (t : Tick)
  /-- AVS_STEP (R234). The AVS code is raised one step after its credit request, or the request is retried after 60 s. -/
  | avsStep (t : Tick)
  /-- PA_GAIN_DAILY (R237). Once a day the mean DPD_PA_GAIN of each path is recorded and the trend is judged. -/
  | paGainDaily (t : Tick)
  /-- PORT_DETECT (R244). An enabled port with credit leaves DOWN for DETECT after the 10 ms back-off. -/
  | portDetect (t : Tick) (p : Nat)
  /-- LANE_TRAIN_DONE (R280). Electrical training of a lane ends trained, trained on the fallback, or untrained. -/
  | laneTrainDone (t : Tick) (p x res : Nat)
  /-- PORT_ALIGN_DONE (R244). Every trained lane shows COM lock for 1,024 columns, and the port enters DESKEW. -/
  | portAlignDone (t : Tick) (p : Nat)
  /-- LMG_TS1 (R244). A TS1 message is received during deskew. -/
  | lmgTs1 (t : Tick) (p x skew : Nat) (m : List Nat)
  /-- LMG_TS2 (R244). A TS2 message is received, and 16 matching messages complete negotiation. -/
  | lmgTs2 (t : Tick) (p x : Nat) (m : List Nat)
  /-- PORT_RATE_DONE (R244). Retraining at the agreed rate completes, and the port enters ACTIVE at the next EPM. -/
  | portRateDone (t : Tick) (p : Nat)
  /-- PORT_TRAIN_TIMEOUT (R244). A training state lasts 2 ms, and the port returns to DOWN. -/
  | portTrainTimeout (t : Tick) (p : Nat)
  /-- LMG_DROP_REQ (R261). A DROP_REQ is received, and the sender answers DROP_ACK naming the switching EPM. -/
  | lmgDropReq (t : Tick) (p : Nat) (m : List Nat)
  /-- LMG_DROP_ACK (R261). A DROP_ACK is received, and the receiver awaits the switching EPM. -/
  | lmgDropAck (t : Tick) (p : Nat) (m : List Nat)
  /-- LMG_RESTORE_REQ (R266). A RESTORE_REQ is received, and the sender answers RESTORE_ACK. -/
  | lmgRestoreReq (t : Tick) (p : Nat) (m : List Nat)
  /-- LMG_RESTORE_ACK (R266). A RESTORE_ACK is received naming the EPM for the return to 8 lanes. -/
  | lmgRestoreAck (t : Tick) (p : Nat) (m : List Nat)
  /-- LMG_RESET (R457). An LMG RESET on port U with LINK_RESET_EN 1 starts the reset of the named kind. -/
  | lmgReset (t : Tick) (p : Nat) (m : List Nat)
  /-- LMG_REQ_REPEAT (R245). An unanswered REQ is repeated after 10 µs. -/
  | lmgReqRepeat (t : Tick) (p : Nat)
  /-- LANE_LOST (R261). A lane is lost by LOS, loss of lock or error trend, and the receiver sends DROP_REQ or the port goes DOWN. -/
  | laneLost (t : Tick) (p x reason : Nat)
  /-- LANE_RESTORE_READY (R266). A dropped lane has run free of errors for 1.0 s, and RESTORE_REQ is sent. -/
  | laneRestoreReady (t : Tick) (p x : Nat)
  /-- EPM_SEND (R260). The time counter passes a whole millisecond, and every active egress sends an epoch marker. -/
  | epmSend (t : Tick)
  /-- EPM_RECEIVE (R260). An epoch marker is received, its count is checked, and any restripe switch or entry to ACTIVE is made. -/
  | epmReceive (t : Tick) (p n : Nat)
  /-- PACKET_RECEIVE (R248). A packet is judged by the link checks and SEQ check, and then handed to its class or forwarded. -/
  | packetReceive (t : Tick) (p : Nat) (l : List Nat) (eop : Bool) (stamp : Int)
  /-- EGRESS_PACKET_START (R250). At a packet boundary the egress port starts the highest-ranked packet that is allowed to go. -/
  | egressPacketStart (t : Tick) (p : Nat)
  /-- FC_XOFF_RECEIVE (R252). An FC XOFF is received, and the sender stops starting packets of that class. -/
  | fcXoffReceive (t : Tick) (p c st : Nat)
  /-- FC_XON_RECEIVE (R252). An FC XON is received, and the sender resumes the class. -/
  | fcXonReceive (t : Tick) (p c st : Nat)
  /-- FC_XOFF_REFRESH (R252). 10 µs pass in XOFF, and XOFF is sent again. -/
  | fcXoffRefresh (t : Tick) (p k : Nat)
  /-- FC_HOLD_TIMEOUT (R252). 25 µs pass without XOFF, and the sender resumes. -/
  | fcHoldTimeout (t : Tick) (p k : Nat)
  /-- FC_STALL_EXPIRY (R253). A class stays in XOFF beyond FC_STALL, and the alarm is raised. -/
  | fcStallExpiry (t : Tick) (p k : Nat)
  /-- FLU_RECEIVE (R259). A FLU sequence is received and becomes pending or is applied. -/
  | fluReceive (t : Tick) (p c stream : Nat) (inside : Bool)
  /-- FLUSH_APPLY (R259). At the next packet boundary the named stream's queued packets, records or sections are discarded and the FLU is forwarded. -/
  | flushApply (t : Tick) (p : Nat)
  /-- FWD_WINDOW_DISCARD (R257). A child copy of a C or D packet not started by the window's close is discarded for that child. -/
  | fwdWindowDiscard (t : Tick) (p : Nat)
  /-- M_REQUEST_DISPATCH (R256). The device takes the next management request from its queue, highest PRIO first. -/
  | mRequestDispatch (t : Tick)
  /-- OBJ_READ (R334). An object read is judged and returns the value, with the actual value for a demand that has a partner. -/
  | objRead (t : Tick) (r : Req) (ix sub : Nat)
  /-- OBJ_WRITE (R334). A write of an object without a rule of its own is judged and applied. -/
  | objWrite (t : Tick) (r : Req) (ix sub : Nat) (data : List Nat)
  /-- MEM_READ (R364). A memory-window read is judged and returns data. -/
  | memRead (t : Tick) (r : Req) (addr count : Nat)
  /-- MEM_WRITE (R364). A memory-window write is judged and applied word by word under its region's rules. -/
  | memWrite (t : Tick) (r : Req) (addr : Nat) (data : List Nat)
  /-- M_RESPONSE_RECEIVE (R255). A management response arrives and frees its tag, or is counted late. -/
  | mResponseReceive (t : Tick) (p : Nat) (k : Pkt)
  /-- M_TIMEOUT (R255). M_TIMEOUT passes after a request left, and its tag is freed. -/
  | mTimeout (t : Tick) (tag : Nat)
  /-- PROXY_FORWARD (R323). A queued request gets a free proxy record and is forwarded to the child. -/
  | proxyForward (t : Tick) (p : Nat)
  /-- PROXY_TIMEOUT (R323). A proxied request has no response after M_TIMEOUT, and the proxy answers TIMEOUT. -/
  | proxyTimeout (t : Tick) (p src tag : Nat)
  /-- LANE_TREND_UPDATE (R274). Each millisecond LANE_TREND is updated and judged against the reselect and drop thresholds. -/
  | laneTrendUpdate (t : Tick) (errs : List Nat)
  /-- LANE_LOS (R273). The envelope detector asserts or clears LOS. -/
  | laneLos (t : Tick) (ix : Nat) (on : Bool)
  /-- LANE_LOSS_OF_LOCK (R273). The lane reports loss of lock. -/
  | laneLossOfLock (t : Tick) (ix : Nat)
  /-- PORT_DEEP_ENTER (R282). A port enters the deep lane state on request or when every lane reports LOS. -/
  | portDeepEnter (t : Tick) (p : Nat)
  /-- LANE_WAKE_DETECT (R283). A deep port detects WAKE or an envelope, and its lanes leave the deep state. -/
  | laneWakeDetect (t : Tick) (p kind : Nat)
  /-- LANE_DEEP_EXIT_DONE (R283). 80 µs after a wake the lane clocks are locked, and the port enters DETECT. -/
  | laneDeepExitDone (t : Tick) (p : Nat)
  /-- LANE_TEST (R284). A write starts or stops a lane pattern test. -/
  | laneTest (t : Tick) (r : Req) (ix v : Nat)
  /-- LANE_INJECT (R285). A write inverts L transmitted bits. -/
  | laneInject (t : Tick) (r : Req) (ix v : Nat)
  /-- LANE_PRESETS (R275). A write of the preset table is checked and used from the next training. -/
  | lanePresets (t : Tick) (r : Req) (v : Nat)
  /-- SYNC_SEND (R299). A parent sends a one-step Sync on a child port every 1/128 s. -/
  | syncSend (t : Tick) (p : Nat)
  /-- SYNC_RECEIVE (R298). A Sync is received on port U and starts an exchange. -/
  | syncReceive (t : Tick) (l : List Nat) (stamp : Int)
  /-- FOLLOW_UP_RECEIVE (R298). A Follow_Up completes t1 of a two-step Sync. -/
  | followUpReceive (t : Tick) (l : List Nat)
  /-- DELAY_REQ_SEND (R299). A child sends Delay_Req 2.0 ms after an accepted Sync. -/
  | delayReqSend (t : Tick)
  /-- DELAY_REQ_RECEIVE (R299). A parent receives Delay_Req, records the child's lock and delay, and answers Delay_Resp. -/
  | delayReqReceive (t : Tick) (p : Nat) (l : List Nat) (stamp : Int)
  /-- DELAY_RESP_RECEIVE (R300). A Delay_Resp completes an exchange, and offset and delay are computed. -/
  | delayRespReceive (t : Tick) (l : List Nat)
  /-- ANNOUNCE_SEND (R296). Once per second Announce is sent on the child ports. -/
  | announceSend (t : Tick)
  /-- ANNOUNCE_RECEIVE (R327). An Announce is received, and the node's depth and time flags are updated. -/
  | announceReceive (t : Tick) (l : List Nat)
  /-- EXCHANGE_TIMEOUT (R299). An exchange is not complete within 5 ms and is counted missed. -/
  | exchangeTimeout (t : Tick)
  /-- PPS_EDGE (R303). A PPS_IN edge is stamped and steers or steps the root. -/
  | ppsEdge (t : Tick) (rising : Bool) (ten : Option Int)
  /-- TOD_FRAME (R303). A ToD frame is received and labels the next pulse, or is counted in TOD_ERR. -/
  | todFrame (t : Tick) (l : List Nat)
  /-- ROOT_SOURCE_LOSS (R304). The root's PPS or ToD is lost, and the root enters HOLDOVER. -/
  | rootSourceLoss (t : Tick)
  /-- HOLDOVER_EXPIRY (R304). TIME_HOLDOVER_MAX passes, and the root goes UNLOCKED. -/
  | holdoverExpiry (t : Tick)
  /-- TIME_SET (R303). A write to a free-running root takes it out of lock and steps its counter. -/
  | timeSet (t : Tick) (r : Req) (v : Nat)
  /-- TIME_SET_REACQUIRE (R303). 125 ms after TIME_SET the free-running root returns to LOCKED. -/
  | timeSetReacquire (t : Tick)
  /-- TPO_EDGE (R307). A pulse output emits its leading or trailing edge at its programmed time. -/
  | tpoEdge (t : Tick) (n : Nat)
  /-- TCI_EDGE (R308). A capture input edge is stamped into its queue, or is lost. -/
  | tciEdge (t : Tick) (n : Nat) (falling : Bool)
  /-- TCI_STAMP (R308). A read removes and returns the oldest stamp. -/
  | tciStamp (t : Tick) (r : Req) (n : Nat)
  /-- TIME_ALARM (R309). A write arms a time alarm. -/
  | timeAlarm (t : Tick) (r : Req) (n v : Nat)
  /-- TALARM (R309). The counter reaches an alarm time, and the event fires as a DMA trigger and wake source. -/
  | talarm (t : Tick) (n : Nat)
  /-- ADDR_ASSIGN (R318). A parent sends the one-hop NODE_ADDR write to an unaddressed child, repeating every 10 ms. -/
  | addrAssign (t : Tick) (p : Nat)
  /-- NODE_ADDR_WRITE (R317). A write sets the node address once its response has left. -/
  | nodeAddrWrite (t : Tick) (r : Req) (one : Bool) (v : Nat)
  /-- SUMMARY_SEND (R325). A summary is sent on port U on a change, and at least once per second. -/
  | summarySend (t : Tick)
  /-- SUMMARY_RECEIVE (R325). A child's summary updates CHILD_SUMMARY, CHILD_NODES and CHILD_DEPTH. -/
  | summaryReceive (t : Tick) (p : Nat) (l : List Nat)
  /-- ALARM_RECORD_RECEIVE (R325). A child's alarm record is forwarded within ALARM_RATE, or logged at the root. -/
  | alarmRecordReceive (t : Tick) (p code : Nat) (l : List Nat)
  /-- STAGED_WRITE (R338). An RWS write opens or joins the staging set and renews its lease. -/
  | stagedWrite (t : Tick) (r : Req) (ix sub v : Nat)
  /-- STAGE_DISCARD (R338). The owner empties and frees the staging set. -/
  | stageDiscard (t : Tick) (r : Req) (v : Nat)
  /-- COMMIT (R340). A COMMIT write is judged in four steps and accepted or refused whole. -/
  | commit (t : Tick) (r : Req) (w : Nat)
  /-- STAGE_LEASE_EXPIRY (R342). The staging set's lease expires, and the set is discarded. -/
  | stageLeaseExpiry (t : Tick)
  /-- IMMEDIATE_SET_WRITE (R343). A write to an immediate set is stored; it is held if inconsistent, or it applies the whole set. -/
  | immediateSetWrite (t : Tick) (r : Req) (ix sub v : Nat)
  /-- LOCK_LEASE_EXPIRY (R345). A lock's lease expires, and its resource goes to the safe state. -/
  | lockLeaseExpiry (t : Tick) (n : Nat)
  /-- ALARM_HOLD_EXPIRY (R349). An alarm instance with no clearing condition clears ALARM_HOLD after its last raise. -/
  | alarmHoldExpiry (t : Tick) (code detail : Nat)
  /-- LOG_READ (R350). A read returns the oldest unread log entry and advances LOG_NEXT. -/
  | logRead (t : Tick) (r : Req)
  /-- LOG_CLEAR (R350). A write empties the event log and zeroes its counters. -/
  | logClear (t : Tick) (r : Req) (v : Nat)
  /-- COUNTER_CLEAR (R50). A write of 1 to a CLEAR zeroes its counters at once or at the named boundary. -/
  | counterClear (t : Tick) (r : Req) (ix v : Nat)
  /-- LHP_TRANSACTION_START (R351). SCS_N falls, the SPI mode is taken and a wake is raised if the device is Dormant. -/
  | lhpTransactionStart (t : Tick) (sclk : Bool)
  /-- LHP_FRAME_RECEIVE (R353). An inbound LHP frame is checked and queued, or a status frame is sent. -/
  | lhpFrameReceive (t : Tick) (l : List Nat)
  /-- LHP_FRAME_ABANDON (R352). SCS_N deasserts inside an inbound frame, which is abandoned. -/
  | lhpFrameAbandon (t : Tick)
  /-- LHP_RESPONSE_SENT (R352). An outbound frame's last CRC byte is clocked out, and the frame leaves the response queue. -/
  | lhpResponseSent (t : Tick)
  /-- SWP_REFRESH (R358). Every SWP_REFRESH the control processor rewrites the mapped shadow groups. -/
  | swpRefresh (t : Tick)
  /-- SWP_HW_REFRESH (R358). Every 100 µs hardware rewrites shadow groups 1 and 2 and its words of group 0. -/
  | swpHwRefresh (t : Tick)
  /-- CH_CLAIM (R370). A write of 1 claims a DMA channel lock. -/
  | chClaim (t : Tick) (r : Req) (n : Nat)
  /-- CH_RELEASE (R370). A write of 0 releases the channel, which stops at the next burst boundary. -/
  | chRelease (t : Tick) (r : Req) (n : Nat)
  /-- CH_START (R372). A write starts a descriptor chain. -/
  | chStart (t : Tick) (r : Req) (n v : Nat)
  /-- CH_DOORBELL (R378). A doorbell makes an ended channel re-read its tail, or is held until END. -/
  | chDoorbell (t : Tick) (r : Req) (n v : Nat)
  /-- CH_STOP (R378). A write stops the channel at the next burst boundary. -/
  | chStop (t : Tick) (r : Req) (n v : Nat)
  /-- CH_TRIG (R377). A write selects a trigger source and zeroes the trigger count. -/
  | chTrig (t : Tick) (r : Req) (n v : Nat)
  /-- DMA_TRIGGER (R377). A trigger source occurs and the channel's trigger count rises. -/
  | dmaTrigger (t : Tick) (n : Nat)
  /-- DMA_COPY (R374). A COPY descriptor is judged and run as if through a temporary buffer. -/
  | dmaCopy (t : Tick) (n : Nat)
  /-- DMA_FILL (R374). A FILL descriptor writes a constant word over the destination. -/
  | dmaFill (t : Tick) (n : Nat)
  /-- DMA_COMPARE (R374). A COMPARE descriptor compares two ranges and ends with DONE or MISMATCH. -/
  | dmaCompare (t : Tick) (n : Nat)
  /-- DMA_BURST (R376). The engine moves one burst of the highest-priority ready channel, and ends the descriptor at its last burst. -/
  | dmaBurst (t : Tick)
  /-- CAP_ARM (R367). A write arms a capture buffer. -/
  | capArm (t : Tick) (r : Req) (b v : Nat)
  /-- CAPTURE_COMPLETE (R367). A capture completes or truncates, sets COMPLETE and raises its event; `trunc`: which of the two. -/
  | captureComplete (t : Tick) (b : Nat) (trunc : Bool)
  /-- SCRUB_READ (R366). The scrubber reads a word, correcting or counting an ECC error. -/
  | scrubRead (t : Tick) (addr err : Nat)
  /-- POWER_REQ (R396). A write asks for Dormant, which starts the handshake. -/
  | powerReq (t : Tick) (r : Req) (v : Nat)
  /-- DOMAIN_REQ_DOWN (R390). A write asks for a domain to power down through the handshake. -/
  | domainReqDown (t : Tick) (r : Req) (d : Nat)
  /-- DOMAIN_REQ_UP (R389). A write powers a domain up as a first access does. -/
  | domainReqUp (t : Tick) (r : Req) (d : Nat)
  /-- DOMAIN_ANSWER (R390). A delaying domain answers ACCEPT or REFUSE, and the act phase starts once all have accepted. -/
  | domainAnswer (t : Tick) (d : Nat)
  /-- DOMAIN_ANSWER_TIMEOUT (R390). A domain has not answered by its declared maximum and counts as refusing with reason 8. -/
  | domainAnswerTimeout (t : Tick) (d : Nat)
  /-- DOMAIN_POWER_DOWN (R391). In the act phase a domain is clamped, signs its banks, loses power and releases its credit. -/
  | domainPowerDown (t : Tick) (d : Nat)
  /-- WAKE_PIN (R399). The WAKE pin held at its level for 1 µs wakes the device from Dormant. -/
  | wakePin (t : Tick)
  /-- WAKE_STEP_DONE (R400). A step of the wake sequence completes, with its bank checks, and the next begins. -/
  | wakeStepDone (t : Tick) (bad : List Nat)
  /-- FIRST_ACCESS_WAKE (R402). An access to an OFF domain wakes it and stalls until it is ON. -/
  | firstAccessWake (t : Tick) (d : Nat)
  /-- WAKE_STALL_TIMEOUT (R402). Credit is still refused 10 ms after the access began, so the access fails. -/
  | wakeStallTimeout (t : Tick) (d : Nat)
  /-- LEDGER_CAP_WRITE (R386). A write sets a rail's cap at once, or is refused below BOOKED. -/
  | ledgerCapWrite (t : Tick) (r : Req) (rail v : Nat)
  /-- NAP_GATE (R395). 0.5 µs after the previous slot, the converters and chains of every tile are gated for a nap slot. -/
  | napGate (t : Tick)
  /-- NAP_BIAS (R395). 25.0 µs before the next non-nap slot, the gated blocks are biased again. -/
  | napBias (t : Tick)
  /-- HK_ROUND_START (R407). At each 10 ms multiple a slow round of 247 conversions starts. -/
  | hkRoundStart (t : Tick)
  /-- HK_CONVERSION (R406). A 1 µs conversion completes, is written to the ring and feeds the hardware trips. -/
  | hkConversion (t : Tick) (code : Nat)
  /-- HK_REF_READY (R408). 2.0 ms after the reference buffer is enabled, conversions are valid. -/
  | hkRefReady (t : Tick)
  /-- HK_ONESHOT (R409). A write queues one conversion for the next idle microsecond. -/
  | hkOneshot (t : Tick) (r : Req) (v : Nat)
  /-- BAND_JUDGE (R411). Once per round the control processor judges sensors, areas, bands, rails and limits. -/
  | bandJudge (t : Tick)
  /-- VSWR_CAL (R415). Every VSWR_CAL_PERIOD the monitor takes a privileged ORX grant to calibrate one path's forward intercept. -/
  | vswrCal (t : Tick) (x : Nat) (pwr : Option Int)
  /-- RFL_TRIP (R413). DETR_n stays above RFL_THR for RFL_DEGLITCH, and the path makes a fast stop. -/
  | rflTrip (t : Tick) (path : Nat)
  /-- RFL_RETRY_CLEAR (R414). RFL_HOLDOFF after a trip in retry mode, PATH_TX_BLOCK[3] clears. -/
  | rflRetryClear (t : Tick) (path : Nat)
  /-- AUX_CODE (R418). A code write moves an aux DAC output at once, or after the deglitch hold. -/
  | auxCode (t : Tick) (r : Req) (x v : Nat)
  /-- DEGLITCH_HOLD_END (R418). The deglitch hold ends, and the output moves to the new code. -/
  | deglitchHoldEnd (t : Tick) (x : Nat)
  /-- AUX_COMPLIANCE (R419). A current output stays for 10 µs near VDDA_18, or leaves it, and sets or clears AUX_COMPL. -/
  | auxCompliance (t : Tick) (x : Nat) (on : Bool)
  /-- GB_FAULT_DETECT (R420). A gate-bias cause appears, such as a readback mismatch for 2 µs, and the path's fault latches. -/
  | gbFaultDetect (t : Tick) (path cause : Nat) (on : Bool)
  /-- FW_VERIFY (R433). A write starts verification of the bundle in patch staging. -/
  | fwVerify (t : Tick) (r : Req) (v : Nat)
  /-- FW_VERIFY_DONE (R433). Verification ends, and the image is copied to the inactive bank or the load fails. -/
  | fwVerifyDone (t : Tick)
  /-- FW_CONFIRM (R435). A write confirms trial firmware and starts the fuse blows. -/
  | fwConfirm (t : Tick) (r : Req) (v : Nat)
  /-- FW_TRIAL_EXPIRY (R435). FW_TRIAL_TIME passes without a watchdog restart, and the firmware is confirmed. -/
  | fwTrialExpiry (t : Tick)
  /-- OTP_FUSE_BLOW (R435). A 1 ms fuse blow completes and is read back, retried or faulted. -/
  | otpFuseBlow (t : Tick) (ok : Bool)
  /-- WATCHDOG_EXPIRY (R455). The firmware watchdog expires and restarts the control processor, reverting a trial under R436. -/
  | watchdogExpiry (t : Tick)
  /-- BOOT_CANDIDATE_DONE (R437). The ROM finishes reading and checking a boot candidate and starts it, tries the next, or enters recovery. -/
  | bootCandidateDone (t : Tick) (v0 v1 : Nat) (bundle : List Nat)
  /-- SESSION_CHALLENGE (R439). A read issues a fresh 32-byte challenge bound to the reader. -/
  | sessionChallenge (t : Tick) (r : Req)
  /-- CHALLENGE_EXPIRY (R439). A challenge expires after 60 s. -/
  | challengeExpiry (t : Tick)
  /-- SESSION_RESP_RSA (R439). The requester writes its RSA signature of the session message. -/
  | sessionRespRsa (t : Tick) (r : Req) (v : Nat)
  /-- SESSION_RESP_SLH (R439). The requester writes its SLH-DSA signature of the session message. -/
  | sessionRespSlh (t : Tick) (r : Req) (v : Nat)
  /-- SESSION_OPEN (R440). A write is judged and opens a Maintain or Vendor session on lock 26. -/
  | sessionOpen (t : Tick) (r : Req) (slot : Nat)
  /-- SESSION_CLOSE (R440). The holder ends its session. -/
  | sessionClose (t : Tick) (r : Req) (v : Nat)
  /-- SESSION_LOCKOUT_END (R440). The 60 s lockout after five failures ends. -/
  | sessionLockoutEnd (t : Tick)
  /-- CRED_KEYS (R441). A write enrols a credential slot. -/
  | credKeys (t : Tick) (r : Req) (n v : Nat)
  /-- CRED_REVOKE (R441). A write revokes a credential slot and ends any session opened with it. -/
  | credRevoke (t : Tick) (r : Req) (n : Nat)
  /-- ATTEST_REQ (R442). A nonce write snapshots the attestation body and starts signing. -/
  | attestReq (t : Tick) (r : Req) (nonce : Nat)
  /-- ATTEST_RSA_DONE (R442). The RSA signature of the report is complete. -/
  | attestRsaDone (t : Tick)
  /-- ATTEST_SLH_DONE (R442). The SLH-DSA signature of the report is complete. -/
  | attestSlhDone (t : Tick)
  /-- RAIL_GOOD (R446). A rail monitor reports good after 500 µs above 92 %. -/
  | railGood (t : Tick) (rail : Nat)
  /-- RAIL_BAD (R446). A rail falls below 88 % for 2 µs, which causes a power-on reset. -/
  | railBad (t : Tick) (rail : Nat)
  /-- RESET_HOLD_EXPIRY (R446). 5.0 ms after every rail is good, reset is released. -/
  | resetHoldExpiry (t : Tick) (role src : Nat) (auto : Bool)
  /-- RESET_N_ASSERT (R455). RESET_N held low for at least 1 µs starts a pin reset. -/
  | resetNAssert (t : Tick)
  /-- RESET_N_RELEASE (R455). Internal reset is released 100 µs after RESET_N is deasserted. -/
  | resetNRelease (t : Tick) (role src : Nat) (auto : Bool)
  /-- RESET_REQ_PIN (R455). RESET_REQ kind 1 performs a pin reset. -/
  | resetReqPin (t : Tick) (r : Req)
  /-- RESET_REQ_RESTART (R455). RESET_REQ kind 2 performs a control restart. -/
  | resetReqRestart (t : Tick) (r : Req)
  /-- RESET_REQ_DOMAIN (R456). RESET_REQ kind 3 resets one domain's logic for 10 µs. -/
  | resetReqDomain (t : Tick) (r : Req) (d : Nat)
  /-- CHILD_RESET (R457). A write sends LMG RESET on an ACTIVE child port. -/
  | childReset (t : Tick) (r : Req) (n v : Nat)
  /-- FLASH_MIRROR_WRITE (R449). The calibration store is written to the older flash mirror hourly, after credential changes and at Dormant entry. -/
  | flashMirrorWrite (t : Tick)
  /-- VID_STEP (R451). Every 20 ms after start-up, VID rises one step toward the stored AVS code. -/
  | vidStep (t : Tick)
  /-- UNLOCK_ALARM_CLEAR (R188). A clock or LO unlock alarm clears once lock has held for 1.0 s. -/
  | unlockAlarmClear (t : Tick) (ix : Nat)
  /-- DOMAIN_READY (R402). A domain that was woken, powered up or reset reaches ON after its ready time of Table 16-12, and stalled accesses to it proceed. -/
  | domainReady (t : Tick) (d : DomUp)
  /-- STANDBY_REACHED (R141). An LO domain or synthesiser completes its Sleep-to-Standby transition, after 40 µs with an external reference or 2.0 ms on the crystal, and its VCO calibration or band search begins. -/
  | standbyReached (t : Tick) (lo : Nat)
  /-- STARTUP_STEP_DONE (R452). A step of the start-up order of Table 19-4 completes, such as a PLL lock, the firmware start or the calibration-store load, and the following step begins. -/
  | startupStepDone (t : Tick) (bad : List Nat)
  /-- REF_SLEW_DONE (R171). The slew of REFX back onto a restored external REF completes, REF_STATUS returns to external in use and REF_LOST is cleared. -/
  | refSlewDone (t : Tick)
  /-- TIME_MISS_EXPIRY (R301). TIME_MISS_MAX exchange intervals pass with no exchange, for example after port U leaves ACTIVE, and a locked node goes UNLOCKED. -/
  | timeMissExpiry (t : Tick)
  /-- PRBS_CHECKER_SYNC (R284). A lane's PRBS checker declares sync after 64 matching bits, or loses sync at more than 256 errors in 1,024 bits and counts LANE_PRBS_RESYNC. -/
  | prbsCheckerSync (t : Tick) (ix : Nat) (on : Bool) (n errs : Nat)
  /-- HIERARCHY_ALARM_CLEAR (R331). CHILD_ADDR_MISMATCH or ROLE_CONFLICT clears once its condition has been absent for 1 s. -/
  | hierarchyAlarmClear (t : Tick) (p : Nat)
deriving DecidableEq, Repr

end Sys2Proof
end

