-- ==== Sys2Proof/Decode.lean ====
section
/-!
DEFINITION. The word form of a command: the table of operations and events gives no row any bits.
-/

namespace Sys2Proof

/-- The command that a word of the table's bits spells: no row of the table has bits, so no word spells one. -/
def decodeTableWord (_nbits _w : Nat) : Option Instr := none

end Sys2Proof
end

