-- ==== Sys2Proof/Config.lean ====
section
/-!
DEFINITION. What one implementation fixes and the spec does not state, as constants without a body: nothing in
Lean can evaluate them, so a statement about them holds for every value (assumptions 2 and 4).
-/

namespace Sys2Proof.Config

/-- The n-th free value drawn: a number the spec leaves open (assumption 2). -/
opaque freeValue : Nat → Nat

/-- The device number held in OTP, 64 bits (R491). -/
opaque uniqueId : Nat

/-- The values recorded in OTP at Nalhel test: retired DAC cells and spare sub-ADC of a path (R163), by
what (0 DAC_RETIRED_I, 1 DAC_RETIRED_Q, 2 ADC_SPARE) and path. -/
opaque otpPath : Nat → Nat → Nat

/-- DEST of a class A packet: the spec says only that it is not checked (R324). -/
opaque classADest : Nat

/-- SHA-384 of a byte string (R431, R442), as 48 bytes read as a number. -/
opaque sha384 : List Nat → Nat

/-- RSASSA-PSS verification: modulus, message, signature (R431, R439). -/
opaque rsaOk : Nat → List Nat → Nat → Bool

/-- SLH-DSA verification: public key, message, signature (R431, R439). -/
opaque slhOk : Nat → List Nat → Nat → Bool

/-- The device's RSASSA-PSS signature of a message, with a salt (R428, R442). -/
opaque rsaSign : List Nat → Nat → Nat

/-- The device's SLH-DSA signature of a message, with the randomness it uses (R428, R442). -/
opaque slhSign : List Nat → Nat → Nat

/-- The device certificates in DER, as bytes: 0 RSA, 1 SLH-DSA (R429). -/
opaque certificate : Nat → List Nat

/-- The firmware key slots in OTP: SHA-384 of RSA_N ‖ SLH_PK (R431). -/
opaque keyHash : Nat → Nat

/-- The vendor credential in OTP: RSA modulus and SLH-DSA key (R439). -/
opaque vendorRsa : Nat
opaque vendorSlh : Nat

/-- LOCK_LEFT of a lease of more microseconds than 32 bits hold, by the microseconds left (Table 14-17 states no value). -/
opaque lockLeftLong : Nat → Nat

/-- The power domain in which the source of an object's index lies (R358 names no domain for an object). -/
opaque srcDomain : Nat → Nat

/-! ### The signal chains (assumption 68) -/

/-- What the undisclosed butterflies and twiddles add to a transform of 4,096 points: its sign, its input by bin, its
output's index (R90, R112). -/
opaque dftDev : Int → List (Nat × Int × Int) → Nat → Int × Int

/-- Taps h0 to h45 of the channel filter's built-in set, by SCS, CAR_NRB and tap (R92). -/
opaque chfTap : Nat → Nat → Nat → Int

/-- Taps at odd distances from the centre of the fixed half-bands: 0 carrier downlink, 1 path downlink, 2 carrier uplink
(R92, R94, Table 5-1). -/
opaque hbTap : Nat → Nat → Int

/-- Polyphase taps of the resamplers, 0 downlink and 1 uplink, by branch and tap (R95, R110). -/
opaque rsTap : Nat → Nat → Nat → Int

/-- What the interleave corrections held by a path add to an ADC sample: the values ADC_SPARE left, the sample's number, its code
(R109). -/
opaque ilvFix : List Int → Int → Int × Int → Int × Int

/-- Phase in units of 2^-32 cycle at which an oscillator starts, by direction, tile, carrier and start (R93). -/
opaque ncoStart : Nat → Nat → Nat → Nat → Nat

/-- What the undisclosed widths of an engine's basis add to its exact output, in units of 2^-60 of full scale, by term set,
bank and input (R190). -/
opaque dpdDev : List (Nat × Int × Int) → List (Int × Int) → Int × Int

/-- A byte of the program that a core of the cluster loads from patch RAM, by the measurement of the firmware that runs and its offset
(R209; patch RAM is not in the address map). -/
opaque dcProgram : Nat → Nat → Nat

end Sys2Proof.Config
end

