-- ==== Sys2Proof/Machine/Codes.lean ====
section
/-!
DEFINITION. Status codes (Tables 14-5 and 10-14 and the status lists of chapters 15 to 19), alarm codes (Table
14-8 and the lists of chapters 15 to 19: group × 1,024 + number), classes and domain numbers.
-/

namespace Sys2Proof.Machine

namespace St
def ok := 0x00
def differs := 0x01
def held := 0x02
def noObject := 0x10
def noSubindex := 0x11
def readOnly := 0x12
def writeOnly := 0x13
def noAccess := 0x14
def badLength := 0x15
def badValue := 0x16
def badPath := 0x17
def cpAbsent := 0x18
def stageOwned := 0x20
def nothingStaged := 0x21
def badActivation := 0x22
def commitFull := 0x23
def ledgerRefused := 0x24
def lockHeld := 0x25
def notOwner := 0x26
def wtSizeBad := 0x40
def stageBusy := 0x41
def swapTooLate := 0x42
def schedTorn := 0x43
def carPlacement := 0x44
def streamDup := 0x45
def ulBurstTooLong := 0x46
def radioSchedBad := 0x47
def feOrder := 0x48
def cxModeBad := 0x49
def divAuto := 0x4A
def loMapBad := 0x4B
def dpdAdapting := 0x4C
def dpdCapacity := 0x4D
def orxBurstShort := 0x4E
def benchOff := 0x4F
def wmBad := 0x50
def laneBusy := 0x51
def timeNotFree := 0x52
def carriersOn := 0x53
def timePast := 0x54
def roleWorker := 0x55
def addrSet := 0x56
def addrAuto := 0x57
def powerRefused := 0x70
def abortedWake := 0x71
def capBelowBooked := 0x72
def powerBusy := 0x73
def noWakeSource := 0x74
def domainFixed := 0x75
def dmaBusy := 0x60
def eccUncorr := 0x61
def capBusy := 0x62
def spanLive := 0x80
def hkBusy := 0x81
def fwFormat := 0x90
def fwWrongPart := 0x91
def fwKey := 0x92
def fwRollback := 0x93
def fwDigest := 0x94
def fwSigRsa := 0x95
def fwSigSlh := 0x96
def fwBusy := 0x97
def sessionBad := 0x98
def sessionLockout := 0x99
def credSlotUsed := 0x9A
def attestBusy := 0x9B
def recovery := 0x9C
def resetDomainBad := 0xA0
def childNotActive := 0xA1
def tagBusy := 0xE1
def badTag := 0xE2
def noRoute := 0xE3
def portBusy := 0xE4
def timeout := 0xE5
def badOpcode := 0xE6
def badAlign := 0xE7
def badAddr := 0xE8
end St

namespace Al
def cpAbsent := 0x0001
def cfgMismatch := 0x0002
def commitLease := 0x0003
def refDrift := 0x0401
def refUnlockedTime := 0x0402
def schedBad := 0x0403
def schedTorn := 0x0404
def widxRange := 0x0405
def widxInvalid := 0x0406
def sectionBad := 0x0407
def dlFormat := 0x0801
def dlSat := 0x0802
def chfPending := 0x0803
def eirpShort := 0x0804
def hopBudget := 0x0C01
def ulHeightBad := 0x0C02
def ulFormat := 0x0C03
def ulTallyOver := 0x0C04
def ulScaleBad := 0x0C05
def ulChildRemoved := 0x0C06
def ulSat := 0x0C07
def ulChfPending := 0x0C08
def lateLo := 0x1001
def gbFault := 0x1002
def cxTimeout := 0x1003
def cxLease := 0x1004
def feFastStop := 0x1005
def clkUnlock := 0x1401
def refLost := 0x1402
def loUnlock := 0x1403
def loNoSpare := 0x1404
def fconvSpur := 0x1405
def dpdSat := 0x1801
def dpdRollback := 0x1802
def dpdStale := 0x1803
def orxLease := 0x1804
def orxPrivLong := 0x1805
def dcEcc := 0x1806
def rextFault := 0x1C01
def calReject := 0x1C02
def calOverdue := 0x1C03
def benchStarved := 0x1C04
def calStartFail := 0x1C05
def ageMargin := 0x1C06
def avsMax := 0x1C07
def paAgeing := 0x1C08
def fcStall := 0x2001
def epmMiss := 0x2002
def laneDrop := 0x2003
def portDown := 0x2004
def linkErr := 0x2005
def timeUnlock := 0x2401
def rootSourceLost := 0x2402
def sysOffsetMismatch := 0x2403
def tciOverflow := 0x2404
def todBad := 0x2405
def roleStrap := 0x2801
def roleConflict := 0x2802
def addrAutoDepth := 0x2803
def childAddrMismatch := 0x2804
def depthExceeded := 0x2805
def ledgerOver := 0x3001
def powerRefused := 0x3002
def retCrc := 0x3003
def wakeStall := 0x3004
def dmaFault := 0x2C01
def dmaLease := 0x2C02
def memEcc := 0x2C03
def hkRingOverrun := 0x2C04
def rflTrip := 0x3401
def vswrWarn := 0x3402
def tsSuspect := 0x3403
def tjWarn := 0x3404
def tjTrip := 0x3405
def vmidFault := 0x3406
def auxCompliance := 0x3407
def railRange := 0x3408
def idsLimit := 0x3409
def thLimit := 0x340A
def fwVerifyFail := 0x3801
def fwReverted := 0x3802
def sessionLockout := 0x3803
def bootFallback := 0x3804
def rollbackExhausted := 0x3805
def otpFault := 0x3806
def bootsrcStrap := 0x3C01
def brownout := 0x3C02
def calStoreLost := 0x3C03
def linkReset := 0x3C04
end Al

namespace Cls
def t := 0
def m := 1
def c := 2
def d := 3
def u := 4
def a := 5
end Cls

-- Power domains as R388 numbers them.
namespace Dom
def bf := 12
def dp := 13
def dc := 14
def lu := 15
def ld1 := 16
def ld2 := 17
def cp := 18
def hk := 19
def tm := 20
def ao := 21
end Dom

end Sys2Proof.Machine
end

