-- ==== Sys2Proof/Machine/Bits.lean ====
section
/-!
DEFINITION. Bit fields, signed encodings, byte order, rounding, and the two check codes of R247.
Object values and register words are carried as natural numbers, truncated to their width where they are stored.
-/

namespace Sys2Proof.Machine

/-- One cycle of FRAME, which is one sample at 491.52 MS/s, in ticks. -/
def tNco : Nat := tSample / 4

/-- Bits [lo+n-1:lo] of a word (R2: bit 0 is the least significant). -/
def bits (v lo n : Nat) : Nat := (v >>> lo) % 2 ^ n

/-- Bit i of a word. -/
def bit (v i : Nat) : Bool := v.testBit i

/-- A word with bit i set to b. -/
def withBit (v i : Nat) (b : Bool) : Nat :=
  if v.testBit i = b then v else v ^^^ (1 <<< i)

/-- One for true, zero for false. -/
def b2n (b : Bool) : Nat := if b then 1 else 0

/-- Two's complement value of the low w bits of v (Table 14-1). -/
def toInt (w v : Nat) : Int :=
  let u := v % 2 ^ w
  if 2 * u < 2 ^ w then (u : Int) else (u : Int) - (2 ^ w : Nat)

/-- The w-bit two's complement encoding of an integer. -/
def ofInt (w : Nat) (i : Int) : Nat := (i % ((2 ^ w : Nat) : Int)).toNat

/-- An integer clamped to lo..hi. -/
def clampI (lo hi i : Int) : Int := if i < lo then lo else if hi < i then hi else i

/-- An integer saturated to w-bit two's complement (R83, R300). -/
def satI (w : Nat) (i : Int) : Int := clampI (-(2 ^ (w - 1) : Nat)) ((2 ^ (w - 1) : Nat) - 1) i

/-- Ceiling of a / b. -/
def ceilDiv (a b : Nat) : Nat := (a + b - 1) / b

/-- i / 2^n rounded to nearest, ties to even (R83). -/
def roundHE (i : Int) (n : Nat) : Int :=
  let d : Int := (2 ^ n : Nat)
  let q := i / d
  let r := i % d
  if 2 * r < d then q else if d < 2 * r then q + 1 else if q % 2 = 0 then q else q + 1

/-- Division that truncates toward zero (R300). -/
def truncDiv (a b : Int) : Int := Int.tdiv a b

/-- The n bytes of v, most significant first (R3). -/
def bytesBE : Nat → Nat → List Nat
  | 0, _ => []
  | n + 1, v => (v >>> (8 * n)) % 256 :: bytesBE n v

/-- The number whose bytes, most significant first, are the list. -/
def ofBytesBE (l : List Nat) : Nat := l.foldl (fun a b => a * 256 + b % 256) 0

/-- The number whose bytes, least significant first, are the list (R3, device address map). -/
def ofBytesLE : List Nat → Nat
  | [] => 0
  | b :: l => b % 256 + 256 * ofBytesLE l

/-- The n bytes of v, least significant first. -/
def bytesLE : Nat → Nat → List Nat
  | 0, _ => []
  | n + 1, v => v % 256 :: bytesLE n (v / 256)

/-- Words of a byte list, each most significant byte first. -/
def wordsBE : List Nat → List Nat
  | a :: b :: c :: d :: l => ofBytesBE [a, b, c, d] :: wordsBE l
  | _ => []

/-- Number of bits set. -/
def popCount : Nat → Nat → Nat
  | 0, _ => 0
  | n + 1, v => b2n (v.testBit n) + popCount n v

/-- Number of bits of v's binary form (0 for 0), at most the first argument. -/
def bitLen : Nat → Nat → Nat
  | 0, _ => 0
  | n + 1, v => if v.testBit n then n + 1 else bitLen n v

/-- One bit of a check code of width w: shift left and fold in the polynomial. -/
def crcBit (w poly c : Nat) : Nat :=
  if c.testBit (w - 1) then ((c <<< 1) % 2 ^ w) ^^^ poly else (c <<< 1) % 2 ^ w

/-- One byte into a check code, most significant bit first. -/
def crcByte (w poly c b : Nat) : Nat :=
  let c0 := c ^^^ ((b % 256) <<< (w - 8))
  crcBit w poly (crcBit w poly (crcBit w poly (crcBit w poly
    (crcBit w poly (crcBit w poly (crcBit w poly (crcBit w poly c0)))))))

/-- The CRC-16 of R247: polynomial x^16 + x^12 + x^5 + 1, initial value 0xFFFF, no final XOR. -/
def crc16 (l : List Nat) : Nat := l.foldl (crcByte 16 0x1021) 0xFFFF

/-- The CRC-32 of R247: polynomial 0x04C11DB7, initial value and final XOR 0xFFFFFFFF. -/
def crc32 (l : List Nat) : Nat := (l.foldl (crcByte 32 0x04C11DB7) 0xFFFFFFFF) ^^^ 0xFFFFFFFF

/-- Greatest of a list of naturals, 0 for none. -/
def listMax (l : List Nat) : Nat := l.foldl max 0

/-- Sum of a list of naturals. -/
def listSum (l : List Nat) : Nat := l.foldl (· + ·) 0

/-- The i-th element of a list, or a default. -/
def lget {α : Type} (l : List α) (i : Nat) (d : α) : α := l.getD i d

/-- A list with its i-th element put through f. -/
def lmod {α : Type} (l : List α) (i : Nat) (f : α → α) : List α :=
  match l, i with
  | [], _ => []
  | a :: t, 0 => f a :: t
  | a :: t, i + 1 => a :: lmod t i f

/-- Inserts an element before the first one with a greater rank. -/
def insertBy {α : Type} (f : α → Nat) (a : α) : List α → List α
  | [] => [a]
  | b :: l => if f a < f b then a :: b :: l else b :: insertBy f a l

/-- A list in rising order of a rank, equal ranks in their order. -/
def sortBy {α : Type} (f : α → Nat) (l : List α) : List α := l.foldl (fun acc a => insertBy f a acc) []

/-! ### Sparse maps in one canonical form: keys strictly rising, no entry equal to the default. -/

/-- A sparse map from naturals: sorted by key, no repeats. -/
abbrev SMap (α : Type) := List (Nat × α)

/-- The value at a key, or the default of an unlisted key. -/
def smGet {α : Type} (d : α) : SMap α → Nat → α
  | [], _ => d
  | (k, v) :: t, i => if k = i then v else smGet d t i

/-- The map without a key. -/
def smErase {α : Type} : SMap α → Nat → SMap α
  | [], _ => []
  | (k, v) :: t, i => if k = i then smErase t i else (k, v) :: smErase t i

/-- The map with a key at a value, sorted. -/
def smInsert {α : Type} : SMap α → Nat → α → SMap α
  | [], i, x => [(i, x)]
  | (k, v) :: t, i, x =>
    if k = i then (i, x) :: t else if i < k then (i, x) :: (k, v) :: t else (k, v) :: smInsert t i x

/-- Writing a value: the default removes the entry, any other value stands in order. -/
def smSet {α : Type} [DecidableEq α] (d : α) (m : SMap α) (i : Nat) (x : α) : SMap α :=
  if x = d then smErase m i else smInsert m i x

/-- A fixed number of like things, held as a sparse map: the i-th of n put through f; there is none past the n-th. -/
def amod {α : Type} [DecidableEq α] (n : Nat) (d : α) (m : SMap α) (i : Nat) (f : α → α) : SMap α :=
  if i < n then smSet d m i (f (smGet d m i)) else m

/-- The same, with the i-th of n made afresh. -/
def atab {α : Type} [DecidableEq α] (n : Nat) (d : α) (f : Nat → α) : SMap α :=
  (List.range n).foldl (fun m i => smSet d m i (f i)) []

/-- Keys strictly rising, all above a bound, and no value equal to the default. -/
def smFrom {α : Type} [DecidableEq α] (d : α) : Nat → SMap α → Bool
  | _, [] => true
  | b, (k, v) :: t => decide (b ≤ k) && decide (v ≠ d) && smFrom d (k + 1) t

/-- The canonical form of a sparse map. -/
def smWf {α : Type} [DecidableEq α] (d : α) (m : SMap α) : Bool := smFrom d 0 m

end Sys2Proof.Machine
end

