-- ==== Sys2Proof/Machine/DictTypes.lean ====
section
/-!
DEFINITION. The types of the object dictionary's rows (R332 to R334, Table 14-1).
-/

namespace Sys2Proof.Machine

/-- Object types of Table 14-1; the number is the length in bytes. -/
inductive ObjTy where
  | bool | u (n : Nat) | i (n : Nat) | time96 | oct (n : Nat) | dom (n : Nat)
deriving DecidableEq, Repr

/-- Length in bytes (Table 14-1). -/
def ObjTy.len : ObjTy → Nat
  | .bool => 1 | .u n => n | .i n => n | .time96 => 12 | .oct n => n | .dom n => n

/-- Access modes (R334). -/
inductive ObjMode where | ro | wo | rw | rws
deriving DecidableEq, Repr

/-- Default of an object: one value, one per subindex of the row, or one of two computed patterns. -/
inductive ObjDflt where
  | c (v : Nat)
  | list (l : List Nat)
  | portU            -- 1 for port U, 0 for D1 and D2 (Table 10-19)
  | rank             -- 63 − 16c − s at subindex 16c + s + 1 (Table 10-22)
deriving DecidableEq, Repr

/-- Range of a written value, as its object table gives it. -/
inductive ObjRng where
  | any
  | rng (lo hi : Int)
  | oneOf (l : List Nat)
  | zeroOr (lo hi : Nat)   -- 0, or lo to hi
  | orFF (hi : Nat)        -- 0 to hi, or 0xFF
  | nrb                    -- a transmission bandwidth of TS 38.101-1 (Table 4-14)
  | bank                   -- [2:0] names a bank 0 to 5 (Table 8-10)
deriving DecidableEq, Repr

/-- One row of an object table. -/
structure ObjRow where
  lo : Nat
  hi : Nat
  ty : ObjTy
  mode : ObjMode
  lvl : Nat            -- 0 Observe, 1 Operate, 2 Maintain, 3 Vendor
  dflt : ObjDflt
  rng : ObjRng
  mask : Nat           -- bits that are not reserved; 0: every bit
  name : String
deriving DecidableEq, Repr

/-- One index: its highest subindex and its rows. -/
structure ObjIndex where
  index : Nat
  count : Nat
  rows : List ObjRow
deriving DecidableEq, Repr

end Sys2Proof.Machine
end

