-- ==== Sys2Proof/Machine/Dict.lean ====
section
/-!
DEFINITION. The object dictionary of the device, row for row from the object tables of the spec
(the tables headed "Index.Sub | Name | Type | Access | Default | Unit | Meaning" of chapters 02 to 19).
Each row: first and last subindex, type, mode, level, default, range, mask of the bits that are not reserved
(0: all), name. Where a table gives no default ("—") the row carries 0, a DESIGN CHOICE of assumption 3.
-/

namespace Sys2Proof.Machine

open ObjTy ObjMode ObjDflt ObjRng

/-- The indices 0x1000 to 0x10FF. -/
def dict10 : List ObjIndex := [
  ⟨0x1000, 8, [
    ⟨0x01, 0x01, .oct 8, ro, 0, .c 4706605990478348288, .any, 0, "DEV_NAME"⟩,
    ⟨0x02, 0x02, .oct 2, ro, 0, .c 16689, .any, 0, "STEPPING"⟩,
    ⟨0x03, 0x03, .oct 16, ro, 0, .c 86821556162142559311986549325303906304, .any, 0, "ORDER_CODE"⟩,
    ⟨0x04, 0x04, .u 4, ro, 0, .c 0, .any, 0, "FW_VERSION"⟩,
    ⟨0x05, 0x05, .u 1, ro, 0, .c 0, .any, 0, "FW_BANK"⟩,
    ⟨0x06, 0x06, .u 8, ro, 0, .c 0, .any, 0, "UNIQUE_ID"⟩,
    ⟨0x07, 0x07, .u 4, ro, 0, .c 0, .any, 0, "DDF_DIGEST"⟩,
    ⟨0x08, 0x08, .oct 8, ro, 0, .c 5638872081728536576, .any, 0, "VENDOR"⟩]⟩,
  ⟨0x1010, 3, [
    ⟨0x01, 0x01, .u 1, rw, 2, .c 1, .rng 0 1, 0, "LEVEL_REMOTE"⟩,
    ⟨0x02, 0x02, .u 1, rw, 2, .c 1, .rng 0 1, 0, "LEVEL_LHP"⟩,
    ⟨0x03, 0x03, .u 1, ro, 0, .c 0, .any, 0, "MY_LEVEL"⟩]⟩,
  ⟨0x1011, 28, [
    ⟨0x01, 0x1C, .u 4, ro, 0, .c 0, .any, 0, "LOCK_OWNER"⟩]⟩,
  ⟨0x1012, 28, [
    ⟨0x01, 0x1C, .u 4, ro, 0, .c 4294967295, .any, 0, "LOCK_LEFT"⟩]⟩,
  ⟨0x1013, 28, [
    ⟨0x01, 0x1C, .u 4, ro, 0, .c 0, .any, 0, "LOCK_EXPIRIES"⟩]⟩,
  ⟨0x1020, 8, [
    ⟨0x01, 0x01, .u 1, rw, 1, .c 75, .rng 2 77, 0, "LHP_HIGH"⟩,
    ⟨0x02, 0x02, .u 1, rw, 1, .c 25, .rng 1 76, 0, "LHP_LOW"⟩,
    ⟨0x03, 0x03, .u 4, ro, 0, .c 0, .any, 0, "LHP_CRC_ERR"⟩,
    ⟨0x04, 0x04, .u 4, ro, 0, .c 0, .any, 0, "LHP_LEN_ERR"⟩,
    ⟨0x05, 0x05, .u 4, ro, 0, .c 0, .any, 0, "LHP_OVERFLOW"⟩,
    ⟨0x06, 0x06, .u 4, ro, 0, .c 0, .any, 0, "LHP_ABANDONED"⟩,
    ⟨0x07, 0x07, .u 4, ro, 0, .c 0, .any, 0, "LHP_FRAMES"⟩,
    ⟨0x08, 0x08, .bool, wo, 1, .c 0, .any, 0, "CLEAR"⟩]⟩,
  ⟨0x1021, 3, [
    ⟨0x01, 0x01, .dom 7200, rw, 1, .c 0, .any, 0xFFFFFF98 * ((2 ^ 57600 - 1) / (2 ^ 32 - 1)), "SWP_MAP"⟩,
    ⟨0x02, 0x02, .u 2, rw, 1, .c 1000, .rng 100 10000, 0, "SWP_REFRESH"⟩,
    ⟨0x03, 0x03, .u 2, rw, 1, .c 10, .rng 1 1000, 0, "SWP_MAX_AGE"⟩]⟩]

/-- The indices 0x1100 to 0x11FF. -/
def dict11 : List ObjIndex := [
  ⟨0x1100, 14, [
    ⟨0x01, 0x01, .u 1, rws, 1, .c 0, .rng 0 2, 0, "NODE_ROLE"⟩,
    ⟨0x02, 0x02, .u 4, rw, 1, .c 0, .any, 0x3FFFF, "NODE_ADDR"⟩,
    ⟨0x03, 0x03, .u 1, rws, 1, .c 0, .rng 0 1, 0, "ADDR_MODE"⟩,
    ⟨0x04, 0x04, .u 1, ro, 0, .c 255, .any, 0, "NODE_DEPTH"⟩,
    ⟨0x05, 0x05, .u 4, ro, 0, .c 1, .any, 0, "SUBTREE_NODES"⟩,
    ⟨0x06, 0x06, .u 1, ro, 0, .c 0, .any, 0, "SUBTREE_DEPTH"⟩,
    ⟨0x07, 0x07, .u 8, ro, 0, .c 0, .any, 0, "SUMMARY"⟩,
    ⟨0x08, 0x08, .u 8, ro, 0, .c 0, .any, 0, "OWN_SUMMARY"⟩,
    ⟨0x09, 0x09, .bool, rws, 1, .c 1, .any, 0, "ALARM_FWD"⟩,
    ⟨0x0A, 0x0A, .u 2, rws, 1, .c 32, .rng 1 128, 0, "ALARM_RATE"⟩,
    ⟨0x0B, 0x0B, .u 4, ro, 0, .c 0, .any, 0, "ALARM_DROPPED"⟩,
    ⟨0x0C, 0x0C, .u 4, ro, 0, .c 0, .any, 0, "ROUTE_MISS"⟩,
    ⟨0x0D, 0x0D, .u 4, ro, 0, .c 0, .any, 0, "PROXY_TIMEOUTS"⟩,
    ⟨0x0E, 0x0E, .bool, wo, 1, .c 0, .any, 0, "CLEAR"⟩]⟩,
  ⟨0x1101, 9, [
    ⟨0x01, 0x01, .u 4, rw, 1, .c 0, .any, 0x3FFFF, "CHILD_ADDR"⟩,
    ⟨0x02, 0x02, .u 4, ro, 0, .c 0, .any, 0, "CHILD_ADDR_ACT"⟩,
    ⟨0x03, 0x03, .u 8, ro, 0, .c 0, .any, 0, "CHILD_SUMMARY"⟩,
    ⟨0x04, 0x04, .u 4, ro, 0, .c 0, .any, 0, "CHILD_NODES"⟩,
    ⟨0x05, 0x05, .u 1, ro, 0, .c 0, .any, 0, "CHILD_DEPTH"⟩,
    ⟨0x06, 0x09, .u 8, rws, 1, .c 0, .any, 0x8003FFFF0003FFFF, "CHILD_ROUTE"⟩]⟩]

/-- The indices 0x1200 to 0x12FF. -/
def dict12 : List ObjIndex := [
  ⟨0x1200, 16, [
    ⟨0x01, 0x01, .u 1, rws, 1, .c 0, .rng 0 2, 0, "TIME_ROOT_SRC"⟩,
    ⟨0x02, 0x02, .u 1, rws, 1, .c 0, .rng 0 127, 0, "TIME_DOMAIN"⟩,
    ⟨0x03, 0x03, .u 2, rws, 1, .c 100, .rng 1 1000, 0, "TIME_SLEW"⟩,
    ⟨0x04, 0x04, .u 2, rws, 1, .c 4096, .rng 0 65535, 0, "TIME_KP"⟩,
    ⟨0x05, 0x05, .u 2, rws, 1, .c 32768, .rng 0 65535, 0, "TIME_KI"⟩,
    ⟨0x06, 0x06, .u 2, rws, 1, .c 20, .rng 1 1000, 0, "TIME_LOCK_THR"⟩,
    ⟨0x07, 0x07, .u 2, rws, 1, .c 100, .rng 2 10000, 0, "TIME_UNLOCK_THR"⟩,
    ⟨0x08, 0x08, .u 1, rws, 1, .c 16, .rng 2 255, 0, "TIME_MISS_MAX"⟩,
    ⟨0x09, 0x09, .u 4, rws, 1, .c 300, .any, 0, "TIME_HOLDOVER_MAX"⟩,
    ⟨0x0A, 0x0A, .time96, wo, 1, .c 0, .any, 0, "TIME_SET"⟩,
    ⟨0x0B, 0x0B, .u 1, ro, 0, .c 0, .any, 0, "TIME_STATE"⟩,
    ⟨0x0C, 0x0C, .time96, ro, 0, .c 0, .any, 0, "TIME_NOW"⟩,
    ⟨0x0D, 0x0D, .i 4, ro, 0, .c 0, .any, 0, "TIME_OFFSET"⟩,
    ⟨0x0E, 0x0E, .u 4, ro, 0, .c 0, .any, 0, "TIME_MEAN_DELAY"⟩,
    ⟨0x0F, 0x0F, .i 4, ro, 0, .c 0, .any, 0, "TIME_FREQ_ADJ"⟩,
    ⟨0x10, 0x10, .i 2, ro, 0, .c 0, .any, 0, "TIME_UTC_OFFSET"⟩]⟩,
  ⟨0x1201, 1, [
    ⟨0x01, 0x01, .u 8, rws, 1, .c 0, .rng 0 10239999999, 0, "SYS_OFFSET"⟩]⟩,
  ⟨0x1202, 3, [
    ⟨0x01, 0x03, .i 4, rws, 1, .c 0, .rng (-1000000) 1000000, 0, "PORT_ASYM"⟩]⟩,
  ⟨0x1203, 3, [
    ⟨0x01, 0x01, .bool, rws, 1, .c 0, .any, 0, "PPS_POLARITY"⟩,
    ⟨0x02, 0x02, .i 4, rws, 1, .c 0, .any, 0, "PPS_DELAY"⟩,
    ⟨0x03, 0x03, .u 1, ro, 0, .c 0, .any, 0, "ROOT_STATUS"⟩]⟩,
  ⟨0x1204, 6, [
    ⟨0x01, 0x01, .u 4, ro, 0, .c 0, .any, 0, "TIME_STEPS"⟩,
    ⟨0x02, 0x02, .u 4, ro, 0, .c 0, .any, 0, "TIME_UNLOCKS"⟩,
    ⟨0x03, 0x03, .u 4, ro, 0, .c 0, .any, 0, "EXCH_MISSED"⟩,
    ⟨0x04, 0x04, .u 4, ro, 0, .c 0, .any, 0, "TIME_MSG_BAD"⟩,
    ⟨0x05, 0x05, .u 4, ro, 0, .c 0, .any, 0, "TOD_ERR"⟩,
    ⟨0x06, 0x06, .bool, wo, 1, .c 0, .any, 0, "CLEAR"⟩]⟩,
  ⟨0x1208, 0, [
    ⟨0x00, 0x00, .u 4, rws, 1, .c 0, .rng 0 100000, 0, "TX_BOARD_DELAY"⟩]⟩,
  ⟨0x1209, 0, [
    ⟨0x00, 0x00, .u 4, rws, 1, .c 0, .rng 0 100000, 0, "RX_BOARD_DELAY"⟩]⟩,
  ⟨0x1220, 0, [
    ⟨0x00, 0x00, .u 4, rws, 1, .c 1200, .rng 1200 20000, 0, "UL_HOP_TIME"⟩]⟩,
  ⟨0x1221, 0, [
    ⟨0x00, 0x00, .u 1, rws, 1, .c 0, .rng 0 48, 0, "UL_HEIGHT"⟩]⟩,
  ⟨0x1222, 0, [
    ⟨0x00, 0x00, .u 4, rws, 1, .c 270, .rng 100 20000, 0, "UL_PKT_PITCH"⟩]⟩,
  ⟨0x1230, 6, [
    ⟨0x01, 0x01, .u 1, rws, 1, .c 0, .rng 0 2, 0, "TPO_MODE"⟩,
    ⟨0x02, 0x02, .time96, rws, 1, .c 0, .any, 0, "TPO_START"⟩,
    ⟨0x03, 0x03, .u 8, rws, 1, .c 2000000000, .rng 2000 2000000000000, 0, "TPO_PERIOD"⟩,
    ⟨0x04, 0x04, .u 4, rws, 1, .c 200000, .any, 0, "TPO_WIDTH"⟩,
    ⟨0x05, 0x05, .bool, rws, 1, .c 0, .any, 0, "TPO_POL"⟩,
    ⟨0x06, 0x06, .bool, rws, 1, .c 1, .any, 0, "TPO_GATE"⟩]⟩,
  ⟨0x1238, 5, [
    ⟨0x01, 0x01, .u 1, rws, 1, .c 0, .rng 0 3, 0, "TCI_EDGE"⟩,
    ⟨0x02, 0x02, .time96, ro, 0, .c 0, .any, 0, "TCI_STAMP"⟩,
    ⟨0x03, 0x03, .u 1, ro, 0, .c 0, .any, 0, "TCI_LEVEL"⟩,
    ⟨0x04, 0x04, .u 4, ro, 0, .c 0, .any, 0, "TCI_LOST"⟩,
    ⟨0x05, 0x05, .u 1, ro, 0, .c 0, .any, 0, "TCI_LAST_EDGE"⟩]⟩,
  ⟨0x123C, 4, [
    ⟨0x01, 0x04, .time96, wo, 1, .c 0, .any, 0, "TIME_ALARM"⟩]⟩]

/-- The indices 0x1F00 to 0x1FFF. -/
def dict1F : List ObjIndex := [
  ⟨0x1F00, 9, [
    ⟨0x01, 0x01, .u 4, wo, 1, .c 0, .any, 0xFFFFF800, "COMMIT"⟩,
    ⟨0x02, 0x02, .u 1, ro, 0, .c 0, .any, 0, "COMMIT_STATE"⟩,
    ⟨0x03, 0x03, .u 2, ro, 0, .c 0, .any, 0, "STAGED_COUNT"⟩,
    ⟨0x04, 0x04, .u 1, ro, 0, .c 0, .any, 0, "PENDING_COMMITS"⟩,
    ⟨0x05, 0x05, .u 4, ro, 0, .c 0, .any, 0, "COMMIT_ACT"⟩,
    ⟨0x06, 0x06, .u 1, ro, 0, .c 0, .any, 0, "COMMIT_LAST_STATUS"⟩,
    ⟨0x07, 0x07, .bool, wo, 1, .c 0, .any, 0, "STAGE_DISCARD"⟩,
    ⟨0x08, 0x08, .u 4, rw, 1, .c 10000, .rng 100 600000, 0, "STAGE_LEASE"⟩,
    ⟨0x09, 0x09, .u 4, ro, 0, .c 0, .any, 0, "COMMIT_LEASE_EXP"⟩]⟩]

/-- The indices 0x2000 to 0x20FF. -/
def dict20 : List ObjIndex := [
  ⟨0x2000, 96, [
    ⟨0x01, 0x60, .bool, rws, 1, .c 0, .any, 0, "PATH_TX_EN"⟩]⟩,
  ⟨0x2001, 96, [
    ⟨0x01, 0x60, .bool, rws, 1, .c 0, .any, 0, "PATH_RX_EN"⟩]⟩,
  ⟨0x2002, 96, [
    ⟨0x01, 0x60, .u 1, rw, 1, .c 20, .rng 0 63, 0, "TX_ATTEN"⟩]⟩,
  ⟨0x2003, 96, [
    ⟨0x01, 0x60, .u 1, rw, 1, .c 10, .rng 0 30, 0, "RX_ATTEN"⟩]⟩,
  ⟨0x2004, 96, [
    ⟨0x01, 0x60, .i 2, rws, 1, .c 0, .rng (-1000) 1000, 0, "TXON_SKEW"⟩]⟩,
  ⟨0x2005, 96, [
    ⟨0x01, 0x60, .bool, rws, 1, .c 0, .any, 0, "GATE_RX_MODE"⟩]⟩,
  ⟨0x2007, 96, [
    ⟨0x01, 0x60, .bool, wo, 1, .c 0, .any, 0, "GB_FAULT_CLEAR"⟩]⟩,
  ⟨0x2008, 12, [
    ⟨0x01, 0x0C, .i 2, rws, 1, .c 0, .rng (-1000) 1000, 0, "TRSW_SKEW"⟩]⟩,
  ⟨0x2009, 12, [
    ⟨0x01, 0x0C, .i 2, rws, 1, .c 0, .rng (-1000) 1000, 0, "LNABYP_SKEW"⟩]⟩,
  ⟨0x2020, 4, [
    ⟨0x01, 0x01, .u 1, rws, 1, .c 0, .rng 0 1, 0, "RADIO_MODE"⟩,
    ⟨0x02, 0x02, .u 1, rws, 1, .c 1, .rng 0 1, 0, "RADIO_SCS"⟩,
    ⟨0x03, 0x03, .u 1, rws, 1, .c 10, .any, 0, "RADIO_PERIOD"⟩,
    ⟨0x04, 0x04, .dom 160, rws, 1, .c 0, .any, 0, "RADIO_PATTERN"⟩]⟩,
  ⟨0x2040, 6, [
    ⟨0x01, 0x01, .u 1, rws, 1, .c 0, .rng 0 2, 0, "CX_ENABLE"⟩,
    ⟨0x02, 0x02, .u 4, rws, 1, .c 5000, .rng 100 100000, 0, "CX_WAIT_MAX"⟩,
    ⟨0x03, 0x03, .u 4, rws, 1, .c 2000, .rng 10 100000, 0, "CX_LEASE"⟩,
    ⟨0x04, 0x04, .bool, rws, 1, .c 0, .any, 0, "CX_TX_MODE"⟩,
    ⟨0x05, 0x05, .u 2, rws, 1, .c 20, .rng 5 500, 0, "CX_TX_LEAD"⟩,
    ⟨0x06, 0x06, .u 2, rws, 1, .c 1000, .rng 0 10000, 0, "CX_GUARD"⟩]⟩,
  ⟨0x2050, 8, [
    ⟨0x01, 0x08, .u 2, rws, 1, .c 200, .rng 20 5000, 0, "ORX_SW_SETTLE"⟩]⟩]

/-- The indices 0x2100 to 0x21FF. -/
def dict21 : List ObjIndex := [
  ⟨0x2106, 96, [
    ⟨0x01, 0x60, .u 1, ro, 0, .c 0, .any, 0, "PATH_TX_BLOCK"⟩]⟩,
  ⟨0x2110, 96, [
    ⟨0x01, 0x60, .u 4, ro, 0, .c 0, .any, 0, "DAC_RETIRED_I"⟩]⟩,
  ⟨0x2111, 96, [
    ⟨0x01, 0x60, .u 4, ro, 0, .c 0, .any, 0, "DAC_RETIRED_Q"⟩]⟩,
  ⟨0x2112, 96, [
    ⟨0x01, 0x60, .u 1, ro, 0, .c 0, .any, 0, "ADC_SPARE"⟩]⟩,
  ⟨0x2121, 4, [
    ⟨0x01, 0x04, .u 1, ro, 0, .c 0, .any, 0, "RADIO_STATE"⟩]⟩,
  ⟨0x2130, 6, [
    ⟨0x01, 0x01, .u 4, ro, 0, .c 0, .any, 0, "LATE_LO"⟩,
    ⟨0x02, 0x02, .u 4, ro, 0, .c 0, .any, 0, "LATE_LO_RX"⟩,
    ⟨0x03, 0x03, .u 4, ro, 0, .c 0, .any, 0, "TX_BLOCKED"⟩,
    ⟨0x04, 0x04, .u 4, ro, 0, .c 0, .any, 0, "DL_SCHED_OFF"⟩,
    ⟨0x05, 0x05, .u 4, ro, 0, .c 0, .any, 0, "FE_FAST_STOP"⟩,
    ⟨0x06, 0x06, .bool, wo, 1, .c 0, .any, 0, "CLEAR"⟩]⟩,
  ⟨0x2141, 7, [
    ⟨0x01, 0x01, .u 4, ro, 0, .c 0, .any, 0, "CX_GRANTS"⟩,
    ⟨0x02, 0x02, .u 4, ro, 0, .c 0, .any, 0, "CX_TIMEOUT"⟩,
    ⟨0x03, 0x03, .u 4, ro, 0, .c 0, .any, 0, "CX_REVOKED"⟩,
    ⟨0x04, 0x04, .u 4, ro, 0, .c 0, .any, 0, "CX_LEASE_EXP"⟩,
    ⟨0x05, 0x05, .u 4, ro, 0, .c 0, .any, 0, "CX_TX_DENIED"⟩,
    ⟨0x06, 0x06, .u 4, ro, 0, .c 0, .any, 0, "CX_SPURIOUS"⟩,
    ⟨0x07, 0x07, .bool, wo, 1, .c 0, .any, 0, "CLEAR"⟩]⟩]

/-- The indices 0x2400 to 0x24FF. -/
def dict24 : List ObjIndex := [
  ⟨0x2400, 14, [
    ⟨0x01, 0x01, .u 1, rws, 1, .c 0, .rng 0 2, 0, "LO_ROLE"⟩,
    ⟨0x02, 0x02, .u 4, rws, 1, .c 0, .any, 0, "LO_FREQ"⟩,
    ⟨0x03, 0x03, .bool, rws, 1, .c 0, .any, 0, "LO_DIV_MODE"⟩,
    ⟨0x04, 0x04, .u 1, rw, 1, .c 2, .rng 1 8, 0, "REFDIV"⟩,
    ⟨0x05, 0x05, .u 2, rw, 1, .c 0, .rng 24 511, 0, "FBDIV"⟩,
    ⟨0x06, 0x06, .u 4, rw, 1, .c 0, .rng 0 16777215, 0, "FRAC"⟩,
    ⟨0x07, 0x07, .u 1, rw, 1, .c 2, .oneOf [2, 4, 8, 16], 0, "OUTDIV"⟩,
    ⟨0x08, 0x08, .bool, wo, 1, .c 0, .any, 0, "LO_LOAD_NOW"⟩,
    ⟨0x09, 0x09, .bool, rws, 1, .c 0, .any, 0, "LO_LOAD_AT"⟩,
    ⟨0x0A, 0x0A, .i 2, wo, 1, .c 0, .rng (-1024) 1023, 0, "LO_PHASE_STEP"⟩,
    ⟨0x0B, 0x0B, .u 1, ro, 0, .c 0, .any, 0, "LO_STATUS"⟩,
    ⟨0x0C, 0x0C, .u 8, ro, 0, .c 0, .any, 0, "LO_FREQ_ACT"⟩,
    ⟨0x0D, 0x0D, .u 2, ro, 0, .c 0, .any, 0, "LO_PHASE"⟩,
    ⟨0x0E, 0x0E, .u 4, ro, 0, .c 0, .any, 0, "LO_UNLOCKS"⟩]⟩,
  ⟨0x2410, 12, [
    ⟨0x01, 0x0C, .u 1, rws, 1, .c 0, .any, 0x33, "TILE_LO"⟩]⟩,
  ⟨0x2420, 9, [
    ⟨0x01, 0x01, .u 1, rws, 1, .c 0, .rng 0 1, 0, "REF_SOURCE"⟩,
    ⟨0x02, 0x02, .u 4, ro, 0, .c 0, .any, 0, "REF_FREQ"⟩,
    ⟨0x03, 0x03, .u 1, ro, 0, .c 0, .any, 0, "REF_STATUS"⟩,
    ⟨0x04, 0x04, .i 4, ro, 0, .c 0, .any, 0, "REF_TIME_PPB"⟩,
    ⟨0x05, 0x05, .u 1, rws, 1, .c 0, .rng 0 3, 0, "FCONV_SEL"⟩,
    ⟨0x06, 0x06, .u 1, ro, 0, .c 2, .any, 0, "FCONV_ACT"⟩,
    ⟨0x07, 0x07, .u 2, ro, 0, .c 0, .any, 0, "FCONV_CLEAR"⟩,
    ⟨0x08, 0x08, .u 2, ro, 0, .c 0, .any, 0, "CLK_STATUS"⟩,
    ⟨0x09, 0x09, .u 4, ro, 0, .c 0, .any, 0, "CLK_UNLOCKS"⟩]⟩,
  ⟨0x2430, 6, [
    ⟨0x01, 0x01, .u 4, ro, 0, .c 0, .any, 0, "LO_HANDOVER"⟩,
    ⟨0x02, 0x02, .u 4, ro, 0, .c 0, .any, 0, "LO_HANDOVER_ABORT"⟩,
    ⟨0x03, 0x03, .u 4, ro, 0, .c 0, .any, 0, "LO_CAL_DEFERRED"⟩,
    ⟨0x04, 0x04, .u 4, ro, 0, .c 0, .any, 0, "LO_STEP_DISCARD"⟩,
    ⟨0x05, 0x05, .u 4, ro, 0, .c 0, .any, 0, "REF_LOSSES"⟩,
    ⟨0x06, 0x06, .bool, wo, 1, .c 0, .any, 0, "CLEAR"⟩]⟩]

/-- The indices 0x3000 to 0x30FF. -/
def dict30 : List ObjIndex := [
  ⟨0x3000, 7, [
    ⟨0x01, 0x01, .bool, rws, 1, .c 0, .any, 0, "CAR_ENABLE"⟩,
    ⟨0x02, 0x02, .u 1, rws, 1, .c 1, .rng 0 1, 0, "CAR_SCS"⟩,
    ⟨0x03, 0x03, .u 2, rws, 1, .c 273, .nrb, 0, "CAR_NRB"⟩,
    ⟨0x04, 0x04, .u 4, rws, 1, .c 0, .rng 600000 7125000, 0, "CAR_F0"⟩,
    ⟨0x05, 0x05, .u 2, rws, 1, .c 16384, .any, 0, "CAR_GAIN"⟩,
    ⟨0x06, 0x06, .bool, rws, 1, .c 1, .any, 0, "CAR_PHASE_COMP"⟩,
    ⟨0x07, 0x07, .u 1, rws, 1, .c 0, .rng 0 4, 0, "CAR_CHF_SET"⟩]⟩,
  ⟨0x3004, 6, [
    ⟨0x01, 0x01, .bool, rws, 1, .c 0, .any, 0, "CAR_ENABLE"⟩,
    ⟨0x02, 0x02, .u 1, rws, 1, .c 1, .rng 0 1, 0, "CAR_SCS"⟩,
    ⟨0x03, 0x03, .u 2, rws, 1, .c 273, .nrb, 0, "CAR_NRB"⟩,
    ⟨0x04, 0x04, .u 4, rws, 1, .c 0, .rng 600000 7125000, 0, "CAR_F0"⟩,
    ⟨0x05, 0x05, .bool, rws, 1, .c 1, .any, 0, "CAR_PHASE_COMP"⟩,
    ⟨0x06, 0x06, .u 1, rws, 1, .c 0, .rng 0 4, 0, "CAR_CHF_SET"⟩]⟩,
  ⟨0x3010, 16, [
    ⟨0x01, 0x10, .u 4, rws, 1, .c 0, .any, 0x1FFFF, "STREAM_SLOT"⟩]⟩,
  ⟨0x3014, 16, [
    ⟨0x01, 0x10, .u 4, rws, 1, .c 0, .any, 0x1FFFF, "STREAM_SLOT"⟩]⟩,
  ⟨0x3020, 4, [
    ⟨0x01, 0x04, .dom 192, rw, 1, .c 0, .any, 0, "CHF_USER"⟩]⟩,
  ⟨0x3030, 9, [
    ⟨0x01, 0x01, .u 1, rws, 1, .c 2, .rng 0 7, 0, "BF_SHIFT"⟩,
    ⟨0x02, 0x02, .u 1, rws, 1, .c 3, .rng 0 7, 0, "IFFT_SHIFT"⟩,
    ⟨0x03, 0x03, .u 1, rws, 1, .c 0, .rng 0 7, 0, "CHF_SHIFT"⟩,
    ⟨0x04, 0x04, .u 1, rws, 1, .c 0, .rng 0 7, 0, "COMB_SHIFT"⟩,
    ⟨0x05, 0x05, .u 1, rws, 1, .c 4, .rng 0 7, 0, "RS_SHIFT"⟩,
    ⟨0x06, 0x06, .bool, rws, 1, .c 1, .any, 0, "EIRP_COMP"⟩,
    ⟨0x07, 0x07, .u 4, rws, 1, .c 69419, .rng 65536 131071, 0, "EIRP_COMP_MAX"⟩,
    ⟨0x08, 0x08, .u 4, ro, 0, .c 65536, .any, 0, "EIRP_COMP_NOW"⟩,
    ⟨0x09, 0x09, .u 1, ro, 0, .c 0, .any, 0, "CHF_PENDING"⟩]⟩,
  ⟨0x3031, 14, [
    ⟨0x01, 0x01, .u 4, ro, 0, .c 0, .any, 0, "DL_BLANK_STREAM"⟩,
    ⟨0x02, 0x02, .u 4, ro, 0, .c 0, .any, 0, "DL_PRB_MISSING"⟩,
    ⟨0x03, 0x03, .u 4, ro, 0, .c 0, .any, 0, "DL_PRB_DUP"⟩,
    ⟨0x04, 0x04, .u 4, ro, 0, .c 0, .any, 0, "DL_UNKNOWN_STREAM"⟩,
    ⟨0x05, 0x05, .u 4, ro, 0, .c 0, .any, 0, "DL_FORMAT_ERR"⟩,
    ⟨0x06, 0x06, .u 4, ro, 0, .c 0, .any, 0, "DL_UNSECTIONED"⟩,
    ⟨0x07, 0x07, .u 4, ro, 0, .c 0, .any, 0, "BF_SAT"⟩,
    ⟨0x08, 0x08, .u 4, ro, 0, .c 0, .any, 0, "IFFT_SAT"⟩,
    ⟨0x09, 0x09, .u 4, ro, 0, .c 0, .any, 0, "CAR_SAT"⟩,
    ⟨0x0A, 0x0A, .u 4, ro, 0, .c 0, .any, 0, "PATH_SAT"⟩,
    ⟨0x0B, 0x0B, .u 4, ro, 0, .c 0, .any, 0, "EIRP_SHORT"⟩,
    ⟨0x0C, 0x0C, .u 4, ro, 0, .c 0, .any, 0, "DL_SUPPRESS"⟩,
    ⟨0x0D, 0x0D, .u 4, ro, 0, .c 0, .any, 0, "DL_RESTART_SYM"⟩,
    ⟨0x0E, 0x0E, .bool, wo, 1, .c 0, .any, 0, "CLEAR"⟩]⟩,
  ⟨0x3034, 9, [
    ⟨0x01, 0x01, .u 1, rws, 1, .c 2, .rng 0 7, 0, "UL_RS_SHIFT"⟩,
    ⟨0x02, 0x02, .u 1, rws, 1, .c 0, .rng 0 7, 0, "UL_CHF_SHIFT"⟩,
    ⟨0x03, 0x03, .u 1, rws, 1, .c 3, .rng 0 7, 0, "UL_FFT_SHIFT"⟩,
    ⟨0x04, 0x04, .u 1, rws, 1, .c 0, .rng 0 7, 0, "UL_BF_SHIFT"⟩,
    ⟨0x05, 0x05, .u 1, rws, 1, .c 0, .rng 0 6, 0, "UL_MW"⟩,
    ⟨0x06, 0x06, .u 1, rws, 1, .c 0, .rng 0 31, 0, "UL_OUT_SCALE"⟩,
    ⟨0x07, 0x07, .u 2, rws, 1, .c 144, .rng 0 224, 0, "UL_FFT_ADV"⟩,
    ⟨0x08, 0x08, .u 1, ro, 0, .c 0, .any, 0, "reserved"⟩,
    ⟨0x09, 0x09, .u 1, ro, 0, .c 0, .any, 0, "UL_CHF_PENDING"⟩]⟩,
  ⟨0x3035, 9, [
    ⟨0x01, 0x01, .u 4, ro, 0, .c 0, .any, 0, "UL_SAT"⟩,
    ⟨0x02, 0x02, .u 4, ro, 0, .c 0, .any, 0, "UL_FFT_SAT"⟩,
    ⟨0x03, 0x03, .u 4, ro, 0, .c 0, .any, 0, "UL_CAR_SAT"⟩,
    ⟨0x04, 0x04, .u 4, ro, 0, .c 0, .any, 0, "UL_PATH_SAT"⟩,
    ⟨0x05, 0x05, .u 4, ro, 0, .c 0, .any, 0, "reserved"⟩,
    ⟨0x06, 0x06, .u 4, ro, 0, .c 0, .any, 0, "UL_SUPPRESS"⟩,
    ⟨0x07, 0x07, .u 4, ro, 0, .c 0, .any, 0, "UL_RESTART_SYM"⟩,
    ⟨0x08, 0x08, .u 4, ro, 0, .c 0, .any, 0, "UL_NOSECTION"⟩,
    ⟨0x09, 0x09, .bool, wo, 1, .c 0, .any, 0, "CLEAR"⟩]⟩,
  ⟨0x3036, 13, [
    ⟨0x01, 0x01, .u 1, ro, 0, .c 0, .any, 0, "CH_STATE"⟩,
    ⟨0x02, 0x02, .u 1, ro, 0, .c 0, .any, 0, "CH_HEIGHT"⟩,
    ⟨0x03, 0x03, .u 1, ro, 0, .c 0, .any, 0, "CH_SCALE"⟩,
    ⟨0x04, 0x04, .u 4, ro, 0, .c 0, .any, 0, "UL_CH_ADMITTED"⟩,
    ⟨0x05, 0x05, .u 4, ro, 0, .c 0, .any, 0, "UL_CH_MISSING"⟩,
    ⟨0x06, 0x06, .u 4, ro, 0, .c 0, .any, 0, "UL_CH_LATE"⟩,
    ⟨0x07, 0x07, .u 4, ro, 0, .c 0, .any, 0, "UL_CH_MISMATCH"⟩,
    ⟨0x08, 0x08, .u 4, ro, 0, .c 0, .any, 0, "UL_CH_HEIGHT"⟩,
    ⟨0x09, 0x09, .u 4, ro, 0, .c 0, .any, 0, "UL_CH_SCALE"⟩,
    ⟨0x0A, 0x0A, .u 4, ro, 0, .c 0, .any, 0, "UL_CH_TALLY_OVER"⟩,
    ⟨0x0B, 0x0B, .u 4, ro, 0, .c 0, .any, 0, "UL_CH_REMOVED_DROP"⟩,
    ⟨0x0C, 0x0C, .u 4, ro, 0, .c 0, .any, 0, "UL_CH_REMOVALS"⟩,
    ⟨0x0D, 0x0D, .bool, wo, 1, .c 0, .any, 0, "CLEAR"⟩]⟩]

/-- The indices 0x3100 to 0x31FF. DESIGN CHOICE (assumption 67): bits [7:4] of WT_RETAIN, which the table does not describe and does not
call reserved either, are stored and read back, and select nothing. -/
def dict31 : List ObjIndex := [
  ⟨0x3100, 14, [
    ⟨0x01, 0x01, .u 2, rws, 1, .c 2048, .rng 0 2048, 0, "WT_STATIC_SIZE"⟩,
    ⟨0x02, 0x02, .u 2, rws, 1, .c 0, .rng 0 256, 0, "WT_DYN_SIZE"⟩,
    ⟨0x03, 0x03, .u 1, wo, 1, .c 0, .any, 0, "STAGE_OPEN"⟩,
    ⟨0x04, 0x04, .u 1, ro, 0, .c 0, .any, 0, "STAGE_STATE"⟩,
    ⟨0x05, 0x05, .bool, rws, 1, .c 0, .any, 0, "STAGE_SWAP"⟩,
    ⟨0x06, 0x06, .u 1, ro, 0, .c 0, .any, 0, "BANK_VALID"⟩,
    ⟨0x07, 0x07, .u 1, wo, 1, .c 0, .any, 0, "BANK_MARK_VALID"⟩,
    ⟨0x08, 0x08, .u 1, rw, 1, .c 0x0F, .any, 0, "WT_RETAIN"⟩,
    ⟨0x09, 0x09, .u 4, ro, 0, .c 0, .any, 0, "WIDX_RANGE"⟩,
    ⟨0x0A, 0x0A, .u 4, ro, 0, .c 0, .any, 0, "WIDX_INVALID"⟩,
    ⟨0x0B, 0x0B, .u 4, ro, 0, .c 0, .any, 0, "VEC_ABANDONED"⟩,
    ⟨0x0C, 0x0C, .u 4, ro, 0, .c 0, .any, 0, "DIRECT_REFUSED"⟩,
    ⟨0x0D, 0x0D, .u 4, ro, 0, .c 0, .any, 0, "DYN_RANGE"⟩,
    ⟨0x0E, 0x0E, .u 1, ro, 0, .c 0, .any, 0, "VEC_PENDING"⟩]⟩]

/-- The indices 0x3200 to 0x32FF. -/
def dict32 : List ObjIndex := [
  ⟨0x3200, 7, [
    ⟨0x01, 0x01, .bool, wo, 1, .c 0, .any, 0, "SCHED_CLONE"⟩,
    ⟨0x02, 0x02, .u 1, ro, 0, .c 0, .any, 0, "SCHED_STATE"⟩,
    ⟨0x03, 0x03, .bool, rws, 1, .c 0, .any, 0, "SCHED_SWAP"⟩,
    ⟨0x04, 0x04, .u 4, ro, 0, .c 0, .any, 0, "TORN_ENTRY"⟩,
    ⟨0x05, 0x05, .u 2, ro, 0, .c 0, .any, 0, "TORN_LAST"⟩,
    ⟨0x06, 0x06, .u 4, ro, 0, .c 0, .any, 0, "SCHED_BAD"⟩,
    ⟨0x07, 0x07, .u 4, ro, 0, .c 0, .any, 0, "SCHED_OVERLAP"⟩]⟩]

/-- The indices 0x3300 to 0x33FF. -/
def dict33 : List ObjIndex := [
  ⟨0x3300, 14, [
    ⟨0x01, 0x01, .bool, rws, 1, .c 1, .any, 0, "SPEC_ENABLE"⟩,
    ⟨0x02, 0x02, .u 8, ro, 0, .c 0, .any, 0, "SPEC_PRED_GROUPS"⟩,
    ⟨0x03, 0x03, .u 8, ro, 0, .c 0, .any, 0, "SPEC_CONFIRMED"⟩,
    ⟨0x04, 0x04, .u 8, ro, 0, .c 0, .any, 0, "SPEC_RECOMPUTED"⟩,
    ⟨0x05, 0x05, .u 8, ro, 0, .c 0, .any, 0, "SPEC_BLANKED"⟩,
    ⟨0x06, 0x06, .u 8, ro, 0, .c 0, .any, 0, "TABLE_REDO"⟩,
    ⟨0x07, 0x07, .u 4, ro, 0, .c 0, .any, 0, "EARLY_C"⟩,
    ⟨0x08, 0x08, .u 4, ro, 0, .c 0, .any, 0, "LATE_C"⟩,
    ⟨0x09, 0x09, .u 4, ro, 0, .c 0, .any, 0, "EARLY_U"⟩,
    ⟨0x0A, 0x0A, .u 4, ro, 0, .c 0, .any, 0, "LATE_U"⟩,
    ⟨0x0B, 0x0B, .u 4, ro, 0, .c 0, .any, 0, "PROV_UNCONFIRMED"⟩,
    ⟨0x0C, 0x0C, .bool, wo, 1, .c 0, .any, 0, "CLEAR"⟩,
    ⟨0x0D, 0x0D, .u 4, ro, 0, .c 0, .any, 0, "C_UNKNOWN_STREAM"⟩,
    ⟨0x0E, 0x0E, .u 4, ro, 0, .c 0, .any, 0, "C_FORMAT_ERR"⟩]⟩]

/-- The indices 0x4000 to 0x40FF. -/
def dict40 : List ObjIndex := [
  ⟨0x4000, 7, [
    ⟨0x01, 0x01, .u 4, rws, 1, .c 250, .rng 20 10000, 0, "DPD_PERIOD"⟩,
    ⟨0x02, 0x02, .u 4, rws, 1, .c 2000, .rng 100 60000, 0, "DPD_STALE_AGE"⟩,
    ⟨0x03, 0x03, .u 2, rws, 1, .c 16384, .rng 1 32768, 0, "DPD_MU"⟩,
    ⟨0x04, 0x04, .u 1, rws, 1, .c 30, .rng 5 200, 0, "DPD_ROLLBACK_DB"⟩,
    ⟨0x05, 0x05, .u 1, rws, 1, .c 20, .rng 8 22, 0, "DSP_DPD_CORES"⟩,
    ⟨0x06, 0x06, .u 2, rws, 1, .c 50, .rng 1 500, 0, "DPD_LO_TOL"⟩,
    ⟨0x07, 0x07, .i 2, rws, 1, .c 65236, .rng (-500) (-60), 0, "DPD_MIN_LEVEL"⟩]⟩,
  ⟨0x4001, 96, [
    ⟨0x01, 0x60, .u 1, rws, 1, .c 0, .rng 0 2, 0, "DPD_MODE"⟩]⟩,
  ⟨0x4002, 96, [
    ⟨0x01, 0x60, .bool, rws, 1, .c 0, .any, 0, "DPD_REQUIRED"⟩]⟩,
  ⟨0x4003, 96, [
    ⟨0x01, 0x60, .dom 128, rws, 1, .c 0x9000000000000000000000000000000000000000000000000000000000000000000000000000000000000000000000000000000000000000000000000000000000000000000000000000000000000000000000000000000000000000000000000000000000000000000000000000000000000000000000000000000000000000, .any, 0xFFFFFFFC * ((2 ^ 1024 - 1) / (2 ^ 32 - 1)), "DPD_TERMS"⟩]⟩,
  ⟨0x4004, 96, [
    ⟨0x01, 0x60, .dom 256, rw, 1, .c 0x40000000000000000000000000000000000000000000000000000000000000000000000000000000000000000000000000000000000000000000000000000000000000000000000000000000000000000000000000000000000000000000000000000000000000000000000000000000000000000000000000000000000000000000000000000000000000000000000000000000000000000000000000000000000000000000000000000000000000000000000000000000000000000000000000000000000000000000000000000000000000000000000000000000000000000000000000000000000000000000000000000000000000000000000000000000, .any, 0, "DPD_SHADOW"⟩]⟩,
  ⟨0x4005, 96, [
    ⟨0x01, 0x60, .u 1, rws, 1, .c 0, .bank, 0x87, "DPD_COMMIT"⟩]⟩,
  ⟨0x4010, 96, [
    ⟨0x01, 0x60, .dom 260, ro, 0, .c 0, .any, 0, "DPD_BANK0-DPD_BANK5"⟩]⟩]

/-- The indices 0x4100 to 0x41FF. -/
def dict41 : List ObjIndex := [
  ⟨0x4100, 96, [
    ⟨0x01, 0x60, .u 1, ro, 0, .c 0, .any, 0, "DPD_STATE"⟩]⟩,
  ⟨0x4101, 96, [
    ⟨0x01, 0x60, .u 4, ro, 0, .c 0, .any, 0, "COEF_AGE"⟩]⟩,
  ⟨0x4102, 96, [
    ⟨0x01, 0x60, .u 1, ro, 0, .c 0, .any, 0, "STALE_WHY"⟩]⟩,
  ⟨0x4103, 96, [
    ⟨0x01, 0x60, .i 2, ro, 0, .c 0, .any, 0, "DPD_NMSE"⟩]⟩,
  ⟨0x4104, 96, [
    ⟨0x01, 0x60, .u 1, ro, 0, .c 255, .any, 0, "DPD_ACTIVE_BANK"⟩]⟩,
  ⟨0x4105, 96, [
    ⟨0x01, 0x60, .i 2, ro, 0, .c 0, .any, 0, "DPD_PA_GAIN"⟩]⟩,
  ⟨0x4110, 8, [
    ⟨0x01, 0x01, .u 4, ro, 0, .c 0, .any, 0, "DPD_ADAPTS"⟩,
    ⟨0x02, 0x02, .u 4, ro, 0, .c 0, .any, 0, "DPD_CAP_REJECT"⟩,
    ⟨0x03, 0x03, .u 4, ro, 0, .c 0, .any, 0, "DPD_SOLVE_REJECT"⟩,
    ⟨0x04, 0x04, .u 4, ro, 0, .c 0, .any, 0, "DPD_ROLLBACK"⟩,
    ⟨0x05, 0x05, .u 4, ro, 0, .c 0, .any, 0, "DPD_LATE"⟩,
    ⟨0x06, 0x06, .u 4, ro, 0, .c 0, .any, 0, "DPD_SAT"⟩,
    ⟨0x07, 0x07, .u 4, ro, 0, .c 0, .any, 0, "DPD_ENGINE_REFUSED"⟩,
    ⟨0x08, 0x08, .bool, wo, 1, .c 0, .any, 0, "CLEAR"⟩]⟩]

/-- The indices 0x4200 to 0x42FF. -/
def dict42 : List ObjIndex := [
  ⟨0x4200, 10, [
    ⟨0x01, 0x08, .u 1, rws, 1, .c 8, .rng 1 255, 0, "ORX_BURST_LIMIT"⟩,
    ⟨0x09, 0x09, .u 4, rws, 1, .c 2000, .rng 10 1000000, 0, "ORX_PRIV_WD"⟩,
    ⟨0x0A, 0x0A, .u 4, rws, 1, .c 10000, .rng 100 1000000, 0, "ORX_PRIV_LEASE"⟩]⟩,
  ⟨0x4210, 8, [
    ⟨0x01, 0x08, .u 1, ro, 0, .c 15, .any, 0, "ORX_HOLDER"⟩]⟩,
  ⟨0x4211, 8, [
    ⟨0x01, 0x08, .u 4, ro, 0, .c 0, .any, 0, "ORX_GRANTS"⟩]⟩,
  ⟨0x4212, 8, [
    ⟨0x01, 0x08, .u 4, ro, 0, .c 0, .any, 0, "ORX_WITHDRAWN"⟩]⟩,
  ⟨0x4213, 8, [
    ⟨0x01, 0x08, .u 4, ro, 0, .c 0, .any, 0, "ORX_LIMIT_END"⟩]⟩,
  ⟨0x4214, 8, [
    ⟨0x01, 0x08, .u 4, ro, 0, .c 0, .any, 0, "ORX_LEASE_EXP"⟩]⟩,
  ⟨0x4215, 8, [
    ⟨0x01, 0x08, .u 4, ro, 0, .c 0, .any, 0, "ORX_MAX_WAIT"⟩]⟩,
  ⟨0x4216, 1, [
    ⟨0x01, 0x01, .bool, wo, 1, .c 0, .any, 0, "CLEAR"⟩]⟩]

/-- The indices 0x4300 to 0x43FF. -/
def dict43 : List ObjIndex := [
  ⟨0x4300, 6, [
    ⟨0x01, 0x01, .u 4, ro, 0, .c 0, .any, 0, "DC_POWERED"⟩,
    ⟨0x02, 0x02, .u 1, ro, 0, .c 0, .any, 0, "DC_BUSY"⟩,
    ⟨0x03, 0x03, .u 4, ro, 0, .c 0, .any, 0, "DC_COEF_SAT"⟩,
    ⟨0x04, 0x04, .u 4, ro, 0, .c 0, .any, 0, "DC_ECC_CORR"⟩,
    ⟨0x05, 0x05, .u 4, ro, 0, .c 0, .any, 0, "DC_ECC_UNCORR"⟩,
    ⟨0x06, 0x06, .bool, wo, 1, .c 0, .any, 0, "CLEAR"⟩]⟩]

/-- The indices 0x4400 to 0x44FF. -/
def dict44 : List ObjIndex := [
  ⟨0x4400, 13, [
    ⟨0x01, 0x01, .bool, rws, 1, .c 1, .any, 0, "BENCH_ENABLE"⟩,
    ⟨0x02, 0x02, .u 1, rws, 1, .c 4, .rng 1 4, 0, "BENCH_PAR"⟩,
    ⟨0x03, 0x03, .u 2, rws, 1, .c 1200, .rng 1200 10000, 0, "BENCH_TIME"⟩,
    ⟨0x04, 0x04, .i 2, rws, 1, .c 65136, .rng (-500) (-250), 0, "CAL_TX_LEVEL"⟩,
    ⟨0x05, 0x05, .i 2, rws, 1, .c 65286, .rng (-400) (-100), 0, "CAL_INJ_LEVEL"⟩,
    ⟨0x06, 0x06, .u 4, rws, 1, .c 300, .rng 60 86400, 0, "CAL_OVERDUE_AGE"⟩,
    ⟨0x07, 0x07, .u 2, rws, 1, .c 100, .rng 10 1000, 0, "DAC_CELL_TOL"⟩,
    ⟨0x08, 0x08, .u 1, wo, 1, .c 0, .any, 0, "CAL_BENCH_NOW"⟩,
    ⟨0x09, 0x09, .u 1, ro, 0, .c 0, .any, 0, "BENCH_STATE"⟩,
    ⟨0x0A, 0x0A, .u 1, ro, 0, .c 0, .any, 0, "BENCH_NEXT"⟩,
    ⟨0x0B, 0x0B, .u 1, ro, 0, .c 0, .any, 0, "REXT_STATUS"⟩,
    ⟨0x0C, 0x0C, .i 2, ro, 0, .c 0, .any, 0, "REXT_DEV"⟩,
    ⟨0x0D, 0x0D, .u 2, ro, 0, .c 0, .any, 0, "START_CAL_TIME"⟩]⟩,
  ⟨0x4401, 1, [
    ⟨0x01, 0x01, .u 2, rws, 1, .c 0, .any, 0, "CAL_REF_PHASE"⟩]⟩,
  ⟨0x4402, 6, [
    ⟨0x01, 0x06, .u 4, rws, 1, .list [1250,1250,1250,1250,625,625], .rng 100 60000, 0, "CAL_INTERVAL"⟩]⟩,
  ⟨0x4403, 96, [
    ⟨0x01, 0x60, .u 4, rw, 1, .c 1073741824, .any, 0, "CAL_NET"⟩]⟩,
  ⟨0x4410, 96, [
    ⟨0x01, 0x60, .u 2, ro, 0, .c 0, .any, 0, "CAL_STALE"⟩]⟩,
  ⟨0x4411, 96, [
    ⟨0x01, 0x60, .u 1, ro, 0, .c 0, .any, 0, "CAL_OVERDUE"⟩]⟩,
  ⟨0x4412, 96, [
    ⟨0x01, 0x60, .u 4, ro, 0, .c 0, .any, 0, "CAL_AGE"⟩]⟩,
  ⟨0x4420, 8, [
    ⟨0x01, 0x01, .u 4, ro, 0, .c 0, .any, 0, "BENCH_SLOTS"⟩,
    ⟨0x02, 0x02, .u 4, ro, 0, .c 0, .any, 0, "BENCH_SKIPPED"⟩,
    ⟨0x03, 0x03, .u 4, ro, 0, .c 0, .any, 0, "BENCH_REFUSED"⟩,
    ⟨0x04, 0x04, .u 4, ro, 0, .c 0, .any, 0, "CAL_REJECT"⟩,
    ⟨0x05, 0x05, .u 4, ro, 0, .c 0, .any, 0, "CAL_ABORTED"⟩,
    ⟨0x06, 0x06, .u 4, ro, 0, .c 0, .any, 0, "CAL_DEFERRED"⟩,
    ⟨0x07, 0x07, .u 4, ro, 0, .c 0, .any, 0, "PARK_EVENTS"⟩,
    ⟨0x08, 0x08, .bool, wo, 1, .c 0, .any, 0, "CLEAR"⟩]⟩]

/-- The indices 0x4800 to 0x48FF. -/
def dict48 : List ObjIndex := [
  ⟨0x4800, 11, [
    ⟨0x01, 0x01, .bool, rws, 1, .c 1, .any, 0, "AVS_ENABLE"⟩,
    ⟨0x02, 0x02, .u 1, ro, 0, .c 0, .any, 0, "AVS_CODE"⟩,
    ⟨0x03, 0x03, .u 2, ro, 0, .c 900, .any, 0, "AVS_MV"⟩,
    ⟨0x04, 0x04, .u 4, ro, 0, .c 0, .any, 0, "AGE_WORST"⟩,
    ⟨0x05, 0x05, .u 1, ro, 0, .c 0, .any, 0, "AGE_WORST_MON"⟩,
    ⟨0x06, 0x06, .u 2, ro, 0, .c 65535, .any, 0, "AGE_YEARS_LEFT"⟩,
    ⟨0x07, 0x07, .u 4, ro, 0, .c 0, .any, 0, "SERVICE_HOURS"⟩,
    ⟨0x08, 0x08, .i 2, ro, 0, .c 0, .any, 0, "TJ_MEAN"⟩,
    ⟨0x09, 0x09, .u 2, rws, 2, .c 200, .rng 100 500, 0, "AGE_EXP"⟩,
    ⟨0x0A, 0x0A, .u 2, rws, 1, .c 100, .rng 10 1000, 0, "PA_TREND_LIMIT"⟩,
    ⟨0x0B, 0x0B, .u 4, ro, 0, .c 0, .any, 0, "AVS_DEFERRED"⟩]⟩,
  ⟨0x4801, 36, [
    ⟨0x01, 0x24, .i 4, ro, 0, .c 0, .any, 0, "AGE_DELTA"⟩]⟩,
  ⟨0x4802, 96, [
    ⟨0x01, 0x60, .i 2, ro, 0, .c 0, .any, 0, "PA_GAIN_TREND"⟩]⟩]

/-- The indices 0x5000 to 0x50FF. -/
def dict50 : List ObjIndex := [
  ⟨0x5000, 8, [
    ⟨0x01, 0x08, .u 2, rw, 2, .list [3800,2200,1200,200,400,150,50,5], .any, 0, "LEDGER_CAP"⟩]⟩,
  ⟨0x5001, 8, [
    ⟨0x01, 0x08, .u 2, ro, 0, .c 0, .any, 0, "LEDGER_BASE"⟩]⟩,
  ⟨0x5002, 8, [
    ⟨0x01, 0x08, .u 2, ro, 0, .c 0, .any, 0, "LEDGER_BOOKED"⟩]⟩,
  ⟨0x5003, 8, [
    ⟨0x01, 0x08, .u 4, ro, 0, .c 1000000, .any, 0, "LEDGER_FACTOR"⟩]⟩,
  ⟨0x5004, 8, [
    ⟨0x01, 0x08, .u 2, ro, 0, .list [4180,2200,1200,200,400,150,50,5], .any, 0, "LEDGER_CEIL"⟩]⟩,
  ⟨0x5005, 23, [
    ⟨0x01, 0x16, .u 4, ro, 0, .c 0, .any, 0, "LEDGER_REFUSALS"⟩,
    ⟨0x17, 0x17, .bool, wo, 1, .c 0, .any, 0, "CLEAR"⟩]⟩,
  ⟨0x5020, 9, [
    ⟨0x01, 0x01, .bool, wo, 1, .c 0, .any, 0, "POWER_REQ"⟩,
    ⟨0x02, 0x02, .u 1, ro, 0, .c 0, .any, 0, "DEVICE_STATE"⟩,
    ⟨0x03, 0x03, .u 1, ro, 0, .c 0, .any, 0, "POWER_STATUS"⟩,
    ⟨0x04, 0x04, .u 1, ro, 0, .c 255, .any, 0, "POWER_REFUSER"⟩,
    ⟨0x05, 0x05, .u 1, ro, 0, .c 0, .any, 0, "POWER_REASON"⟩,
    ⟨0x06, 0x06, .u 1, rw, 1, .c 11, .any, 0xF, "WAKE_EN"⟩,
    ⟨0x07, 0x07, .bool, rw, 1, .c 0, .any, 0, "WAKE_POL"⟩,
    ⟨0x08, 0x08, .u 1, ro, 0, .c 0, .any, 0, "WAKE_CAUSE"⟩,
    ⟨0x09, 0x09, .bool, rw, 1, .c 1, .any, 0, "OD_RETAIN"⟩]⟩,
  ⟨0x5021, 22, [
    ⟨0x01, 0x16, .u 1, wo, 1, .c 0, .rng 0 1, 0, "DOMAIN_REQ"⟩]⟩,
  ⟨0x5022, 22, [
    ⟨0x01, 0x16, .u 1, ro, 0, .c 0, .any, 0, "DOMAIN_STATE"⟩]⟩,
  ⟨0x5040, 6, [
    ⟨0x01, 0x01, .u 8, rws, 1, .c 0, .any, 0, "SHED_PATHS_LO"⟩,
    ⟨0x02, 0x02, .u 4, rws, 1, .c 0, .any, 0, "SHED_PATHS_HI"⟩,
    ⟨0x03, 0x03, .u 1, rws, 1, .c 0, .any, 0, "SHED_CARRIERS"⟩,
    ⟨0x04, 0x04, .bool, rws, 1, .c 0, .any, 0, "DOZE_ENABLE"⟩,
    ⟨0x05, 0x05, .bool, rws, 1, .c 0, .any, 0, "NAP_ENABLE"⟩,
    ⟨0x06, 0x06, .u 8, rws, 1, .c 0, .any, 0, "NAP_SLOTS"⟩]⟩,
  ⟨0x5050, 6, [
    ⟨0x01, 0x01, .u 4, ro, 0, .c 0, .any, 0, "DOZE_SYMBOLS"⟩,
    ⟨0x02, 0x02, .u 4, ro, 0, .c 0, .any, 0, "NAP_COUNT"⟩,
    ⟨0x03, 0x03, .u 4, ro, 0, .c 0, .any, 0, "WAKES"⟩,
    ⟨0x04, 0x04, .u 4, ro, 0, .c 0, .any, 0, "WAKE_ON_ACCESS"⟩,
    ⟨0x05, 0x05, .u 4, ro, 0, .c 0, .any, 0, "RET_FAIL"⟩,
    ⟨0x06, 0x06, .bool, wo, 1, .c 0, .any, 0, "CLEAR"⟩]⟩,
  ⟨0x5070, 7, [
    ⟨0x01, 0x01, .u 1, ro, 0, .c 0, .any, 0, "RESET_CAUSE"⟩,
    ⟨0x02, 0x02, .u 1, ro, 0, .c 0, .any, 0, "STRAPS"⟩,
    ⟨0x03, 0x03, .u 2, wo, 2, .c 0, .any, 0, "RESET_REQ"⟩,
    ⟨0x04, 0x04, .bool, rw, 2, .c 1, .any, 0, "LINK_RESET_EN"⟩,
    ⟨0x05, 0x05, .u 4, ro, 0, .c 0, .any, 0, "START_TIME"⟩,
    ⟨0x06, 0x06, .u 4, ro, 0, .c 0, .any, 0, "CONTROL_RESTARTS"⟩,
    ⟨0x07, 0x07, .u 4, ro, 0, .c 0, .any, 0, "DOMAIN_RESETS"⟩]⟩,
  ⟨0x5071, 2, [
    ⟨0x01, 0x02, .u 2, wo, 2, .c 0, .any, 0, "CHILD_RESET"⟩]⟩]

/-- The indices 0x6000 to 0x60FF. -/
def dict60 : List ObjIndex := [
  ⟨0x6000, 10, [
    ⟨0x01, 0x01, .bool, rws, 1, .portU, .any, 0, "PORT_ENABLE"⟩,
    ⟨0x02, 0x02, .u 1, rws, 1, .c 4, .rng 0 4, 0, "PORT_RATE_MAX"⟩,
    ⟨0x03, 0x03, .u 1, rws, 1, .c 8, .oneOf [1, 2, 4, 8], 0, "PORT_WIDTH_MAX"⟩,
    ⟨0x04, 0x04, .bool, rws, 1, .c 1, .any, 0, "DROP_ENABLE"⟩,
    ⟨0x05, 0x05, .u 1, ro, 0, .c 0, .any, 0, "PORT_STATE"⟩,
    ⟨0x06, 0x06, .u 1, ro, 0, .c 0, .any, 0, "PORT_RATE"⟩,
    ⟨0x07, 0x07, .u 1, ro, 0, .c 0, .any, 0, "PORT_WIDTH"⟩,
    ⟨0x08, 0x08, .u 2, ro, 0, .c 0, .any, 0, "LANE_ACTIVE"⟩,
    ⟨0x09, 0x09, .u 1, ro, 0, .c 0, .any, 0, "PEER_ROLE"⟩,
    ⟨0x0A, 0x0A, .u 4, ro, 0, .c 0, .any, 0, "EPM_LAST"⟩]⟩,
  ⟨0x6010, 19, [
    ⟨0x01, 0x01, .u 4, ro, 0, .c 0, .any, 0, "RX_PKTS"⟩,
    ⟨0x02, 0x02, .u 4, ro, 0, .c 0, .any, 0, "CODE_ERR"⟩,
    ⟨0x03, 0x03, .u 4, ro, 0, .c 0, .any, 0, "HCRC_ERR"⟩,
    ⟨0x04, 0x04, .u 4, ro, 0, .c 0, .any, 0, "CRC_ERR"⟩,
    ⟨0x05, 0x05, .u 4, ro, 0, .c 0, .any, 0, "LEN_ERR"⟩,
    ⟨0x06, 0x06, .u 4, ro, 0, .c 0, .any, 0, "CLASS_ERR"⟩,
    ⟨0x07, 0x07, .u 4, ro, 0, .c 0, .any, 0, "ABORTS"⟩,
    ⟨0x08, 0x08, .u 4, ro, 0, .c 0, .any, 0, "SEQ_GAP"⟩,
    ⟨0x09, 0x09, .u 4, ro, 0, .c 0, .any, 0, "DUP_DISCARD"⟩,
    ⟨0x0A, 0x0A, .u 4, ro, 0, .c 0, .any, 0, "OVERFLOW"⟩,
    ⟨0x0B, 0x0B, .u 4, ro, 0, .c 0, .any, 0, "FWD_DISCARD"⟩,
    ⟨0x0C, 0x0C, .u 4, ro, 0, .c 0, .any, 0, "SHED_PKTS"⟩,
    ⟨0x0D, 0x0D, .u 4, ro, 0, .c 0, .any, 0, "FLUSHES"⟩,
    ⟨0x0E, 0x0E, .u 4, ro, 0, .c 0, .any, 0, "EPM_MISS"⟩,
    ⟨0x0F, 0x0F, .u 4, ro, 0, .c 0, .any, 0, "RETRAINS"⟩,
    ⟨0x10, 0x10, .u 4, ro, 0, .c 0, .any, 0, "RESTRIPES"⟩,
    ⟨0x11, 0x11, .u 4, ro, 0, .c 0, .any, 0, "REPLAY_LOST"⟩,
    ⟨0x12, 0x12, .u 4, ro, 0, .c 0, .any, 0, "M_LATE_RESP"⟩,
    ⟨0x13, 0x13, .bool, wo, 1, .c 0, .any, 0, "CLEAR"⟩]⟩]

/-- The indices 0x6100 to 0x61FF. -/
def dict61 : List ObjIndex := [
  ⟨0x6100, 24, [
    ⟨0x01, 0x18, .u 1, ro, 0, .c 0, .any, 0, "LANE_STATE"⟩]⟩,
  ⟨0x6101, 24, [
    ⟨0x01, 0x18, .u 1, ro, 0, .c 255, .any, 0, "LANE_PRESET"⟩]⟩,
  ⟨0x6102, 24, [
    ⟨0x01, 0x18, .u 2, ro, 0, .c 0, .any, 0, "LANE_TREND"⟩]⟩,
  ⟨0x6103, 24, [
    ⟨0x01, 0x18, .u 4, ro, 0, .c 0, .any, 0, "LANE_ERRORS"⟩]⟩,
  ⟨0x6104, 24, [
    ⟨0x01, 0x18, .u 4, ro, 0, .c 0, .any, 0, "LANE_LOS"⟩]⟩,
  ⟨0x6105, 24, [
    ⟨0x01, 0x18, .u 4, ro, 0, .c 0, .any, 0, "LANE_LOL"⟩]⟩,
  ⟨0x6106, 24, [
    ⟨0x01, 0x18, .u 4, ro, 0, .c 0, .any, 0, "LANE_TRAIN_FAIL"⟩]⟩,
  ⟨0x6107, 24, [
    ⟨0x01, 0x18, .u 4, ro, 0, .c 0, .any, 0, "LANE_DEMOTED"⟩]⟩,
  ⟨0x6110, 1, [
    ⟨0x01, 0x01, .dom 256, rw, 1, .c 0, .any, 0, "LANE_PRESETS"⟩]⟩,
  ⟨0x6111, 6, [
    ⟨0x01, 0x01, .u 2, rws, 1, .c 16, .rng 2 65535, 0, "LANE_DROP_THR"⟩,
    ⟨0x02, 0x02, .u 2, rws, 1, .c 4, .rng 1 65534, 0, "LANE_RESEL_THR"⟩,
    ⟨0x03, 0x03, .u 1, rws, 1, .c 12, .rng 0 31, 0, "LANE_FB_PEAK"⟩,
    ⟨0x04, 0x04, .u 4, rws, 1, .c 71303168, .any, 0xFFFFFC00, "LANE_FB_TX"⟩,
    ⟨0x05, 0x05, .u 1, ro, 0, .c 0, .any, 0, "reserved"⟩,
    ⟨0x06, 0x06, .bool, wo, 1, .c 0, .any, 0, "CLEAR"⟩]⟩,
  ⟨0x6112, 3, [
    ⟨0x01, 0x03, .u 1, rws, 1, .c 1, .rng 0 2, 0, "LANE_WAKE"⟩]⟩,
  ⟨0x6120, 24, [
    ⟨0x01, 0x18, .u 4, rw, 1, .c 0, .any, 0xFFC00000, "LANE_TEST"⟩]⟩,
  ⟨0x6121, 24, [
    ⟨0x01, 0x18, .u 8, ro, 0, .c 0, .any, 0, "LANE_PRBS_BITS"⟩]⟩,
  ⟨0x6122, 24, [
    ⟨0x01, 0x18, .u 8, ro, 0, .c 0, .any, 0, "LANE_PRBS_ERRS"⟩]⟩,
  ⟨0x6123, 24, [
    ⟨0x01, 0x18, .u 4, ro, 0, .c 0, .any, 0, "LANE_PRBS_RESYNC"⟩]⟩,
  ⟨0x6124, 24, [
    ⟨0x01, 0x18, .u 1, wo, 2, .c 0, .rng 1 255, 0, "LANE_INJECT"⟩]⟩]

/-- The indices 0x6200 to 0x62FF. -/
def dict62 : List ObjIndex := [
  ⟨0x6200, 9, [
    ⟨0x01, 0x01, .u 2, rws, 1, .c 8, .rng 1 32, 0, "M_HIGH"⟩,
    ⟨0x02, 0x02, .u 2, rws, 1, .c 4, .rng 0 32, 0, "M_LOW"⟩,
    ⟨0x03, 0x03, .u 2, rws, 1, .c 40, .rng 1 64, 0, "C_HIGH"⟩,
    ⟨0x04, 0x04, .u 2, rws, 1, .c 20, .rng 0 64, 0, "C_LOW"⟩,
    ⟨0x05, 0x05, .u 2, rws, 1, .c 360, .rng 1 404, 0, "DU_HIGH"⟩,
    ⟨0x06, 0x06, .u 2, rws, 1, .c 300, .rng 0 404, 0, "DU_LOW"⟩,
    ⟨0x07, 0x07, .u 4, rws, 1, .c 10000, .rng 100 1000000, 0, "FC_STALL"⟩,
    ⟨0x08, 0x08, .u 4, ro, 0, .c 0, .any, 0, "XOFF_SENT"⟩,
    ⟨0x09, 0x09, .u 4, ro, 0, .c 0, .any, 0, "XOFF_RCVD"⟩]⟩,
  ⟨0x6210, 64, [
    ⟨0x01, 0x40, .u 1, rws, 1, .rank, .any, 0, "DL_RANK"⟩]⟩,
  ⟨0x6211, 64, [
    ⟨0x01, 0x40, .u 1, rws, 1, .rank, .any, 0, "UL_RANK"⟩]⟩,
  ⟨0x6220, 2, [
    ⟨0x01, 0x01, .u 4, rws, 1, .c 50, .rng 1 10000, 0, "M_TIMEOUT"⟩,
    ⟨0x02, 0x02, .u 1, ro, 0, .c 0, .any, 0, "M_OUTSTANDING"⟩]⟩]

/-- The indices 0x7000 to 0x70FF. -/
def dict70 : List ObjIndex := [
  ⟨0x7000, 6, [
    ⟨0x01, 0x01, .bool, ro, 0, .c 0, .any, 0, "HK_REF_READY"⟩,
    ⟨0x02, 0x02, .u 2, wo, 1, .c 0, .any, 0x3F1F, "HK_ONESHOT"⟩,
    ⟨0x03, 0x03, .u 4, ro, 0, .c 0, .any, 0, "HK_ONESHOT_RES"⟩,
    ⟨0x04, 0x04, .u 1, rws, 1, .c 5, .rng 1 20, 0, "RAIL_TOL"⟩,
    ⟨0x05, 0x05, .u 4, ro, 0, .c 0, .any, 0, "HK_ROUNDS"⟩,
    ⟨0x06, 0x06, .u 2, ro, 0, .c 0, .any, 0, "VMID_MV"⟩]⟩,
  ⟨0x7001, 8, [
    ⟨0x01, 0x08, .u 2, ro, 0, .c 0, .any, 0, "RAIL_MV"⟩]⟩,
  ⟨0x7002, 12, [
    ⟨0x01, 0x0C, .u 2, ro, 0, .c 0, .any, 0, "IDS_MA"⟩]⟩,
  ⟨0x7003, 12, [
    ⟨0x01, 0x0C, .u 2, rws, 1, .c 1000, .any, 0, "IDS_SCALE"⟩]⟩,
  ⟨0x7004, 12, [
    ⟨0x01, 0x0C, .u 2, rws, 1, .c 65535, .any, 0, "IDS_MAX"⟩]⟩,
  ⟨0x7010, 96, [
    ⟨0x01, 0x60, .i 2, ro, 0, .c 32768, .any, 0, "PA_FWD"⟩]⟩,
  ⟨0x7011, 96, [
    ⟨0x01, 0x60, .i 2, ro, 0, .c 0, .any, 0, "VSWR_RL"⟩]⟩,
  ⟨0x7012, 96, [
    ⟨0x01, 0x60, .u 2, rws, 1, .c 1000, .rng 0 1000, 0, "RFL_THR"⟩]⟩,
  ⟨0x7013, 96, [
    ⟨0x01, 0x60, .i 2, rws, 1, .c 0, .rng (-300) 300, 0, "REFL_OFS"⟩]⟩,
  ⟨0x7014, 6, [
    ⟨0x01, 0x01, .u 2, rws, 1, .c 250, .rng 10 1000, 0, "DET_SLOPE"⟩,
    ⟨0x02, 0x02, .i 2, rws, 1, .c 100, .rng 0 300, 0, "RL_WARN"⟩,
    ⟨0x03, 0x03, .u 2, rws, 1, .c 50, .rng 10 1000, 0, "RFL_DEGLITCH"⟩,
    ⟨0x04, 0x04, .u 1, rws, 1, .c 0, .rng 0 1, 0, "RFL_RETRY"⟩,
    ⟨0x05, 0x05, .u 4, rws, 1, .c 100, .rng 10 60000, 0, "RFL_HOLDOFF"⟩,
    ⟨0x06, 0x06, .u 4, rws, 1, .c 600, .rng 10 86400, 0, "VSWR_CAL_PERIOD"⟩]⟩]

/-- The indices 0x7100 to 0x71FF. -/
def dict71 : List ObjIndex := [
  ⟨0x7100, 30, [
    ⟨0x01, 0x1E, .i 2, ro, 0, .c 32768, .any, 0, "TS_TEMP"⟩]⟩,
  ⟨0x7101, 1, [
    ⟨0x01, 0x01, .u 4, ro, 0, .c 0, .any, 0, "TS_SUSPECT"⟩]⟩,
  ⟨0x7102, 14, [
    ⟨0x01, 0x0E, .u 1, ro, 0, .c 2, .any, 0, "AREA_BAND"⟩]⟩,
  ⟨0x7103, 3, [
    ⟨0x01, 0x01, .u 1, ro, 0, .c 2, .any, 0, "DEVICE_BAND"⟩,
    ⟨0x02, 0x02, .i 2, rws, 1, .c 1050, .rng 600 1200, 0, "TJ_WARN"⟩,
    ⟨0x03, 0x03, .i 2, rws, 1, .c 1200, .rng 1000 1250, 0, "TJ_TRIP"⟩]⟩,
  ⟨0x7104, 4, [
    ⟨0x01, 0x04, .u 1, rws, 1, .c 255, .orFF 31, 0, "TH_SRC"⟩]⟩,
  ⟨0x7105, 4, [
    ⟨0x01, 0x04, .u 4, rws, 1, .c 10000, .any, 0, "TH_R0"⟩]⟩,
  ⟨0x7106, 4, [
    ⟨0x01, 0x04, .u 2, rws, 1, .c 3435, .any, 0, "TH_B"⟩]⟩,
  ⟨0x7107, 4, [
    ⟨0x01, 0x04, .i 2, ro, 0, .c 32768, .any, 0, "TH_TEMP"⟩]⟩,
  ⟨0x7108, 4, [
    ⟨0x01, 0x04, .i 2, rws, 1, .c 1000, .any, 0, "TH_LIMIT"⟩]⟩]

/-- The indices 0x7200 to 0x72FF. -/
def dict72 : List ObjIndex := [
  ⟨0x7200, 32, [
    ⟨0x01, 0x20, .u 1, rws, 1, .c 0, .any, 0xF, "AUX_SPAN"⟩]⟩,
  ⟨0x7201, 32, [
    ⟨0x01, 0x20, .u 2, rw, 1, .c 0, .rng 0 4095, 0, "AUX_CODE"⟩]⟩,
  ⟨0x7202, 1, [
    ⟨0x01, 0x01, .u 4, ro, 0, .c 0, .any, 0, "AUX_COMPL"⟩]⟩,
  ⟨0x7210, 96, [
    ⟨0x01, 0x60, .dom 16, rws, 1, .c 0, .any, 0, "PA_BIAS"⟩]⟩,
  ⟨0x7211, 96, [
    ⟨0x01, 0x60, .u 2, ro, 0, .c 65535, .any, 0, "GB_CODE_ACT"⟩]⟩,
  ⟨0x7212, 96, [
    ⟨0x01, 0x60, .u 1, ro, 0, .c 0, .any, 0, "GB_FAULT_WHY"⟩]⟩,
  ⟨0x7214, 1, [
    ⟨0x01, 0x01, .u 2, rws, 1, .c 40, .rng 10 200, 0, "GB_FAULT_TOL"⟩]⟩,
  ⟨0x7220, 5, [
    ⟨0x01, 0x01, .u 4, ro, 0, .c 0, .any, 0, "RFL_TRIPS"⟩,
    ⟨0x02, 0x02, .u 4, ro, 0, .c 0, .any, 0, "GB_FAULTS"⟩,
    ⟨0x03, 0x03, .u 4, ro, 0, .c 0, .any, 0, "TS_SUSPECT_EVENTS"⟩,
    ⟨0x04, 0x04, .u 4, ro, 0, .c 0, .any, 0, "HK_REFNOTREADY"⟩,
    ⟨0x05, 0x05, .bool, wo, 1, .c 0, .any, 0, "CLEAR"⟩]⟩]

/-- The indices 0x8000 to 0x80FF. -/
def dict80 : List ObjIndex := [
  ⟨0x8000, 16, [
    ⟨0x01, 0x01, .u 1, ro, 0, .c 0, .any, 0, "FW_RUN_STATE"⟩,
    ⟨0x02, 0x02, .u 1, ro, 0, .c 0, .any, 0, "FW_LOAD_STATE"⟩,
    ⟨0x03, 0x03, .bool, wo, 2, .c 0, .any, 0, "FW_VERIFY"⟩,
    ⟨0x04, 0x04, .u 1, ro, 0, .c 0, .any, 0, "FW_VERIFY_STATUS"⟩,
    ⟨0x05, 0x05, .bool, rws, 2, .c 0, .any, 0, "FW_SWAP"⟩,
    ⟨0x06, 0x06, .bool, wo, 2, .c 0, .any, 0, "FW_CONFIRM"⟩,
    ⟨0x07, 0x07, .u 4, rw, 2, .c 600, .zeroOr 60 86400, 0, "FW_TRIAL_TIME"⟩,
    ⟨0x08, 0x08, .oct 48, ro, 0, .c 0, .any, 0, "FW_MEASURE"⟩,
    ⟨0x09, 0x09, .u 1, ro, 0, .c 0, .any, 0, "FW_SVN"⟩,
    ⟨0x0A, 0x0A, .u 1, ro, 0, .c 0, .any, 0, "ROLLBACK_CTR"⟩,
    ⟨0x0B, 0x0B, .u 4, ro, 0, .c 0, .any, 0, "INACT_VERSION"⟩,
    ⟨0x0C, 0x0C, .u 1, ro, 0, .c 0, .any, 0, "INACT_SVN"⟩,
    ⟨0x0D, 0x0D, .u 1, ro, 0, .c 0, .any, 0, "FW_KEY_REVOKED"⟩,
    ⟨0x0E, 0x0E, .u 1, ro, 0, .c 0, .any, 0, "BOOT_SOURCE"⟩,
    ⟨0x0F, 0x0F, .u 4, ro, 0, .c 0, .any, 0, "FW_REVERTS"⟩,
    ⟨0x10, 0x10, .u 4, ro, 0, .c 0, .any, 0, "FW_VERIFY_FAILS"⟩]⟩,
  ⟨0x8010, 5, [
    ⟨0x01, 0x01, .u 2, ro, 0, .c 0, .any, 0, "CERT_LEN"⟩,
    ⟨0x02, 0x05, .oct 4096, ro, 0, .c 0, .any, 0, "CERT_SEG"⟩]⟩,
  ⟨0x8020, 7, [
    ⟨0x01, 0x01, .oct 32, ro, 0, .c 0, .any, 0, "SESSION_CHALLENGE"⟩,
    ⟨0x02, 0x02, .oct 384, wo, 0, .c 0, .any, 0, "SESSION_RESP_RSA"⟩,
    ⟨0x03, 0x03, .oct 7856, wo, 0, .c 0, .any, 0, "SESSION_RESP_SLH"⟩,
    ⟨0x04, 0x04, .u 1, wo, 0, .c 0, .orFF 7, 0, "SESSION_OPEN"⟩,
    ⟨0x05, 0x05, .bool, wo, 2, .c 0, .any, 0, "SESSION_CLOSE"⟩,
    ⟨0x06, 0x06, .u 4, rw, 2, .c 600, .rng 60 86400, 0, "SESSION_LEASE"⟩,
    ⟨0x07, 0x07, .u 4, ro, 0, .c 0, .any, 0, "SESSION_FAILS"⟩]⟩,
  ⟨0x8021, 8, [
    ⟨0x01, 0x08, .dom 416, rw, 2, .c 0, .any, 0, "CRED_KEYS"⟩]⟩,
  ⟨0x8022, 8, [
    ⟨0x01, 0x08, .u 1, ro, 0, .c 0, .any, 0, "CRED_STATE"⟩]⟩,
  ⟨0x8023, 2, [
    ⟨0x01, 0x01, .u 1, wo, 2, .c 0, .rng 0 7, 0, "CRED_REVOKE"⟩,
    ⟨0x02, 0x02, .u 1, ro, 0, .c 0, .any, 0, "SESSION_LEVEL"⟩]⟩,
  ⟨0x8030, 5, [
    ⟨0x01, 0x01, .oct 32, wo, 0, .c 0, .any, 0, "ATTEST_REQ"⟩,
    ⟨0x02, 0x02, .u 1, ro, 0, .c 0, .any, 0, "ATTEST_STATE"⟩,
    ⟨0x03, 0x03, .oct 256, ro, 0, .c 0, .any, 0, "ATTEST_BODY"⟩,
    ⟨0x04, 0x04, .oct 384, ro, 0, .c 0, .any, 0, "ATTEST_SIG_RSA"⟩,
    ⟨0x05, 0x05, .oct 7856, ro, 0, .c 0, .any, 0, "ATTEST_SIG_SLH"⟩]⟩]

/-- The indices 0x9000 to 0x90FF. -/
def dict90 : List ObjIndex := [
  ⟨0x9000, 8, [
    ⟨0x01, 0x01, .u 2, ro, 0, .c 0, .any, 0, "DMA_ACTIVE"⟩,
    ⟨0x02, 0x02, .u 4, ro, 0, .c 0, .any, 0, "MEM_ECC_CORR"⟩,
    ⟨0x03, 0x03, .u 4, ro, 0, .c 0, .any, 0, "MEM_ECC_UNCORR"⟩,
    ⟨0x04, 0x04, .u 2, ro, 0, .c 0, .any, 0, "HK_RING_WR"⟩,
    ⟨0x05, 0x05, .u 2, rw, 1, .c 0, .rng 0 4095, 0, "HK_RING_RD"⟩,
    ⟨0x06, 0x06, .u 4, ro, 0, .c 0, .any, 0, "HK_RING_LOST"⟩,
    ⟨0x07, 0x07, .u 2, rw, 1, .c 64, .rng 1 4096, 0, "HK_RING_MARK"⟩,
    ⟨0x08, 0x08, .bool, wo, 1, .c 0, .any, 0, "CLEAR"⟩]⟩,
  ⟨0x9001, 14, [
    ⟨0x01, 0x01, .bool, rw, 1, .c 0, .any, 0, "CH_CLAIM"⟩,
    ⟨0x02, 0x02, .u 1, rw, 1, .c 1, .rng 0 3, 0, "CH_PRIO"⟩,
    ⟨0x03, 0x03, .u 1, rw, 1, .c 0, .any, 0, "CH_TRIG"⟩,
    ⟨0x04, 0x04, .u 4, rw, 1, .c 1000, .rng 10 10000000, 0, "CH_TIMER"⟩,
    ⟨0x05, 0x05, .u 4, rw, 1, .c 0, .any, 0xFFFFF800, "CH_AT"⟩,
    ⟨0x06, 0x06, .u 4, wo, 1, .c 0, .any, 0, "CH_START"⟩,
    ⟨0x07, 0x07, .bool, wo, 1, .c 0, .any, 0, "CH_DOORBELL"⟩,
    ⟨0x08, 0x08, .bool, wo, 1, .c 0, .any, 0, "CH_STOP"⟩,
    ⟨0x09, 0x09, .u 1, ro, 0, .c 0, .any, 0, "CH_STATE"⟩,
    ⟨0x0A, 0x0A, .u 4, ro, 0, .c 0, .any, 0, "CH_DESC"⟩,
    ⟨0x0B, 0x0B, .u 1, ro, 0, .c 0, .any, 0, "CH_TRIG_COUNT"⟩,
    ⟨0x0C, 0x0C, .u 4, ro, 0, .c 0, .any, 0, "CH_DONE"⟩,
    ⟨0x0D, 0x0D, .u 4, rw, 1, .c 10000, .rng 100 600000, 0, "CH_LEASE"⟩,
    ⟨0x0E, 0x0E, .u 4, ro, 0, .c 0, .any, 0, "CH_TRIG_LOST"⟩]⟩,
  ⟨0x9020, 8, [
    ⟨0x01, 0x01, .u 1, rw, 1, .c 1, .rng 0 5, 0, "CAP_POINT"⟩,
    ⟨0x02, 0x02, .u 1, rw, 1, .c 0, .any, 0, "CAP_PATH"⟩,
    ⟨0x03, 0x03, .u 1, rw, 1, .c 0, .rng 0 3, 0, "CAP_CARRIER"⟩,
    ⟨0x04, 0x04, .u 2, rw, 1, .c 0, .any, 0, "CAP_STREAM"⟩,
    ⟨0x05, 0x05, .u 4, rw, 1, .c 2048, .any, 0xFFFFF800, "CAP_AT"⟩,
    ⟨0x06, 0x06, .u 4, rw, 1, .c 1, .any, 0, "CAP_LEN"⟩,
    ⟨0x07, 0x07, .bool, wo, 1, .c 0, .any, 0, "CAP_ARM"⟩,
    ⟨0x08, 0x08, .u 1, ro, 0, .c 0, .any, 0, "CAP_STATE"⟩]⟩]

/-- The indices 0xA000 to 0xA0FF. -/
def dictA0 : List ObjIndex := [
  ⟨0xA000, 7, [
    ⟨0x01, 0x01, .u 8, rw, 1, .c 0, .any, 0, "ALARM_MASK"⟩,
    ⟨0x02, 0x02, .u 2, rw, 1, .c 10, .rng 1 3600, 0, "ALARM_HOLD"⟩,
    ⟨0x03, 0x03, .u 4, ro, 0, .c 0, .any, 0, "LOG_WRITTEN"⟩,
    ⟨0x04, 0x04, .u 4, ro, 0, .c 0, .any, 0, "LOG_NEXT"⟩,
    ⟨0x05, 0x05, .oct 20, ro, 0, .c 0, .any, 0, "LOG_READ"⟩,
    ⟨0x06, 0x06, .u 4, ro, 0, .c 0, .any, 0, "LOG_LOST"⟩,
    ⟨0x07, 0x07, .bool, wo, 1, .c 0, .any, 0, "LOG_CLEAR"⟩]⟩]

/-- The dictionary page that holds an index (the index's high byte). -/
def dictPage (hi : Nat) : List ObjIndex :=
  if hi = 0x10 then dict10
  else if hi = 0x11 then dict11
  else if hi = 0x12 then dict12
  else if hi = 0x1F then dict1F
  else if hi = 0x20 then dict20
  else if hi = 0x21 then dict21
  else if hi = 0x24 then dict24
  else if hi = 0x30 then dict30
  else if hi = 0x31 then dict31
  else if hi = 0x32 then dict32
  else if hi = 0x33 then dict33
  else if hi = 0x40 then dict40
  else if hi = 0x41 then dict41
  else if hi = 0x42 then dict42
  else if hi = 0x43 then dict43
  else if hi = 0x44 then dict44
  else if hi = 0x48 then dict48
  else if hi = 0x50 then dict50
  else if hi = 0x60 then dict60
  else if hi = 0x61 then dict61
  else if hi = 0x62 then dict62
  else if hi = 0x70 then dict70
  else if hi = 0x71 then dict71
  else if hi = 0x72 then dict72
  else if hi = 0x80 then dict80
  else if hi = 0x90 then dict90
  else if hi = 0xA0 then dictA0
  else []

end Sys2Proof.Machine
end

