-- ==== Sys2Proof/Machine/State.lean ====
section
/-!
DEFINITION. The state of the block, as plain data: the object dictionary's values, and every register, queue,
buffer, timer and pin the spec names that no object shows.
-/

namespace Sys2Proof.Machine

/-- Why a run may stop. No rule of the spec stops the block, so there is no reason: an access the spec
refuses is answered with its status, and the block goes on. -/
inductive Fault where
deriving DecidableEq, Repr

/-- Why a command may have no meaning. -/
inductive Refusal where
  /-- Raised by the dispatch for a command that has no meaning yet, by its mnemonic. Safe: the run stops. -/
  | notModelled (mnemonic : String)
deriving DecidableEq, Repr

/-! ### Control: alarms, log, staging, locks, requests (chapter 14) -/

/-- A raised alarm instance (R349): its code, its DETAIL, and the instant it was last raised. -/
structure AlarmInst where
  code : Nat
  detail : Nat
  since : Nat
deriving DecidableEq, Repr

/-- An entry of the event log (Table 14-9): code, KIND (0 cleared, 1 raised), ORIGIN, DETAIL, seconds, nanoseconds. -/
structure LogEntry where
  code : Nat
  kind : Nat
  origin : Nat
  detail : Nat
  sec : Nat
  ns : Nat
deriving DecidableEq, Repr

/-- The staging set (R338): owner word, staged values by key, instant at which the lease ends. -/
structure StageSet where
  owner : Nat
  vals : SMap Nat
  leaseEnd : Nat
deriving DecidableEq, Repr

/-- An accepted commit that waits (R340, R341): activation instant on the time counter, the numerology of its triple,
values by key. -/
structure PCommit where
  at_ : Int
  scs : Nat
  vals : SMap Nat
deriving DecidableEq, Repr

/-- A lock (R344): owner word (0 free), end of the lease (none: no lease). -/
structure LockRec where
  owner : Nat
  leaseEnd : Option Nat
deriving DecidableEq, Repr

/-- A management request that waits or is in service (R254 to R256). -/
structure MReq where
  req : Req
  op : Nat
  w1 : Nat
  count : Nat
  data : List Nat
  arrived : Nat
  one : Bool               -- it came with DEST 0x00000 (R318)
deriving DecidableEq, Repr

/-- A transaction this node has outstanding as requester (R255): destination, tag, PRIO and prefix words of the
request, egress port, instant at which it left, and whether it came from the LHP (R354). -/
structure MTag where
  dest : Nat
  tag : Nat
  prio : Nat
  w0 : Nat
  w1 : Nat
  port : Nat
  left : Nat
  lhp : Bool
deriving DecidableEq, Repr

/-- The shadow of the status window port (R356 to R359): the words written, by address (of the control processor's words of
group 0, their values when it became absent), the map of the last refresh, and the instants of the last refreshes by hardware
and by the control processor. -/
structure Swp where
  words : SMap Nat
  map : Nat
  hwAt : Option Nat
  cpAt : Option Nat
deriving DecidableEq, Repr

/-- A frame in the request queue of the LHP: its NODE, the request it carries, its bytes. -/
structure LhpIn where
  node : Nat
  m : MReq
  size : Nat
deriving DecidableEq, Repr

/-- The local host port (R351 to R355): frames queued, frames to send, the SPI mode, HXOFF and HAVAIL. -/
structure Lhp where
  inq : List LhpIn
  out : List (List Nat)
  spiMode : Nat
  hxoff : Bool
  havail : Bool
  ignore : Bool          -- the transaction that woke the device: its frames are ignored (R399)
deriving DecidableEq, Repr

/-! ### Ledger and power (chapter 16) -/

/-- What holds a grant of the ledger: the blocks that the cost tables of the chapters name. -/
inductive GKind where
  | dom | timeLogic | pll | lo | loCal | refIn | carDl | carUl | carDlTile | carUlTile | tileDl | tileUl
  | childAdder | pathTx | pathRx | orx | inj | bench | assay | dpdEngine | dcCore | portBase | lane
  | dmaChan | auxChan | tpo | fwVerify | attest | session | otp | swp | block
deriving DecidableEq, Repr

/-- One grant in force: holder, base costs on the eight rails in the order of R17 (10 mA units). -/
structure Grant where
  kind : GKind
  n : Nat
  cost : List Nat
deriving DecidableEq, Repr

/-- A handshake in progress (R390): Dormant or named domains, who has answered, whether the act phase runs. -/
structure Handshake where
  dormant : Bool
  doms : List Nat
  waiting : List Nat
  since : Nat
  acting : List Nat        -- domains still to be powered down, in order
  started : Bool           -- the act phase has begun
deriving DecidableEq, Repr

/-- A request or engine access that waits for a domain to wake (R402). -/
structure Stall where
  dom : Nat
  since : Nat
  mem : Option MReq        -- a memory access of a requester
  chan : Option Nat        -- a DMA channel
deriving DecidableEq, Repr

/-- Power control state that no object shows. -/
structure Power where
  hand : Option Handshake
  waking : SMap Nat          -- domain (key) and the instant its credit was granted
  pend : List (Nat × Nat)    -- domains that want power and have no credit yet, with the instant of the request
  stalls : List Stall
  wakeStep : Nat             -- step of R400 in progress; 0 none
  dormant : Bool
  signed : List Nat          -- retained banks signed while their domain is off (R398); 11: a shadow not retained
  wakeOk : Bool              -- the credit of the wake step in progress is granted
  wakeTry : Nat              -- its last request
  settling : Bool            -- woken from Dormant: calibration or time lock not complete (Table 16-11)
  brief : Bool               -- start-up calibration runs steps 1, 2 and 6 only (R400)
  napping : Bool             -- the gated blocks of a nap slot are gated (R395)
  keepTime : Bool            -- TM keeps time on the crystal (R397)
  napped : Bool              -- the slot of RADIO_SCS in progress is a nap slot (R395)
  fired : Option Nat         -- instant at which an enabled wake source last fired (R401)
deriving DecidableEq, Repr

/-! ### Link (chapters 10 and 11) -/

/-- A packet queued for egress: whether this node numbers it, the close of its window, its arrival, and the port whose
ingress buffer keeps it meanwhile (R257). -/
structure EgItem where
  pkt : Pkt
  own : Bool
  close : Option Int
  arrived : Nat
  inp : Option Nat
deriving DecidableEq, Repr

/-- Flow control of one class in one direction (Table 10-11). -/
structure FcState where
  held : Bool
  last : Nat               -- last XOFF
  since : Nat              -- first XOFF of this spell
  stalled : Bool
deriving DecidableEq, Repr

/-- Neither held nor stalled. -/
def FcState.init : FcState := ⟨false, 0, 0, false⟩

/-- A restripe or restore that waits for its marker (R261, R266): lane, and the marker's low 24 bits. -/
structure Switch where
  lane : Nat
  epm : Option Nat
  reason : Nat
  drop : Bool
  lastEpm : Nat
  reqAt : Nat
deriving DecidableEq, Repr

/-- An entry of the replay store (R263): the packet, and the count of the last marker sent before it. -/
structure ReplayItem where
  pkt : Pkt
  epm : Nat
deriving DecidableEq, Repr

/-- A proxied request (R323): SRC, TAG, PRIO, port it came from, prefix words, instant of forwarding. -/
structure ProxyRec where
  req : Req
  w0 : Nat
  w1 : Nat
  at_ : Nat
deriving DecidableEq, Repr

/-- A port (R240 to R270): what its objects do not show. -/
structure Port where
  since : Nat                -- entry to the present training state
  failedAt : Option Nat      -- last training failure
  credited : Nat             -- lanes credited, mask
  trained : Nat              -- lanes trained, mask
  failedLanes : Nat          -- lanes whose training ended untrained, mask
  aligned : Nat              -- lanes that show COM lock, mask
  ts1 : Nat                  -- lanes on which TS1 was seen, mask
  ts2 : Nat                  -- consecutive matching TS2
  peerRate : Nat
  peerWidth : Nat
  peerLanes : Nat
  agreedRate : Nat
  agreedWidth : Nat
  agreedLanes : Nat
  rateTrained : Nat
  ready : Bool               -- RATE complete: ACTIVE at the next marker
  deep : Bool                -- deep lane state (R282)
  deepWake : Option Nat      -- instant the lanes began to leave it
  wokeAt : Option Nat        -- a wake detected while the port was not deep: its instant (Table 11-9)
  dropRx : Option Switch
  dropTx : Option Switch
  lostRx : Option Nat        -- lane out of the receive direction
  lostTx : Option Nat
  lastLmg : Option (List Nat × Nat)
  epmTx : Nat                -- last count sent
  epmSeen : Bool             -- a count has been received since ACTIVE
  egress : List EgItem
  aWait : List Pkt           -- class A packets that wait while the control processor is absent (R328)
  txSeq : SMap Nat           -- next SEQ per combination
  lastSeq : SMap Nat         -- L + 1 per combination of the receiver, 0 none (R249)
  replay : List ReplayItem
  replayGone : List Nat      -- marker counts of the last packets the store no longer holds
  pendReplay : List Pkt
  rx : SMap FcState          -- this receiver's XOFF state of M, C, DU
  tx : SMap FcState          -- this sender's HOLD state of M, C, DU
  keep : List EgItem         -- packets this ingress buffer keeps for the node itself, until the instant of `close` (R257)
  carried : List Nat         -- classes C and D that were forwarded to this egress since ACTIVE (R259)
  fluWait : List (Nat × Nat × List EgItem)  -- FLU to forward after the packets that preceded it: class, stream (R259)
  sentAt : List (Nat × Nat)  -- packets sent in the last 2 ms: combination, instant (R249)
  outCtl : List (List Nat)   -- control sequences sent, oldest first, bytes after the K symbol with its code first
  flush : List (Nat × Nat)   -- FLU pending: class, stream
  dUsed : SMap Nat           -- wire bytes of D offered per stream ID this epoch
  dPrev : SMap Nat
  oUsed : Nat                -- bytes of the other classes sent this epoch
  oPrev : Nat
  oRx : Nat                  -- bytes of the other classes received this epoch
  oRxPrev : Nat
  shed : List Nat            -- shed streams, 16 c + s
  busyUntil : Int            -- the packet in progress ends, on the time counter
  lastTx : Option Pkt        -- the packet sent last
  proxies : List ProxyRec
  proxyQ : List MReq
  recordsMs : Nat            -- records forwarded in the present millisecond
  recordsAt : Int            -- that millisecond, on the time counter
  addrAt : Option Nat        -- last address write sent to the child (R318)
  mismatchGone : Option Nat  -- CHILD_ADDR_MISMATCH condition absent since
deriving DecidableEq, Repr

/-- A lane (chapter 11): what its objects do not show. -/
structure Lane where
  los : Bool
  locked : Bool
  training : Bool
  errWin : List Nat          -- errors of the last 64 milliseconds, newest first
  clean : Option Nat         -- dropped lane trained again: free of errors since
  preset : Option Nat        -- preset entry in use, 0xFE the fallback
  sync : Bool                -- PRBS checker in sync
  inject : Nat               -- bits inverted by the last injection
  looped : Nat               -- inverted bits returned to this lane's own checker and not yet counted (R286)
  settings : Nat             -- word-1 settings applied at its last training, bits [31:10] (R277 to R279); 0 before one
deriving DecidableEq, Repr

/-- What summaries leave to remember (R325): the last one sent (SUMMARY, nodes, depth) and its instant. -/
structure Hier where
  sent : Option (Nat × Nat × Nat)
  at_ : Option Nat
  assigned : Option Nat      -- instant of the last address assignment accepted (Table 13-7)
  freed : List (MTag × Nat)  -- tags freed by M_TIMEOUT in the present cycle, with the instant (Table 10-18)
deriving DecidableEq, Repr

/-! ### Time (chapter 12) -/

/-- One time exchange in progress on port U (R299): sequenceId of its Sync, t1 to t3 in units of 2^-16 ns, the
sequenceId of its Delay_Req, the instant of t2, and whether the Sync carried LOCKED 1 and an equal digest. -/
structure Exchange where
  seq : Nat
  ok : Bool
  t1 : Option Int
  t2 : Int
  t3 : Option Int
  reqSeq : Option Nat
  at_ : Nat
deriving DecidableEq, Repr

/-- A timed output pulse (R307): level of its active sense, number of its next leading edge, whether its next edge is
the trailing one, the counter value before which no edge is emitted, and whether a single pulse is over. -/
structure Tpo where
  high : Bool
  k : Nat
  trailing : Bool
  from_ : Int
  done : Bool
deriving DecidableEq, Repr

/-- An output at rest. -/
def Tpo.init : Tpo := ⟨false, 0, false, 0, false⟩

/-- A capture input (R308): queued stamps (units of 2^-16 ns) with their edge kinds, the last captured edge, the second
in which an edge was last lost. -/
structure Tci where
  q : List (Int × Nat)
  lastAt : Option Nat
  lostSec : Option Int
deriving DecidableEq, Repr

/-- An input with nothing captured. -/
def Tci.init : Tci := ⟨[], none, none⟩

/-- The time block: what its objects do not show. -/
structure TimeSt where
  i : Int                    -- servo integrator, 2^-32 ppb
  y : Int                    -- frequency adjustment, 0.001 ppb
  yAcc : Int                 -- y summed over the ticks of the present epoch, up to ySince
  ySince : Nat
  epochAt : Nat              -- start of the present epoch
  yHist : List Int           -- last 16 values of y
  good : Nat                 -- consecutive exchanges or pulses within TIME_LOCK_THR
  bad : Nat                  -- consecutive exchanges beyond TIME_UNLOCK_THR
  missed : Nat               -- consecutive exchanges missed
  exch : Option Exchange
  lastSync : Option Nat      -- last accepted Sync
  lastSyncSeq : Option Nat
  seqs : SMap Nat            -- next sequenceId by 16 × port + messageType
  sent : SMap Nat            -- last period in which Sync (key p) or Announce (key 8 + p) was sent, plus 1
  parentFlags : Nat          -- second flag byte of the parent's Announce, or from the ToD
  childLocked : SMap Bool    -- LOCKED bit of D1, D2
  childDelay : SMap Nat      -- MEAN_DELAY reported by D1, D2, ns
  delayNs : Nat              -- own MEAN_DELAY for Delay_Req
  lastPpsAt : Option Nat     -- last pulse
  lastLabel : Option Nat     -- last pulse that a valid ToD labelled
  tod : Option Nat           -- seconds that label the next pulse
  todPrev : Option Nat       -- seconds of the previous pulse
  holdover : Option Nat      -- entry to HOLDOVER
  stepped : Option (Nat × Int) -- last step of the counter: its instant, and the offset of the counter before it
  stepAt : Option Nat        -- TIME_SET: end of the 16 intervals
  todMin : Option Int        -- minute in which TOD_BAD was raised
  tpo : SMap Tpo
  tci : SMap Tci
  alarms : SMap (Option Int) -- armed time alarms, on the time counter
deriving DecidableEq, Repr

/-! ### Beam tables, downlink and uplink (chapters 02 to 05) -/

/-- A record of one PRB of one stream (R79): mantissa width, exponent, 24 mantissas I0, Q0, I1, Q1, … -/
structure Rec where
  stream : Nat
  prb : Nat
  m : Nat
  e : Nat
  q : List Int
deriving DecidableEq, Repr

/-- A section held for one symbol (R488): entry references in order, in-packet vectors, order of arrival, and
whether the symbol is the first it applies to. -/
structure Sect where
  ents : List Nat
  vecs : List (Nat × List Nat)
  arr : Nat
  first : Bool
deriving DecidableEq, Repr

/-- What a stream contributes to a PRB group (R37): first and last PRB, weight index, and the in-packet vector the
index names, if the section carries one. -/
structure Piece where
  lo : Nat
  hi : Nat
  widx : Nat
  vec : Option (List Nat)
deriving DecidableEq, Repr

/-- A stream's part of a PRB group already beamformed: stream ID, content, and whether it was taken on a prediction
that no section has settled yet. -/
structure DoneGrp where
  sid : Nat
  piece : Piece
  pred : Bool
deriving DecidableEq, Repr

/-- What the downlink holds for one symbol of one carrier (absolute slot number, R305). -/
structure DlSym where
  car : Nat
  slot : Int
  sym : Nat
  recs : List Rec
  conf : List (Nat × Sect)
  prov : List (Nat × Sect)
  provN : List Nat           -- streams of provisional sections heard, one entry per section
  done : List DoneGrp
  closed : Bool              -- the C-plane window has closed
  fixed : Bool               -- the touchstone has passed
  past : List (Nat × Sect)   -- confirming sections that a later one of the same stream supersedes (R36, R55)
  redone : List (Nat × Nat)  -- groups that count in SPEC_RECOMPUTED already, by first and last PRB (R38)
deriving DecidableEq, Repr

/-- A group on the fast path (R38): class 1 by event, class 2 by the close of the C-plane window, class 3 sent
to the back of the queue. -/
structure FItem where
  car : Nat
  slot : Int
  sym : Nat
  lo : Nat
  hi : Nat
  cls : Nat
  sid : Nat
  elig : Nat
deriving DecidableEq, Repr

/-- A suppressed output (R99, R100): a path (255: every path), a carrier (255: the whole path), and the span on the time
counter, at the reference plane. -/
structure Supp where
  path : Nat
  car : Nat
  from_ : Int
  until_ : Int
deriving DecidableEq, Repr

/-- Channel-filter coefficients that a running path keeps although its carrier names others by now (R101, R113): path,
carrier, the set and, for a user set, its content. -/
structure Kept where
  path : Nat
  car : Nat
  set : Nat
  taps : Nat
deriving DecidableEq, Repr

/-- A symbol on its way from the touchstone to the DAC: carrier, numerology, width, slot, symbol, its start at the reference
plane in samples of 491.52 MS/s of air time, the touchstone's non-zero samples as in TouchOut. -/
structure DlSeg where
  car : Nat
  scs : Nat
  nrb : Nat
  slot : Int
  sym : Nat
  at_ : Int
  b : SMap (Int × Int)
deriving DecidableEq, Repr

/-- What the chains hold that no staged object shows, from a sample of 491.52 MS/s of air time on: coefficients kept by
downlink and uplink branches, oscillators (key 48 × direction + 4 × tile + carrier: word, phase in 2^-32 cycle at that
sample), calibration corrections by 8 × path + assay, and the engines that apply a bank (path: its terms as descriptor and
coefficient). -/
structure ChainCfg where
  at_ : Int
  keptDl : List Kept
  keptUl : List Kept
  nco : List (Nat × Int × Nat)
  corr : List (Nat × List Int)
  eng : List (Nat × List (Nat × Int × Int))
deriving DecidableEq, Repr

/-- One output of the touchstone: carrier, slot, symbol, non-zero samples by 4,096 × path + subcarrier. -/
structure TouchOut where
  car : Nat
  slot : Int
  sym : Nat
  b : SMap (Int × Int)
deriving DecidableEq, Repr

/-- The downlink: symbols held, the fast path, the last touchstone outputs, coefficients still to load,
suppressed outputs, G of the slot. -/
structure Dl where
  syms : List DlSym
  fastQ : List FItem
  running : Option (FItem × Nat)   -- the recompute in progress and the instant it ends
  arrivals : Nat
  out : List TouchOut
  chfOld : List Kept               -- branches that hold old channel-filter coefficients
  chfSince : Option Nat
  supp : List Supp                 -- suppressed outputs of the last millisecond
  restart : List (Nat × Int)       -- carriers that lose the named slot's symbol 0 (plus 16: the whole slot)
  gSlot : Option (Int × Nat × Bool) -- start of the slot whose G is fixed, that G, and whether the clamp acts (R86)
  shortRun : Bool                  -- the clamp acted in the previous slot
  stopped : Bool                   -- a datapath PLL is out of lock: chains stopped (R169)
  dozing : List Nat                -- paths that doze in the present symbol (R394)
  segs : List DlSeg                -- symbols of the last millisecond on their way to the DAC, oldest first
  cfgs : List ChainCfg             -- what the chains held in the last millisecond, oldest first
  satTo : Int                      -- sample of 491.52 MS/s of air time up to which saturations are counted
  rsBase : Int                     -- position of a resampler output, in 2^-40 of a sample at 983.04 MS/s of air time (R95)
deriving DecidableEq, Repr

/-- A partial-sum packet of this node, before combining (R115 to R118). -/
structure OwnPkt where
  e : Int                          -- the end instant of its symbol, on the time counter
  p : Nat                          -- its place in the burst
  car : Nat
  scs : Nat
  slot : Int
  sym : Nat
  strm : Nat                       -- stream slot
  stream : Nat
  part : Nat
  prbFirst : Nat
  count : Nat
  recs : List (Nat × List Int)     -- exponent and 24 mantissas
  tally : Nat
  mw : Nat
  scale : Nat                      -- B of its records: UL_OUT_SCALE in force in its symbol's slot
  judged : List (Nat × Bool)       -- child ports judged at the cut-off, and whether the place counted missing
  cut : Bool                       -- its cut-off has passed (R45)
  gone : Bool                      -- its departure has passed
deriving DecidableEq, Repr

/-- An admitted packet of a child (R123). -/
structure ChPkt where
  port : Nat
  e : Int
  p : Nat
  recs : List (Nat × List Int)
  m : Nat
  scale : Nat
  tally : Nat
  nodes : Nat
  dead : Bool                      -- failed a check: seen, and not admissible
  adm : Bool                       -- admitted at the cut-off
deriving DecidableEq, Repr

/-- Combining state of one child port. -/
structure ChSt where
  run : Nat                        -- consecutive bursts with every place missing
  wellFormed : Bool                -- a packet passed the second to fourth checks while REMOVED
  removeNow : Bool                 -- removal takes effect at the next symbol
  admitFrom : Option Int           -- admitted from symbols that start at or after this instant
deriving DecidableEq, Repr

/-- The uplink: sections by symbol, FFT values, own packets, children's packets. -/
structure Ul where
  sects : List DlSym               -- the same layout; only conf is used
  own : List OwnPkt
  child : List ChPkt
  ch : SMap ChSt                   -- D1, D2
  fft : List (Nat × Nat × List (Int × Int))  -- last FFT output: carrier, path, values
  sent : List (Int × Nat × List Nat)         -- last packets sent: burst, place, payload
  chfOld : List Kept
  chfSince : Option Nat
  supp : List Supp
  restart : List (Nat × Int)
  rxGone : List (Nat × Int × Int)  -- spans in which a tile's RX LO was not ready: tile, from, to (R151)
  rxLate : List (Nat × Int)        -- RX symbols lost to an LO: tile and T_air (R151)
  moved : List (Nat × Int)         -- tiles that another LO feeds from an instant on: they lose the symbol that starts then (R178)
  rsBase : Int × Int               -- an output of the resampler and its position in 2^-40 of an ADC sample (R110)
deriving DecidableEq, Repr

/-- A 17th uplink vector that waits for a symbol end (R70): its index and words, the words behind it by offset, and the
request or channel that waits with them. -/
structure Held where
  v : Nat
  ws : List Nat
  rest : List (Nat × Nat)
  m : Option MReq
  ch : Option Nat
deriving DecidableEq, Repr

/-- The tables of one direction (chapter 03), beside their memories. -/
structure Tbl where
  asm : Option (Nat × List Nat)    -- vector assembly: vector, words so far
  pendVec : Nat                    -- applied uplink vectors that wait for a symbol end (R70)
  held : Option Held
  dyn : SMap Nat                   -- dynamic store: 96 × position + path, weight word
  latch : SMap Nat                 -- last-good latches: word 0 above word 1
  torn : List Nat                  -- entries torn at the last slot boundary
  markPend : Nat
  bank : Nat                       -- the bank staging was opened for
  fill : Option (Nat × Bool)       -- fill in progress: its start, zero mode
  clone : Option (Nat × List Nat)  -- schedule copy in progress: its start, words written meanwhile
  swap : Option (Nat × Int)        -- weight swap committed or applied: bank, boundary
  swapped : Bool                   -- its boundary has passed
  sched : Option Int               -- last schedule swap's boundary, committed or applied
  schedDone : Bool
  fresh : List (Nat × Nat × Nat × Nat)  -- words written directly in the present FRAME cycle: instant, address, old, new
deriving DecidableEq, Repr

/-! ### RF paths and front end (chapter 06) -/

/-- Front-end pins by kind: TXON_n, TRSW_k, LNABYP_k, the driver's unmute, the RX input stage of a path, the gate
of a path (0 high-impedance, 1 pinch-off, 2 operating), and the radio state of an LO domain (Table 6-14), which moves
at the same kind of instants. -/
inductive PinKind where | txon | trsw | lnabyp | driver | rxStage | gate | radio
deriving DecidableEq, Repr

/-- A scheduled edge of a pin (Tables 6-4 to 6-6). -/
structure PinEdge where
  at_ : Int
  kind : PinKind
  n : Nat
  level : Nat
deriving DecidableEq, Repr

/-- The coexistence handshake (R157, R158): the pins, what the grant is for (0 nothing, 1 injection,
2 transmit run), and its instants. -/
structure Cx where
  req : Bool
  pri : Bool
  gnt : Bool
  use : Nat
  since : Nat
  grantAt : Option Nat
  inUse : Bool
  lowSince : Option Nat
deriving DecidableEq, Repr

/-- A TX symbol whose entry found an LO that is not ready (R149): LO domain, slot and symbol, instant of the check, tiles that
counted, and whether that raised the once-per-slot alarm. -/
structure FailedEntry where
  lo : Nat
  slot : Int
  sym : Nat
  at_ : Int
  tiles : List Nat
  alarmed : Bool
deriving DecidableEq, Repr

/-- RF state that no object shows. -/
structure Rf where
  levels : SMap Nat                -- settled pin levels that differ from Table 6-10, by kind and number
  edges : List PinEdge
  atten : List (Nat × Nat × Nat × Int)  -- pending attenuation: 0 TX or 1 RX, path, code, instant of its effect
  held : List (Nat × Option Int)   -- paths cleared of a fault, and the slot boundary that released them (R154)
  txRun : Nat                      -- tiles that are in a TX run, mask
  entered : List (Nat × Int)       -- TX symbols whose entry has passed: tile and T_air (R149, R150)
  failed : List FailedEntry        -- entries that found no ready LO in the present TIME cycle (R149)
  denied : Bool                    -- the TX run found no grant (R159)
  cx : Cx
  tone : Bool                      -- the injector emits its tone (R226)
  toneKhz : Nat                    -- the tone's frequency in kHz, of the last injection
  exits : List (Nat × Grant)       -- instants at which exit sequences end, and the credit held from then on (R160)
deriving DecidableEq, Repr

/-! ### Synthesisers and clocks (chapter 07) -/

/-- The divider set a synthesiser runs on (R173). -/
structure Divs where
  refdiv : Nat
  fbdiv : Nat
  frac : Nat
  outdiv : Nat
deriving DecidableEq, Repr

/-- One synthesiser. -/
structure Lo where
  divs : Divs
  good : Nat                       -- consecutive windows within 2 counts
  step : Option Int                -- pending phase step
  stepAt : Option Int              -- instant at which a step was made last
  half : Bool                      -- the second half of a step of −1,024 is due at the symbol after (R484)
  slip : Bool                      -- the output is half a cycle off what LO_PHASE shows (A1-04)
  lockedAt : Option Nat
  band : Bool                      -- VCO band retained
  on : Bool                        -- powered
  upAt : Option Nat                -- in its Sleep-to-Standby transition, since
deriving DecidableEq, Repr

/-- A spare handover (R179): X, S, stage (0 standby, 1 calibrating, 2 measuring, 3 armed), X lost lock. -/
structure Handover where
  x : Nat
  sp : Nat
  stage : Nat
  urgent : Bool
deriving DecidableEq, Repr

/-- Clocks. -/
structure Clk where
  lo : SMap Lo
  hand : Option Handover
  pllAt : SMap (Option Nat)        -- instant each clock PLL declared lock: FRAME, CONV, LINK, CTRL, TIME, HK
  slewing : Bool
  trim : Int                       -- resampler trim in 0.001 ppb, held at the ±1 ppm limit
  refBlank : Bool                  -- downlink blanked by R14
  resume : Bool                    -- stopped chains resume at the next slot boundary (R169)
  hkStopped : Bool                 -- the HK PLL has lost lock: the HK clock stands (Table 7-1)
deriving DecidableEq, Repr

/-! ### Predistortion, observation receivers and the DSP cluster (chapter 08) -/

/-- An adaptation attempt in progress (R199): its core, whether its capture is taken, and what was in force when the
capture began: FCONV code, TX LO in kHz, TILE_LO. -/
structure DpdAtt where
  core : Nat
  captured : Bool
  fconv : Nat
  lo : Nat
  tileLo : Nat
  nmse : Int
deriving DecidableEq, Repr

/-- An exchange that adaptation makes at the next slot boundary (R199 steps 5 and 7): bank, whether it restores the
bank's earlier content, the tags at the capture, and the NMSE of step 4. -/
structure DpdPend where
  bank : Nat
  back : Bool
  fconv : Nat
  lo : Nat
  tileLo : Nat
  nmse : Int
deriving DecidableEq, Repr

/-- Adaptation of one path: start of its last attempt, the instant its period runs from, the instant of the last
exchange by bank, the NMSE that led to the last commit of adaptation and that commit's bank, staleness, the attempt, the pending
exchange. -/
structure DpdPath where
  last : Option Nat
  mark : Nat
  exAt : SMap Nat
  led : Option Int
  ledBank : Nat
  stale : Bool
  att : Option DpdAtt
  pend : Option DpdPend
deriving DecidableEq, Repr

/-- A requester that waits for an ORX (R203, R206): 0 to 11 path offset, 12 calibration, 13 VSWR; the instant of its
request, the ORXSEL code it wants, its hint in 0.1 µs and the hint's flag PRIV, the privileged time that had
passed on the OX when it asked, and the LO it names for codes 12 to 14 (R139). -/
structure OrxReq where
  who : Nat
  since : Nat
  code : Nat
  hint : Nat
  priv : Bool
  privAt : Nat
  lo : Option Nat
deriving DecidableEq, Repr

/-- The arbiter of one observation receiver. -/
structure Orx where
  queue : List OrxReq
  at_ : Nat                  -- instant of the grant in force
  limit : Nat                -- its burst limit, ticks
  settled : Option Nat       -- the capture runs since
  discard : Bool             -- its capture has been discarded
  sel : Nat                  -- ORXSEL_n
  lo : Option Nat            -- the LO its mixer took with codes 12 to 14
  freeAt : Nat               -- first arbiter cycle in which a grant may be issued
  privTime : Nat             -- ticks of privileged grants that have ended
  long : Bool                -- ORX_PRIV_LONG has been raised for this grant
  limited : Option (Nat × Nat)  -- holder and arbiter cycle of the last end by the burst limit
deriving DecidableEq, Repr

/-- Predistortion state that no object shows. -/
structure Dpd where
  paths : SMap DpdPath
  next : Nat                 -- path after the one taken last
  orx : SMap Orx
  coreAt : SMap Nat          -- start of a core's work
  busy : List (Nat × Nat)    -- finished spans of core work of the last second
  reload : List Nat          -- cores that load the program of the firmware that runs before their next task (R434)
deriving DecidableEq, Repr

/-! ### Calibration and ageing (chapter 09) -/

/-- Why a bench slot is planned: the rotation, a demand, parked paths, a group that goes ahead of the rotation (R218, R219, R221, R231). -/
inductive BenchKind where | rotation | demand | parked | displaced
deriving DecidableEq, Repr

/-- The bench slot planned or running (R219 to R222): its group, its paths, its window on the time counter. -/
structure Bench where
  group : Nat
  paths : List Nat
  start : Int
  end_ : Int
  running : Bool
  kind : BenchKind
  fixed : Bool               -- the touchstone of its first symbol has passed (R20)
deriving DecidableEq, Repr

/-- An assay result (R227): path, assay by its bit in CAL_STALE, the values it gives. -/
structure CalRes where
  path : Nat
  assay : Nat
  vals : List Int
deriving DecidableEq, Repr

/-- Calibration and ageing state that no object shows. -/
structure Cal where
  bench : Option Bench
  last : Option Int          -- start of the last bench slot, or of the rotation
  demand : List Nat          -- paths asked for by CAL_BENCH_NOW, oldest first
  displaced : List Nat       -- groups that go ahead of the rotation: displaced by parked paths, or whose demanded slot was not used
  parked : List Nat
  sets : List (Int × List Nat)  -- benched paths of the slots that are fixed, by the slot's start, oldest first (R20)
  had : SMap Nat             -- assays a path has had accepted, by path: bits of CAL_STALE
  reconfAt : Option Int      -- boundary of the last reconfiguration (R22)
  step : Nat                 -- step of Table 9-2 in progress; 0 none
  stepAt : Option Nat        -- its begin; none while it waits
  spent : Nat                -- ticks of start-up calibration so far
  prog : SMap Nat            -- next assay by 2 × path + chain
  progAt : SMap Nat          -- begin + 1 of the assay in progress, by 2 × path + chain
  recipOut : List Nat        -- benched paths whose RECIP is not made in this bench slot, and counted (R229)
  made : List (Nat × Nat × Option Nat)  -- measurements that wait for their result: path, assay, DSP core
  ready : List CalRes        -- accepted results that wait for the return
  alarmed : List Nat         -- paths with CAL_REJECT in this rotation
  resAt : SMap Nat           -- instant of the last accepted result + 1, by 8 × path + assay
  retAt : SMap Nat           -- instant of the last complete bench + 1, by path
  overSince : SMap Nat       -- entry into overdue + 1, by path
  starved : List Nat
  corr : List (Nat × List Int)   -- corrections in force, by 8 × path + assay
  trim : Option Int          -- REXT deviation of the last good measurement, 0.01 %; none: the trims of the Nalhel test (R215)
  sel : SMap (Option Int)    -- the deviation each element selection of Table 9-1 was made for, by 256 × its row + place
  rextAt : Nat
  storeQ : List (Nat × Nat)  -- writes to the calibration store that are due: key and value
  store : SMap Nat           -- the calibration store, by key
  ageHist : SMap (List Int)  -- last 16 values of Δ of each monitor
  avsAt : Option Nat         -- last step of the code
  avsRefused : Option Nat    -- AVS credit refused since
  paSum : SMap (Int × Nat)   -- sum and number of the day's gains, by path
  paDays : List (Nat × List Int)  -- daily records by path, oldest first
  paFirst : List (Nat × List Int) -- the first 30 records by path
  paAlarmed : List Nat
  tjSum : Int
  tjN : Nat
deriving DecidableEq, Repr

/-! ### DMA and captures (chapter 15) -/

/-- A descriptor in progress (R373): its first bytes read at its start, bytes done, the channel's level of access,
and whether the copy runs descending. -/
structure DmaRun where
  op : Nat
  src : Nat
  dst : Nat
  len : Nat
  done : Nat
  down : Bool
deriving DecidableEq, Repr

/-- A DMA channel: what its objects do not show. A channel with a descriptor to judge has run none and `fetch` true. -/
structure Chan where
  run : Option DmaRun
  fetch : Bool
  req : Req                -- the owner, as it asks (R370)
  stop : Bool              -- stops at the next burst boundary
  bell : Bool              -- a doorbell is held
  retryAt : Option Nat     -- credit refused: next request
  trigAt : Nat             -- the write of CH_TRIG
  fired : Nat              -- timer periods that have passed; for CH_AT, whether it has occurred
  held : Bool              -- its write waits for a 17th uplink vector (R70)
deriving DecidableEq, Repr

/-- A capture buffer: the settings it was armed with, its first instant, what it has taken. -/
structure CapBuf where
  point : Nat
  path : Nat
  car : Nat
  stream : Nat
  len : Nat
  start : Int
  units : Nat
  bytes : Nat
  seq : Nat
  trunc : Bool
deriving DecidableEq, Repr

/-- The engine: channels, the channel served last, the channel whose descriptor holds each weight table. -/
structure Dma where
  ch : SMap Chan
  last : Nat
  cap : SMap CapBuf
  uncorr : List Nat        -- words with an uncorrectable error, by address (R366)
deriving DecidableEq, Repr

/-! ### Housekeeping (chapter 17) -/

/-- A temperature sensor (R410): its last valid code, the learned offset in 10^-9 K, whether it is suspect, and the rounds
counted towards entering or leaving that. -/
structure Sensor where
  code : Option Nat
  off : Int
  suspect : Bool
  outN : Nat
  inN : Nat
deriving DecidableEq, Repr

/-- A sensor that has not been read. -/
def Sensor.init : Sensor := ⟨none, 0, false, 0, 0⟩

/-- The output of an AUX channel: the code it drives (none: high-impedance), and the code it moves to at the end of a
deglitch hold (R418). -/
structure AuxOut where
  out : Option Nat
  hold : Option (Nat × Nat)
deriving DecidableEq, Repr

/-- A high-impedance output. -/
def AuxOut.init : AuxOut := ⟨none, none⟩

/-- The HK domain: what its objects do not show. -/
structure Hk where
  refAt : Option Nat           -- the reference buffer was enabled
  pos : Nat                    -- conversions of the round that are done, 247 between rounds
  roundAt : Option Int         -- the 10 ms multiple of the last round
  bad : Bool                   -- a conversion of the round carried REFNOTREADY
  judged : Bool                -- the round has been judged
  oneshot : Option Nat         -- a queued one-shot, as written
  shot : Bool                  -- it is being converted
  unread : Nat                 -- ring entries between HK_RING_RD and HK_RING_WR (R379)
  codes : SMap Nat             -- valid codes of the last round + 1, by 32 × channel + sub-position
  tx : List Nat                -- those that fell inside a TX symbol of their path
  sens : SMap Sensor
  suspAt : Nat                 -- TS_SUSPECT at the round's start
  tripN : SMap Nat             -- consecutive rounds above TJ_TRIP, by area
  trip : Nat                   -- areas tripped, mask
  areaNext : SMap Nat          -- bands judged, to be applied at the next slot boundary
  railN : SMap Nat
  idsN : SMap Nat
  vmidN : Nat
  vmidBad : Bool
  low : SMap Nat               -- consecutive rounds below RL_WARN, by path
  high : SMap Nat
  icpt : SMap Int              -- forward intercepts, 0.1 dBm, by path
  icptSet : List Nat
  turn : SMap Nat              -- path of each OX that VSWR_CAL takes next
  vswrAt : SMap Nat
  trips : List (Nat × Nat)     -- reflected-power trips: path, instant
  aux : SMap AuxOut
  gbBand : SMap Nat            -- band whose operating code each gate takes (R421)
  gbHold : List (Nat × Nat × Int) -- gates whose output still stands at an older code: path, that code, until when (R418, R421)
  ringOver : Option Nat            -- second in which HK_RING_OVERRUN was raised last
deriving DecidableEq, Repr

/-! ### Hallmark (chapter 18) -/

/-- What a firmware bank holds: FW_VERSION, SVN, DDF_DIGEST, IMAGE_DIGEST, REVOKE (Table 18-1). -/
structure Image where
  version : Nat
  svn : Nat
  ddf : Nat
  measure : Nat
  revoke : Nat
deriving DecidableEq, Repr

/-- A SESSION_OPEN that waits for credit: requester, slot, the challenge it consumed, the instant of the request. -/
structure OpenWait where
  req : Req
  slot : Nat
  chal : Nat
  since : Nat
deriving DecidableEq, Repr

/-- The hallmark engine. -/
structure Sec where
  chal : Option (Nat × Nat × Nat)     -- challenge, the reader's owner word, instant
  rsa : Option (Nat × Nat)            -- SESSION_RESP_RSA: owner word, value
  slh : Option (Nat × Nat)
  fails : List Nat                    -- failures of the last 60 s
  lockout : Option Nat
  slot : Nat                          -- credential slot of the session
  openWait : Option OpenWait
  run : Image
  inact : Option Image
  verify : Option (Nat × Nat)         -- verification in progress or waiting for credit: since, and who asked (1 link, 2 host)
  blow : List Nat                     -- fuses still to blow: 0 the counter's next, 1 + j the revocation of slot j
  blowAt : Option Nat                 -- the blow in progress
  blowWait : Option Nat               -- its credit is refused since
  tries : Nat
  trialAt : Option Nat
  attWait : Option (Req × Nat × Nat)  -- an ATTEST_REQ without credit: requester, body, since
deriving DecidableEq, Repr

/-! ### Start-up and reset (chapter 19) -/

/-- Start-up and reset. -/
structure Start where
  rails : Nat                  -- rails whose monitor reports good, mask in the order of R17
  goodAt : Option Nat          -- the last monitor turned good
  held : Nat                   -- reset held: 0 released, 1 power-on, 2 pin
  low : Option Nat             -- RESET_N low since
  step : Nat                   -- step of Table 19-4 in progress, 1 to 4; 6 until the first symbol; 9 complete; 0 in reset
  ok : Bool                    -- its credit is granted
  tryAt : Nat
  romWait : Bool               -- the ROM waits for a bundle (R437) or is in recovery (R438)
  boot : List Nat              -- flash candidates still to try
  restart : Option Nat         -- control restart in progress, since
  cause : Nat
  alarms : List (Nat × Nat)    -- raised once firmware runs
  mirrors : List (Option (Nat × SMap Nat))  -- flash mirrors: sequence number and content; none: bad CRC
  mirrorAt : Nat
  credAt : Option Nat          -- credentials changed since the last mirror write
  vid : Nat                    -- VID[4:0]
  vidAt : Nat
  vidGoal : Option Nat         -- the stored AVS code that VID rises to
  firstAt : Option Nat         -- the last rail good, until START_TIME is reported
deriving DecidableEq, Repr

/-! ### The whole state -/

/-- The state of the block. -/
structure State where
  /-- Local elapsed time, never running backward (assumption 1). -/
  now : Nat
  /-- The time counter is now + timeBase; only a step of the counter changes timeBase (R291, R301, R303). -/
  timeBase : Int
  /-- The commands that wait, first in, first out. -/
  pending : List Instr
  /-- Object values that differ from their defaults, by 256 × index + subindex: the demand of a staged object,
  the value of every other (R332, R337). -/
  obj : SMap Nat
  /-- Values in force of staged objects and immediate sets, where they differ from their defaults (R337). -/
  act : SMap Nat
  /-- CHILD_ROUTE values that have activated and that their immediate set holds out of force (R343). -/
  held : SMap Nat
  /-- The model's own: how many free values have been drawn (assumption 2). -/
  free : Nat
  /-- The device address map of Table 15-1: bytes that differ from zero. -/
  mem : List Host.Cell
  alarms : List AlarmInst
  log : List LogEntry
  /-- Once-per-slot alarms whose counter has risen in the present slot. -/
  slotAlarms : List (Nat × Nat)
  /-- Indices whose CLEAR waits for its boundary. -/
  clears : List Nat
  stage : Option StageSet
  commits : List PCommit
  /-- Commits that have activated in the last two milliseconds, newest first, with the values they replaced: what was in
  force at an instant that has passed. -/
  past : List PCommit
  locks : SMap LockRec
  /-- The control processor is absent since (R15, R16). -/
  cpAbsent : Option Nat
  cpLost : Bool
  mq : List MReq
  inService : List MReq
  mTags : List MTag
  lhp : Lhp
  swp : Swp
  grants : List Grant
  band : Nat
  power : Power
  ports : SMap Port
  lanes : SMap Lane
  hier : Hier
  time : TimeSt
  dl : Dl
  ul : Ul
  tbl : SMap Tbl
  rf : Rf
  clk : Clk
  dpd : Dpd
  cal : Cal
  dma : Dma
  hk : Hk
  sec : Sec
  start : Start
deriving DecidableEq, Repr

/-! ### The state after reset -/

/-- A free lock. -/
def lockFree : LockRec := ⟨0, none⟩

/-- A port that has just left reset. -/
def Port.init : Port :=
  { since := 0, failedAt := none, credited := 0, trained := 0, failedLanes := 0, aligned := 0, ts1 := 0, ts2 := 0,
    peerRate := 0, peerWidth := 0, peerLanes := 0, agreedRate := 0, agreedWidth := 0, agreedLanes := 0,
    rateTrained := 0, ready := false, deep := false, deepWake := none, wokeAt := none, dropRx := none, dropTx := none,
    lostRx := none, lostTx := none, lastLmg := none, epmTx := 0, epmSeen := false, egress := [], aWait := [],
    txSeq := [], lastSeq := [], replay := [], replayGone := [], pendReplay := [],
    rx := [],
    tx := [],
    keep := [], carried := [], fluWait := [], sentAt := [],
    outCtl := [], flush := [], dUsed := [], dPrev := [], oUsed := 0, oPrev := 0, oRx := 0, oRxPrev := 0, shed := [], busyUntil := 0, lastTx := none,
    proxies := [], proxyQ := [], recordsMs := 0, recordsAt := 0, addrAt := none, mismatchGone := none }

/-- A lane that has just left reset. -/
def Lane.init : Lane :=
  { los := false, locked := false, training := false, errWin := [], clean := none, preset := none, sync := false, inject := 0, looped := 0, settings := 0 }

/-- Empty tables of one direction. -/
def Tbl.init : Tbl :=
  { asm := none, pendVec := 0, held := none, dyn := [], latch := [], torn := [], markPend := 0, bank := 0, fill := none,
    clone := none, swap := none, swapped := false, sched := none, schedDone := false, fresh := [] }

/-- A child port in state NONE. -/
def ChSt.init : ChSt := ⟨0, false, false, none⟩

/-- A channel that has just left reset. -/
def Chan.init : Chan := ⟨none, false, ⟨0, 0, 0, 0, 0, false⟩, false, false, none, 0, 0, false⟩

/-- A buffer that has just left reset. -/
def CapBuf.init : CapBuf := ⟨0, 0, 0, 0, 0, 0, 0, 0, 0, false⟩

/-- A synthesiser that is powered down. -/
def Lo.off : Lo := ⟨⟨2, 0, 0, 2⟩, 0, none, none, false, false, none, false, false, none⟩

/-- A path that has never been adapted. -/
def DpdPath.init : DpdPath := ⟨none, 0, [], none, 0, false, none, none⟩
/-- An idle arbiter; ORXSEL_n is parked. -/
def Orx.init : Orx := ⟨[], 0, 0, none, false, 15, none, 0, 0, false, none⟩
/-- Predistortion state after reset. -/
def Dpd.init : Dpd := ⟨[], 0, [], [], [], []⟩

/-- Calibration state of a device that has never been calibrated. -/
def Cal.init : Cal :=
  { bench := none, last := none, demand := [], displaced := [], parked := [], sets := [], had := [], reconfAt := none, step := 0,
    stepAt := none, spent := 0, prog := [], progAt := [], recipOut := [], made := [], ready := [], alarmed := [], resAt := [], retAt := [],
    overSince := [], starved := [], corr := [], trim := none, sel := [], rextAt := 0, storeQ := [], store := [],
    ageHist := [], avsAt := none, avsRefused := none, paSum := [], paDays := [], paFirst := [],
    paAlarmed := [], tjSum := 0, tjN := 0 }

/-- The downlink with nothing held. -/
def Dl.init : Dl :=
  { syms := [], fastQ := [], running := none, arrivals := 0, out := [], chfOld := [], chfSince := none, supp := [],
    restart := [], gSlot := none, shortRun := false, stopped := false, dozing := [],
    segs := [], cfgs := [], satTo := 0, rsBase := 0 }

/-- The uplink with nothing held. -/
def Ul.init : Ul :=
  { sects := [], own := [], child := [], ch := [], fft := [], sent := [], chfOld := [],
    chfSince := none, supp := [], restart := [], rxGone := [], rxLate := [], moved := [], rsBase := (0, 0) }

/-- Every pin at its level of Table 6-10. -/
def Rf.init : Rf :=
  { levels := [], edges := [], atten := [], held := [], txRun := 0, entered := [], failed := [], denied := false,
    cx := ⟨false, false, false, 0, 0, none, false, none⟩, tone := false, toneKhz := 0, exits := [] }

/-- Every synthesiser and PLL unpowered. -/
def Clk.init : Clk :=
  { lo := [], hand := none, pllAt := [], slewing := false, trim := 0,
    refBlank := false, resume := false, hkStopped := false }

/-- The time block after reset (R291): free-running from 0 s. -/
def TimeSt.init : TimeSt :=
  { i := 0, y := 0, yAcc := 0, ySince := 0, epochAt := 0, yHist := [], good := 0, bad := 0, missed := 0, exch := none,
    lastSync := none, lastSyncSeq := none, seqs := [], sent := [], parentFlags := 0, childLocked := [],
    childDelay := [], delayNs := 0, lastPpsAt := none, lastLabel := none, tod := none, todPrev := none,
    holdover := none, stepped := none, stepAt := none, todMin := none, tpo := [],
    tci := [], alarms := [] }

/-- The engine at rest. -/
def Dma.init : Dma := { ch := [], last := 15, cap := [], uncorr := [] }

/-- The HK domain unpowered; every area in band 2 until the first judgement (assumption 14). -/
def Hk.init : Hk :=
  { refAt := none, pos := 247, roundAt := none, bad := false, judged := false, oneshot := none, shot := false, unread := 0,
    codes := [], tx := [], sens := [], suspAt := 0, tripN := [],
    trip := 0, areaNext := [], railN := [], idsN := [], vmidN := 0,
    vmidBad := false, low := [], high := [], icpt := [], icptSet := [], turn := [],
    vswrAt := [], trips := [], aux := [],
    gbBand := [], gbHold := [], ringOver := none }

/-- No image. -/
def Image.init : Image := ⟨0, 0, 0, 0, 0⟩

/-- The hallmark engine at rest. -/
def Sec.init : Sec :=
  { chal := none, rsa := none, slh := none, fails := [], lockout := none, slot := 0, openWait := none, run := Image.init,
    inact := none, verify := none, blow := [], blowAt := none, blowWait := none, tries := 0, trialAt := none,
    attWait := none }

/-- Power control after reset: every domain but AO is OFF. -/
def Power.init : Power :=
  { hand := none, waking := [], pend := [], stalls := [], wakeStep := 0, dormant := false, signed := [],
    wakeOk := false, wakeTry := 0, settling := false, brief := false, napping := false, keepTime := false, napped := false, fired := none }

/-- Reset is held until every rail is good (R444). -/
def Start.init : Start :=
  { rails := 0, goodAt := none, held := 1, low := none, step := 0, ok := false, tryAt := 0, romWait := false,
    boot := [], restart := none, cause := 1, alarms := [], mirrors := [none, none], mirrorAt := 0,
    credAt := none, vid := 0, vidAt := 0, vidGoal := none, firstAt := none }

/-- The machine right after a power-on reset: rails low, AO alone working, its cost booked (R17, R387), the control
processor not there yet. Objects are at their defaults, but for DOMAIN_STATE of AO. -/
def State.reset : State :=
  { now := 0, timeBase := 0, pending := [], obj := [(0x5022 * 256 + 22, 1)], act := [], held := [], free := 0, mem := [], alarms := [],
    log := [], slotAlarms := [], clears := [], stage := none, commits := [], past := [], locks := [],
    cpAbsent := some 0, cpLost := false, mq := [], inService := [], mTags := [],
    lhp := ⟨[], [], 0, true, false, false⟩, swp := ⟨[], 0, none, none⟩,
    grants := [⟨.dom, 21, [0, 0, 0, 0, 0, 0, 10, 3]⟩], band := 2, power := Power.init,
    ports := [], lanes := [], hier := ⟨none, none, none, []⟩, time := TimeSt.init,
    dl := Dl.init, ul := Ul.init, tbl := [], rf := Rf.init, clk := Clk.init, dpd := Dpd.init,
    cal := Cal.init, dma := Dma.init, hk := Hk.init, sec := Sec.init, start := Start.init }

end Sys2Proof.Machine
end

