-- ==== Sys2Proof/Machine/Ops.lean ====
section
/-!
DEFINITION. The named operations every meaning is built from: time, objects, memory, alarms, the ledger, locks,
free values, and queueing a packet for egress.
-/

namespace Sys2Proof.Machine

/-! ### The dictionary's rows -/

/-- The index whose rows an index repeats (R106, R131, R187, R269, R313, R330 and the object tables). -/
def baseIndex (i : Nat) : Nat :=
  if 0x3001 ≤ i ∧ i ≤ 0x3003 then 0x3000
  else if 0x3005 ≤ i ∧ i ≤ 0x3007 then 0x3004
  else if 0x3011 ≤ i ∧ i ≤ 0x3013 then 0x3010
  else if 0x3015 ≤ i ∧ i ≤ 0x3017 then 0x3014
  else if i = 0x3024 then 0x3020
  else if i = 0x3037 then 0x3036
  else if i = 0x3101 then 0x3100
  else if i = 0x3201 then 0x3200
  else if 0x2401 ≤ i ∧ i ≤ 0x2403 then 0x2400
  else if i = 0x6001 ∨ i = 0x6002 then 0x6000
  else if i = 0x6011 ∨ i = 0x6012 then 0x6010
  else if i = 0x6201 ∨ i = 0x6202 then 0x6200
  else if i = 0x1102 then 0x1101
  else if 0x1231 ≤ i ∧ i ≤ 0x1233 then 0x1230
  else if i = 0x1239 then 0x1238
  else if 0x9002 ≤ i ∧ i ≤ 0x9010 then 0x9001
  else if 0x9021 ≤ i ∧ i ≤ 0x9023 then 0x9020
  else if i = 0x8011 then 0x8010
  else if 0x4011 ≤ i ∧ i ≤ 0x4015 then 0x4010
  else i

/-- The demand index of an actual index (R163); any other index is its own. -/
def demandIndex (i : Nat) : Nat :=
  if i ∈ [0x2100, 0x2101, 0x2102, 0x2103, 0x2104, 0x2105, 0x2108, 0x2109, 0x2120, 0x2140, 0x2150] then i - 0x100
  else i

/-- Whether a demand index has an actual partner (R163, R337). -/
def hasActual (i : Nat) : Bool :=
  decide (i ∈ [0x2000, 0x2001, 0x2002, 0x2003, 0x2004, 0x2005, 0x2008, 0x2009, 0x2020, 0x2040, 0x2050])

/-- The dictionary's entry of an index. -/
def dictIndex (i : Nat) : Option ObjIndex :=
  let b := baseIndex (demandIndex i)
  (dictPage (b / 256)).find? (fun e => e.index == b)

/-- The row of an object. -/
def dictRow (i sub : Nat) : Option ObjRow :=
  match dictIndex i with
  | some e => e.rows.find? (fun r => decide (r.lo ≤ sub) && decide (sub ≤ r.hi))
  | none => none

/-- The key of an object: 256 × index + subindex. -/
def key (i sub : Nat) : Nat := i * 256 + sub

/-- The default of a row at an index and subindex. -/
def rowDflt (r : ObjRow) (i sub : Nat) : Nat :=
  match r.dflt with
  | .c v => v
  | .list l => l.getD (sub - r.lo) 0
  | .portU => if i = 0x6000 then 1 else 0
  | .rank => 63 - (sub - 1)

/-- The default of an object (R332, R333, the object tables). -/
def dflt (k : Nat) : Nat :=
  match dictRow (k / 256) (k % 256) with
  | some r => rowDflt r (k / 256) (k % 256)
  | none => 0

/-- The width of an object in bytes. -/
def width (k : Nat) : Nat :=
  match dictRow (k / 256) (k % 256) with
  | some r => r.ty.len
  | none => 0

/-! ### Objects -/

/-- The value of an object, or the demand of a staged one. -/
def State.o (s : State) (i sub : Nat) : Nat := smGet (dflt (key i sub)) s.obj (key i sub)

/-- The value in force of a staged object. -/
def State.a (s : State) (i sub : Nat) : Nat := smGet (dflt (key i sub)) s.act (key i sub)

/-- Sets an object's value, truncated to its width; counters wrap (R50 and the counters of each chapter). -/
def State.seto (s : State) (i sub v : Nat) : State :=
  { s with obj := smSet (dflt (key i sub)) s.obj (key i sub) (v % 256 ^ width (key i sub)) }

/-- Sets the value in force of a staged object. -/
def State.seta (s : State) (i sub v : Nat) : State :=
  { s with act := smSet (dflt (key i sub)) s.act (key i sub) (v % 256 ^ width (key i sub)) }

/-- Sets demand and value in force together. -/
def State.setBoth (s : State) (i sub v : Nat) : State := (s.seto i sub v).seta i sub v

/-- Counts: adds to a counter, which wraps at its width. -/
def State.bump (s : State) (i sub n : Nat) : State := if n = 0 then s else s.seto i sub (s.o i sub + n)

/-- A signed object's value. -/
def State.oi (s : State) (i sub : Nat) : Int := toInt (8 * width (key i sub)) (s.o i sub)

/-- A signed object's value in force. -/
def State.ai (s : State) (i sub : Nat) : Int := toInt (8 * width (key i sub)) (s.a i sub)

/-- Sets a signed object. -/
def State.setoi (s : State) (i sub : Nat) (v : Int) : State := s.seto i sub (ofInt (8 * width (key i sub)) v)

/-- Sets or clears one bit of an object. -/
def State.setBit (s : State) (i sub b : Nat) (v : Bool) : State := s.seto i sub (withBit (s.o i sub) b v)

/-- The value staged for a key in a list of staged values. -/
def smFind : SMap Nat → Nat → Option Nat
  | [], _ => none
  | (k, v) :: t, i => if k = i then some v else smFind t i

/-- The value an object has in force at a counter instant: the present one, back past every commit that activated after
the instant, and with every accepted commit that activates at or before it applied (R339, R340, R80, R489). -/
def State.at_ (s : State) (T : Int) (i sub : Nat) : Nat :=
  s.commits.foldl (fun v c => if c.at_ ≤ T then (smFind c.vals (key i sub)).getD v else v)
    (s.past.foldl (fun v c => if T < c.at_ then (smFind c.vals (key i sub)).getD v else v) (s.a i sub))

/-- Zeroes the counters of an index in the subindex range lo to lo + n - 1. -/
def State.zeroRange (s : State) (i lo : Nat) : Nat → State
  | 0 => s
  | n + 1 => (s.zeroRange i lo n).seto i (lo + n) 0

/-! ### Time (chapter 12, R291, R305) -/

/-- The TIME cycle of an instant (Table 7-1: 500 MHz). -/
def timeCycle (T : Int) : Int := T / ((2 * tNs : Nat) : Int)

/-- The time counter, in ticks since its epoch. -/
def State.time_ (s : State) : Int := (s.now : Int) + s.timeBase

/-- TIME96 of an instant of the counter: seconds, nanoseconds, fraction (Table 14-1). -/
def time96 (T : Int) : Nat :=
  let n := T.toNat
  ((n / tSec) % 2 ^ 48) * 2 ^ 48 + ((n % tSec) / tNs) * 2 ^ 16 + (n % tNs) / tFrac

/-- The counter instant a TIME96 value names. -/
def ofTime96 (v : Nat) : Int :=
  (((v / 2 ^ 48) * tSec + ((v / 2 ^ 16) % 2 ^ 32) * tNs + (v % 2 ^ 16) * tFrac : Nat) : Int)

/-- The GPS epoch in PTP time (R305). -/
def gpsEpoch : Int := 315964819 * (tSec : Int)

/-- Time since the start of frame count 0 (R305). -/
def State.air (s : State) (T : Int) : Int := T - gpsEpoch - (s.a 0x1201 1 : Int) * (tNs : Int)

/-- Duration of a slot at a numerology (0: 15 kHz, 1: 30 kHz). -/
def slotDur (scs : Nat) : Nat := if scs = 0 then tMs else tMs / 2

/-- Slots in a frame. -/
def slotsPer (scs : Nat) : Nat := if scs = 0 then 10 else 20

/-- The absolute number of the slot that holds an instant. -/
def State.slotOf (s : State) (scs : Nat) (T : Int) : Int := s.air T / (slotDur scs : Int)

/-- The instant at which an absolute slot starts at the reference plane. -/
def State.slotStart (s : State) (scs : Nat) (n : Int) : Int :=
  n * (slotDur scs : Int) + gpsEpoch + (s.a 0x1201 1 : Int) * (tNs : Int)

/-- Samples at 122.88 MS/s of a symbol, cyclic prefix included (R26, Table 4-6). -/
def symSamples (scs k : Nat) : Nat :=
  if scs = 0 then (if k = 0 ∨ k = 7 then 8832 else 8768) else (if k = 0 then 4448 else 4384)

/-- Samples from the start of the slot to the start of a symbol. -/
def symOffset (scs : Nat) : Nat → Nat
  | 0 => 0
  | k + 1 => symOffset scs k + symSamples scs k

/-- T_air of a symbol (R26). -/
def State.tAir (s : State) (scs : Nat) (n : Int) (k : Nat) : Int :=
  s.slotStart scs n + (symOffset scs k * tSample : Nat)

/-- T_air_end of a symbol (R26). -/
def State.tAirEnd (s : State) (scs : Nat) (n : Int) (k : Nat) : Int :=
  s.slotStart scs n + (symOffset scs (k + 1) * tSample : Nat)

/-- SFN of an absolute slot. -/
def sfnOf (scs : Nat) (n : Int) : Nat := ((n / (slotsPer scs : Int)) % 1024).toNat

/-- Slot number within its frame. -/
def slotInFrame (scs : Nat) (n : Int) : Nat := (n % (slotsPer scs : Int)).toNat

/-- The symbol of a slot that holds an offset of so many ticks from the slot's start. -/
def symAt (scs off : Nat) : Nat :=
  ((List.range 14).filter (fun k => decide (symOffset scs k * tSample ≤ off))).length - 1

/-- A valid air-time triple (R6). -/
def tripleOk (scs sfn slot sym : Nat) : Bool := decide (sfn < 1024) && decide (slot < slotsPer scs) && decide (sym < 14)

/-- The absolute slot of a valid pair (SFN, slot) nearest to an instant: the pair repeats every 10.24 s. -/
def State.nearSlot (s : State) (scs : Nat) (T : Int) (sfn slot : Nat) : Int :=
  let cyc : Int := 1024 * (slotsPer scs : Int)
  let want : Int := (sfn : Int) * (slotsPer scs : Int) + (slot : Int)
  let cur := s.slotOf scs T
  let base := cur - cur % cyc + want
  if base - cur > cyc / 2 then base - cyc else if cur - base > cyc / 2 then base + cyc else base

/-- The first absolute slot of a pair (SFN, slot) whose symbol starts at or after an instant. -/
def State.nextSlot (s : State) (scs : Nat) (T : Int) (sfn slot sym : Nat) : Int :=
  let cyc : Int := 1024 * (slotsPer scs : Int)
  let want : Int := (sfn : Int) * (slotsPer scs : Int) + (slot : Int)
  let cur := s.slotOf scs T
  let base := cur - cur % cyc + want
  if T ≤ s.tAir scs (base - cyc) sym then base - cyc else if T ≤ s.tAir scs base sym then base else base + cyc

/-- Time-locked in the sense of R25, R28 and R125: LOCKED or HOLDOVER (R301). -/
def State.timeLocked (s : State) : Bool := decide (s.o 0x1200 0x0B = 2 ∨ s.o 0x1200 0x0B = 3)

/-! ### Free values (assumption 2) -/

/-- Draws a free value of w bits: nothing constrains it. -/
def State.draw (s : State) (w : Nat) : Nat × State :=
  (Config.freeValue s.free % 2 ^ w, { s with free := s.free + 1 })

/-! ### Memory (Table 15-1, R3) -/

/-- The canonical form of memory: addresses strictly rising, and no entry equal to 0, which an unlisted address reads as. -/
def Memory.wf (m : List Host.Cell) : Bool := smWf (0 : BitVec 8) m

/-- The memory's canonical form; a memory that has it stays as it is. -/
def Memory.canon (m : List Host.Cell) : List Host.Cell :=
  m.foldr (fun c r => smSet (0 : BitVec 8) r c.1 c.2) []

/-- One byte of the device address map. -/
def State.rd8 (s : State) (a : Nat) : Nat := (smGet (0 : BitVec 8) s.mem a).toNat

/-- Writes one byte; a word with an uncorrectable error is whole again once it is written (Table 15-2). -/
def State.wr8 (s : State) (a v : Nat) : State :=
  { s with mem := smSet (0 : BitVec 8) s.mem a (BitVec.ofNat 8 v),
           dma := { s.dma with uncorr := s.dma.uncorr.filter (fun x => decide (x ≠ a - a % 4)) } }

/-- A word with an uncorrectable error lies in a range (R366). -/
def State.eccHit (s : State) (a n : Nat) : Bool := s.dma.uncorr.any (fun x => decide (a ≤ x + 3) && decide (x < a + n))

/-- The bytes of a range, from the lowest address. -/
def State.rdBytes (s : State) (a : Nat) : Nat → List Nat
  | 0 => []
  | n + 1 => s.rd8 a :: s.rdBytes (a + 1) n

/-- Writes bytes from an address upward. -/
def State.wrBytes (s : State) (a : Nat) : List Nat → State
  | [] => s
  | b :: l => (s.wr8 a b).wrBytes (a + 1) l

/-- A 32-bit word, least significant byte at the lowest address (R3). -/
def State.rd32 (s : State) (a : Nat) : Nat := ofBytesLE (s.rdBytes a 4)

/-- Writes a 32-bit word. -/
def State.wr32 (s : State) (a v : Nat) : State := s.wrBytes a (bytesLE 4 v)

/-! ### Locks (R344) -/

/-- The n-th lock. -/
def State.lock (s : State) (n : Nat) : LockRec := smGet lockFree s.locks n

/-- Sets the n-th lock. -/
def State.setLock (s : State) (n : Nat) (l : LockRec) : State := { s with locks := amod 28 lockFree s.locks n (fun _ => l) }

/-- The lock owner word of a requester (Tables 14-6 and 14-22). -/
def reqWord (r : Req) : Nat := r.kind * 2 ^ 30 + r.id % 2 ^ 18

/-- Owner words of the hardware blocks of Table 14-22. -/
def ownCal := 1
def ownVswr := 2
def ownTxSeq := 3
def ownHk := 4

/-! ### The ledger (chapter 16, R17 to R19, R383 to R387) -/

/-- The eight rails in the order of R17, all at zero. -/
def noCost : List Nat := [0, 0, 0, 0, 0, 0, 0, 0]

/-- A cost on one rail. -/
def costOn (rail n : Nat) : List Nat := noCost.set rail n

/-- Sum of two costs. -/
def costAdd (a b : List Nat) : List Nat := List.zipWith (· + ·) a b

/-- A cost taken n times. -/
def costMul (n : Nat) (a : List Nat) : List Nat := a.map (· * n)

/-- Rails by name. -/
def rCore := 0
def rConv := 1
def rRf := 2
def r18 := 3
def rLane := 4
def rLaneA := 5
def rIo := 6
def rAon := 7

/-- BASE(r): the sum of the base costs of every grant in force (R383). -/
def State.base (s : State) (r : Nat) : Nat := listSum (s.grants.map (fun g => g.cost.getD r 0))

/-- BAND(r) of Table 16-1, per mille. -/
def bandFactor (r band : Nat) : Nat :=
  if r = 0 then [970, 985, 1000, 1005, 1010, 1020].getD band 1000
  else if r < 6 then [980, 990, 1000, 1000, 1000, 1000].getD band 1000
  else 1000

/-- F(r) = BAND(r) × A(r) (R383), with a given AVS code. -/
def State.factorAt (s : State) (code r : Nat) : Nat :=
  bandFactor r s.band * (if r = 0 then 1000 + 5 * code else 1000)

/-- F(r) in force. -/
def State.factor (s : State) (r : Nat) : Nat := s.factorAt (s.o 0x4800 2) r

/-- The booking of a base sum at a factor. -/
def bookedOf (base f : Nat) : Nat := ceilDiv (base * f) 1000000

/-- BOOKED(r) (R383). -/
def State.booked (s : State) (r : Nat) : Nat := bookedOf (s.base r) (s.factor r)

/-- LEDGER_CAP(r). -/
def State.cap (s : State) (r : Nat) : Nat := s.o 0x5000 (r + 1)

/-- The cost a holder has in force. -/
def State.costOf (s : State) (k : GKind) (n : Nat) : List Nat :=
  (s.grants.filter (fun g => decide (g.kind = k ∧ g.n = n))).foldl (fun c g => costAdd c g.cost) noCost

/-- Whether a holder has a grant. -/
def State.granted (s : State) (k : GKind) (n : Nat) : Bool := s.grants.any (fun g => decide (g.kind = k ∧ g.n = n))

/-- Releases a holder's grant (R383: a release subtracts its base cost exactly); nothing of it waits for an exit sequence. -/
def State.release (s : State) (k : GKind) (n : Nat) : State :=
  { s with
    grants := s.grants.filter (fun g => decide (¬ (g.kind = k ∧ g.n = n)))
    rf := { s.rf with exits := s.rf.exits.filter (fun x => decide (¬ (x.2.kind = k ∧ x.2.n = n))) } }

/-- Whether a change from an old to a new cost fits on every rail it raises (R383). -/
def State.fits (s : State) (old new : List Nat) : Bool :=
  (List.range 8).all (fun r => decide (new.getD r 0 ≤ old.getD r 0) ||
    decide (bookedOf (s.base r - old.getD r 0 + new.getD r 0) (s.factor r) ≤ s.cap r))

/-- Books a cost for a holder in place of what it holds, without judgement (reserved credit, R384). -/
def State.book (s : State) (k : GKind) (n : Nat) (cost : List Nat) : State :=
  let s1 := s.release k n
  if cost = noCost then s1 else { s1 with grants := s1.grants ++ [⟨k, n, cost⟩] }

/-- A ledger request (R18): a holder asks for a cost in place of what it holds, for a domain. It is granted whole,
or refused whole and counted. -/
def State.ask (s : State) (k : GKind) (n : Nat) (cost : List Nat) (dom : Nat) : Bool × State :=
  if s.fits (s.costOf k n) cost then (true, s.book k n cost)
  else (false, s.bump 0x5005 (dom + 1) 1)

/-- Exit sequences that have completed give back their credit (R160). -/
def State.exitsDone (s : State) : State :=
  (s.rf.exits.filter (fun x => decide (x.1 ≤ s.now))).foldl (fun s x => s.book x.2.kind x.2.n x.2.cost) s

/-! ### Ports and egress -/

/-- Port p (0 U, 1 D1, 2 D2). -/
def State.port (s : State) (p : Nat) : Port := smGet Port.init s.ports p

/-- A port put through a function. -/
def State.modPort (s : State) (p : Nat) (f : Port → Port) : State := { s with ports := amod 3 Port.init s.ports p f }

/-- Lane x of port p. -/
def State.lane (s : State) (p x : Nat) : Lane := smGet Lane.init s.lanes (8 * p + x)

/-- A lane put through a function. -/
def State.modLane (s : State) (p x : Nat) (f : Lane → Lane) : State := { s with lanes := amod 24 Lane.init s.lanes (8 * p + x) f }

/-- PORT_STATE of a port (Table 10-2; 6 is ACTIVE). -/
def State.portState (s : State) (p : Nat) : Nat := s.o (0x6000 + p) 5

/-- A port in ACTIVE. -/
def State.active (s : State) (p : Nat) : Bool := decide (s.portState p = 6)

/-- Queues a packet for egress on a port; a port that is not ACTIVE sends nothing. -/
def State.send (s : State) (p : Nat) (pk : Pkt) (own : Bool) (close : Option Int) : State :=
  if s.active p then s.modPort p (fun q => { q with egress := q.egress ++ [⟨pk, own, close, s.now, none⟩] }) else s

/-- Line rates in Mb/s by code (R240). -/
def rateMbps (code : Nat) : Nat := [6250, 10000, 12500, 16000, 20000].getD code 6250

/-- One column, in ticks: ten bits at the line rate (R241, R242). -/
def colTicks (code : Nat) : Nat := 10000000 * tPs / rateMbps code

/-- Lanes in use in the transmit and in the receive direction (Table 10-19). -/
def State.txWidth (s : State) (p : Nat) : Nat := s.o (0x6000 + p) 7 % 16
def State.rxWidth (s : State) (p : Nat) : Nat := s.o (0x6000 + p) 7 / 16

/-- Columns of a control sequence at a width (R242, Table 10-1): EPM and LMG are replicated on every lane, FC and FLU striped; ABT
stands in place of EOP. -/
def ctlCols (w : Nat) (l : List Nat) : Nat :=
  match l.head? with
  | some 0xFE => 0
  | some 0xFB => l.length
  | some 0xF7 => l.length
  | _ => ceilDiv l.length (max w 1)

/-- Sends a control sequence on a port (Table 10-1): the code of its K symbol, then its bytes. On an ACTIVE port its columns
are interposed: the packet in progress ends, and the next one starts, that much later (R242, Table 10-18). -/
def State.sendCtl (s : State) (p : Nat) (l : List Nat) : State :=
  s.modPort p (fun q => { q with
    outCtl := q.outCtl ++ [l]
    busyUntil := if s.active p
      then max q.busyUntil s.time_ + ((ctlCols (s.txWidth p) l * colTicks (s.o (0x6000 + p) 6) : Nat) : Int) else q.busyUntil })

/-- The node's own address. -/
def State.addr (s : State) : Nat := s.o 0x1100 2

/-- The node's role in force (0 worker, 1 manager, 2 root). -/
def State.role (s : State) : Nat := s.a 0x1100 1

/-- A packet of this node. -/
def State.mkPkt (s : State) (dest cls prio stream : Nat) (payload : List Nat) : Pkt :=
  ⟨dest, cls, prio, s.addr, stream, 0, false, false, false, false, false, payload⟩

/-! ### Alarms and the event log (R348 to R350, R324) -/

/-- Appends an entry to the event log, whose last 1,024 entries are held (R350). -/
def State.logAdd (s : State) (e : LogEntry) : State :=
  let s1 := s.bump 0xA000 3 1
  let s2 := { s1 with log := (s1.log ++ [e]).drop (s1.log.length + 1 - 1024) }
  if (s2.o 0xA000 3 + 2 ^ 32 - s2.o 0xA000 4) % 2 ^ 32 > 1024 then (s2.bump 0xA000 4 1).bump 0xA000 6 1 else s2

/-- The record of a raise or a clear: into the log, and onto class A unless its group is masked (R349, R324,
R325: a root sends records on port U only while the peer there reports role 3). -/
def State.record (s : State) (code detail kind : Nat) : State :=
  let T := s.time_.toNat
  let s1 := s.logAdd ⟨code, kind, s.addr, detail, (T / tSec) % 2 ^ 32, (T % tSec) / tNs⟩
  if bit (s.o 0xA000 1) (code / 1024) then s1
  else if s.role = 2 ∧ s.o 0x6000 9 ≠ 3 then s1
  else s1.send 0 (s1.mkPkt Config.classADest Cls.a 0 code
    (bytesBE 4 (kind * 2 ^ 30 + s.addr) ++ bytesBE 4 detail ++ bytesBE 4 (T / tSec) ++ bytesBE 4 ((T % tSec) / tNs)))
    true none

/-- Raises an alarm instance; a repeated raise writes a record too and restarts ALARM_HOLD (R349). -/
def State.raise (s : State) (code detail : Nat) : State :=
  let s1 := { s with alarms := s.alarms.filter (fun (a : AlarmInst) => decide (¬ (a.code = code ∧ a.detail = detail)))
                      ++ [AlarmInst.mk code detail s.now] }
  s1.record code detail 1

/-- Whether an alarm instance is raised. -/
def State.raised (s : State) (code detail : Nat) : Bool :=
  s.alarms.any (fun a => decide (a.code = code ∧ a.detail = detail))

/-- Clears an alarm instance, with a record, if it is raised (R349). -/
def State.clearAl (s : State) (code detail : Nat) : State :=
  if s.raised code detail then
    { s with alarms := s.alarms.filter (fun a => decide (¬ (a.code = code ∧ a.detail = detail))) }.record code detail 0
  else s

/-- Raises an alarm while a condition holds and clears it when the condition ends. -/
def State.alarmIf (s : State) (code detail : Nat) (b : Bool) : State :=
  if b then (if s.raised code detail then s else s.raise code detail) else s.clearAl code detail

/-- Marks a once-per-slot alarm: it is raised at the next slot boundary (SLOT_BOUNDARY of the table). -/
def State.slotAlarm (s : State) (code detail : Nat) : State :=
  if (code, detail) ∈ s.slotAlarms then s else { s with slotAlarms := s.slotAlarms ++ [(code, detail)] }

/-- OWN_SUMMARY: bit g while an own alarm of group g is raised and the group is not masked (R325, R349). -/
def State.ownSummary (s : State) : Nat :=
  s.alarms.foldl (fun m a => if bit (s.o 0xA000 1) (a.code / 1024) then m else withBit m (a.code / 1024) true) 0

/-- SUMMARY: OWN_SUMMARY and the summaries of the ACTIVE child ports (R325). -/
def State.summary (s : State) : Nat :=
  s.ownSummary ||| (if s.active 1 then s.o 0x1101 3 else 0) ||| (if s.active 2 then s.o 0x1102 3 else 0)

/-! ### Answers (R254, R336, Table 14-10) -/

/-- Word 0 of a class M prefix (Table 10-12). -/
def mWord0 (op status count : Nat) : Nat := op * 2 ^ 28 + status * 2 ^ 16 + count

/-- Zero bytes up to a multiple of four. -/
def pad4 (l : List Nat) : List Nat := l ++ List.replicate ((4 - l.length % 4) % 4) 0

/-- An LHP frame (Table 14-10), its CRC included. -/
def lhpFrame (typ prio tag node : Nat) (payload : List Nat) : List Nat :=
  let h := [0xA5, typ * 16 + prio, tag] ++ bytesBE 3 node ++ bytesBE 2 payload.length ++ payload
  h ++ bytesBE 4 (crc32 h)

/-- Bytes in the response queue of the LHP. -/
def State.lhpOutBytes (s : State) : Nat := listSum (s.lhp.out.map List.length)

/-- Puts a frame into the response queue; HAVAIL follows (R355). -/
def State.lhpPush (s : State) (f : List Nat) : State :=
  { s with lhp := { s.lhp with out := s.lhp.out ++ [f], havail := true } }

/-- Answers a request: the prefix repeats OPCODE and word 1, carries the status and the bytes (R336). SPEC marks a
response that carries part of a capture tagged SPEC (R43). A firmware task or hardware block needs no packet; a
broadcast is not answered (R322). -/
def State.answer (s : State) (r : Req) (op w1 status : Nat) (data : List Nat) (spec : Bool := false) : State :=
  let pay := pad4 (bytesBE 4 (mWord0 op status data.length) ++ bytesBE 4 w1 ++ data)
  let s1 := { s with inService := s.inService.filter (fun m => decide (m.req ≠ r)) }
  if r.bcast then s1
  else if r.kind = 3 then s1.lhpPush (lhpFrame 2 r.prio r.tag s.addr pay)
  else if r.kind = 2 then
    s1.send r.port ⟨r.id, Cls.m, r.prio, s.addr, r.tag, 0, false, spec, true, false, false, pay⟩ true none
  else s1

/-! ### Running an event -/

/-- The state at the instant of an event: local time has moved on to it (never back), and exit sequences that have completed
meanwhile have given back their credit. -/
def State.upTo (s : State) (t : Tick) : State := ({ s with now := max s.now t }).exitsDone

/-- What a command leaves after its effect `w`: neither the queue of commands nor local time is the effect's to change, and
the memory is held in its canonical form. -/
def State.done (s : State) (t : Tick) (w : State) : State :=
  { w with now := max s.now t, pending := s.pending, mem := Memory.canon w.mem }

/-- Runs an event at its instant. -/
def State.run (s : State) (t : Tick) (f : State → State) : Host.Outcome State Fault Refusal :=
  .next (s.done t (f (s.upTo t)))

end Sys2Proof.Machine
end

