-- ==== Sys2Proof/Machine/Operands.lean ====
section
/-!
DEFINITION. The forms of the words and payloads commands carry: air-time words, and the payloads of classes C, D,
U and M and their records.
-/

namespace Sys2Proof.Machine

/-- An air-time word: SFN [31:22], SLOT [21:17], SYMBOL [16:13] (Tables 4-2, 10-23, 14-2). -/
structure AirWord where
  sfn : Nat
  slot : Nat
  sym : Nat
deriving DecidableEq, Repr

/-- The air-time fields of a word. -/
def airWord (w : Nat) : AirWord := ⟨bits w 22 10, bits w 17 5, bits w 13 4⟩

/-- A word with the air-time fields of a symbol in a numerology. -/
def airFields (scs : Nat) (n : Int) (k : Nat) : Nat :=
  sfnOf scs n * 2 ^ 22 + slotInFrame scs n * 2 ^ 17 + k * 2 ^ 13

/-- The i-th 32-bit word of a payload, most significant byte first. -/
def payWord (l : List Nat) (i : Nat) : Nat := ofBytesBE ((l.drop (4 * i)).take 4)

/-! ### Records (R79, R117) -/

/-- Bits of one record at mantissa width M. -/
def recBits (m : Nat) : Nat := 24 * m + 4

/-- Bytes of n packed records, padded to whole words. -/
def recBytes (n m : Nat) : Nat := 4 * ceilDiv (n * recBits m) 32

/-- The field of w bits that starts i bits after the most significant of total bits. -/
def field (v total i w : Nat) : Nat := (v >>> (total - i - w)) % 2 ^ w

/-- The 24 mantissas of the record that starts at bit i. -/
def recMants (v total m i : Nat) : List Int :=
  (List.range 24).map (fun j => toInt m (field v total (i + 4 + j * m) m))

/-- n records packed in bytes: exponent and mantissas of each. -/
def unpackRecs (l : List Nat) (m n : Nat) : List (Nat × List Int) :=
  let v := ofBytesBE l
  let total := 8 * l.length
  (List.range n).map (fun j => (field v total (j * recBits m) 4, recMants v total m (j * recBits m)))

/-- Appends a field of w bits to a bit string read as a number. -/
def pushBits (v w x : Nat) : Nat := v * 2 ^ w + x % 2 ^ w

/-- Packs records, padded with zero bits to whole words (R79). -/
def packRecs (rs : List (Nat × List Int)) (m : Nat) : List Nat :=
  let v := rs.foldl (fun a r => r.2.foldl (fun b q => pushBits b m (ofInt m q)) (pushBits a 4 r.1)) 0
  let nb := rs.length * recBits m
  let bytes := recBytes rs.length m
  bytesBE bytes (v * 2 ^ (8 * bytes - nb))

/-! ### Class D (Tables 4-2, 4-3) -/

/-- Prefix of a class D payload. -/
structure DPrefix where
  air : AirWord
  mw : Nat
  first : Nat
  count : Nat
deriving DecidableEq, Repr

/-- The prefix of a class D payload. -/
def dPrefix (l : List Nat) : DPrefix :=
  let w := payWord l 0
  ⟨airWord w, bits w 9 4, bits w 0 9, bits (payWord l 1) 23 9⟩

/-- Length of a class D payload (R79). -/
def dLen (p : DPrefix) : Nat := 8 + recBytes p.count (p.mw + 8)

/-- The records of a class D payload. -/
def dRecs (stream : Nat) (l : List Nat) (p : DPrefix) : List Rec :=
  let rs := unpackRecs (l.drop 8) (p.mw + 8) p.count
  (List.range p.count).map (fun j =>
    let r := rs.getD j (0, [])
    ⟨stream, p.first + j, p.mw + 8, r.1, r.2⟩)

/-! ### Class C (Tables 10-23 to 10-25) -/

/-- Prefix of a class C payload. -/
structure CPrefix where
  sfn : Nat
  slot : Nat
  symStart : Nat
  symEnd : Nat
  dir : Nat
  nEnt : Nat
  nVec : Nat
deriving DecidableEq, Repr

/-- The prefix of a class C payload. -/
def cPrefix (l : List Nat) : CPrefix :=
  let w := payWord l 0
  ⟨bits w 22 10, bits w 17 5, bits w 13 4, bits w 9 4, bits w 8 1, bits w 0 8, bits (payWord l 1) 24 8⟩

/-- Length of a class C payload (R488). -/
def cLen (p : CPrefix) : Nat := 8 + 4 * ceilDiv p.nEnt 2 + 388 * p.nVec

/-- Entry references of a class C payload, in order. -/
def cEnts (l : List Nat) (p : CPrefix) : List Nat :=
  (List.range p.nEnt).map (fun j => ofBytesBE ((l.drop (8 + 2 * j)).take 2))

/-- In-packet vectors: index and 96 weight words. -/
def cVecs (l : List Nat) (p : CPrefix) : List (Nat × List Nat) :=
  let o := 8 + 4 * ceilDiv p.nEnt 2
  (List.range p.nVec).map (fun j =>
    (bits (ofBytesBE ((l.drop (o + 388 * j)).take 4)) 0 11, wordsBE ((l.drop (o + 388 * j + 4)).take 384)))

/-! ### Class U (Tables 5-2 to 5-4) -/

/-- Prefix of a class U payload. -/
structure UPrefix where
  air : AirWord
  mw : Nat
  first : Nat
  count : Nat
  part : Nat
  tally : Nat
  scale : Nat
  height : Nat
  nodes : Nat
deriving DecidableEq, Repr

/-- The prefix of a class U payload; TALLY_FULL stands for 2^20 (Table 5-3). -/
def uPrefix (l : List Nat) : UPrefix :=
  let w0 := payWord l 0
  let w1 := payWord l 1
  let w2 := payWord l 2
  ⟨airWord w0, bits w0 9 4, bits w0 0 9, bits w1 23 9, bits w1 22 1,
   if bit w1 20 then 2 ^ 20 else bits w1 0 20, bits w2 27 5, bits w2 21 6, bits w2 0 18⟩

/-- Length of a class U payload (R117). -/
def uLen (p : UPrefix) : Nat := 12 + recBytes p.count (p.mw + 10)

/-- Word 1 of a class U payload. -/
def uWord1 (count part tally : Nat) : Nat :=
  count * 2 ^ 23 + part * 2 ^ 22 + (if tally = 2 ^ 20 then 2 ^ 20 else tally % 2 ^ 20)

/-- Word 2 of a class U payload. -/
def uWord2 (scale height nodes : Nat) : Nat := scale * 2 ^ 27 + height * 2 ^ 21 + nodes % 2 ^ 18

/-! ### Class M (Tables 10-12, 10-13) -/

/-- A management request read from a class M payload. -/
def mReqOf (r : Req) (now : Nat) (one : Bool) (l : List Nat) : MReq :=
  let w0 := payWord l 0
  ⟨r, bits w0 28 4, payWord l 1, bits w0 0 14, (l.drop 8).take (bits w0 0 14), now, one⟩

/-! ### Packet header (Tables 10-5 to 10-8) -/

/-- The first 14 bytes of a header. -/
def headBytes (p : Pkt) : List Nat :=
  bytesBE 4 (p.dest * 2 ^ 14 + p.cls * 2 ^ 11 + p.prio * 2 ^ 9) ++
  bytesBE 4 (p.src * 2 ^ 14 + p.payload.length / 4) ++
  bytesBE 4 (p.stream * 2 ^ 16 + p.seq) ++
  bytesBE 2 (b2n p.prov * 2 ^ 15 + b2n p.spec * 2 ^ 14 + b2n p.resp * 2 ^ 13 + b2n p.replay * 2 ^ 12 + b2n p.first * 2 ^ 11)

/-- A packet as it is sent between SOP and EOP: header, payload, CRC (R246, R247). -/
def wireBytes (p : Pkt) : List Nat :=
  let h := headBytes p
  let b := h ++ bytesBE 2 (crc16 h) ++ p.payload
  b ++ bytesBE 4 (crc32 b)

/-- The packet whose header and payload stand in a byte string. -/
def pktOf (l : List Nat) : Pkt :=
  let w0 := payWord l 0
  let w1 := payWord l 1
  let w2 := payWord l 2
  let w3 := payWord l 3
  ⟨bits w0 14 18, bits w0 11 3, bits w0 9 2, bits w1 14 18, bits w2 16 16, bits w2 0 16,
   bit w3 31, bit w3 30, bit w3 29, bit w3 28, bit w3 27, (l.drop 16).take (4 * bits w1 0 12)⟩

end Sys2Proof.Machine
end

