-- ==== Sys2Proof/Machine/Buffers.lean ====
section
/-!
DEFINITION. Ingress buffers and the flow control of their classes (R251 to R253, Table 10-11).
-/

namespace Sys2Proof.Machine

/-- Space a packet takes in a buffer: header and payload, rounded up to 64 bytes (R251). -/
def bufSize (payload : Nat) : Nat := 64 * ceilDiv (16 + payload) 64

/-- Flow-controlled classes in the order of their watermarks: 0 M, 1 C, 2 D and U; none for the others (Table 10-10). -/
def fcClass (cls : Nat) : Option Nat :=
  if cls = Cls.m then some 0 else if cls = Cls.c then some 1 else if cls = Cls.d ∨ cls = Cls.u then some 2 else none

/-- The class number an FC sequence carries (R252: DU is sent as 3). -/
def fcCode (k : Nat) : Nat := if k = 0 then Cls.m else if k = 1 then Cls.c else Cls.d

/-- Reservation of a class in bytes (Table 10-10). -/
def reservation (cls : Nat) : Nat :=
  1024 * (if cls = Cls.t then 4 else if cls = Cls.a then 8 else if cls = Cls.c then 64 else if cls = Cls.m then 32 else 404)

/-- The kept packets of a list that the node itself has not yet read. -/
def State.stillKept (s : State) (l : List EgItem) : List EgItem :=
  l.filter (fun e => match e.close with | some c => decide (s.time_ < c) | none => false)

/-- Packets that a port's ingress buffer keeps, each once: for the node itself, and for another port's egress (R257). -/
def State.keptFor (s : State) (p : Nat) : List EgItem :=
  (s.stillKept (s.port p).keep ++
    [0, 1, 2].flatMap (fun q => (s.port q).egress.filter (fun e => decide (e.inp = some p)))).foldl
    (fun l e => if l.any (fun x => decide (x.pkt = e.pkt ∧ x.arrived = e.arrived)) then l else l ++ [e]) []

/-- Bytes of a port's buffer that the packets of a class hold (R251, R257). -/
def State.occupancy (s : State) (p cls : Nat) : Nat :=
  let kept := listSum (((s.keptFor p).filter (fun e => decide (e.pkt.cls = cls))).map (fun e => bufSize e.pkt.payload.length))
  if cls = Cls.m then
    kept + listSum ((s.mq.filter (fun m => decide (m.req.kind = 2 ∧ m.req.port = p))).map (fun m => bufSize (8 + m.data.length)))
  else if cls = Cls.a then kept + listSum ((s.port p).aWait.map (fun k => bufSize k.payload.length))
  else if cls = Cls.u then
    kept + listSum ((s.ul.child.filter (fun c => decide (c.port = p) && !c.dead)).map
      (fun c => bufSize (12 + recBytes c.recs.length c.m)))
  else kept

/-- Occupancy of a flow-controlled class. -/
def State.fcOcc (s : State) (p k : Nat) : Nat :=
  if k = 2 then s.occupancy p Cls.d + s.occupancy p Cls.u else s.occupancy p (fcCode k)

/-- An FC sequence. -/
def fcSeq (k : Nat) (xoff : Bool) : List Nat := [0x5C, fcCode k, if xoff then 0xF0 else 0x0F]

/-- The receiver's state of one class. -/
def State.modRx (s : State) (p k : Nat) (f : FcState → FcState) : State := s.modPort p (fun q => { q with rx := amod 3 FcState.init q.rx k f })
/-- The sender's state of one class. -/
def State.modTx (s : State) (p k : Nat) (f : FcState → FcState) : State := s.modPort p (fun q => { q with tx := amod 3 FcState.init q.tx k f })

/-- A class with no XOFF in force. -/
def fcGo : FcState := FcState.init

/-- The receiver of a class turned to its state in the present TIME cycle, and its FC is the last sequence sent. -/
def State.fcJust (s : State) (p k : Nat) (f : FcState) : Bool :=
  decide (timeCycle (f.since : Int) = timeCycle (s.now : Int)) && decide ((s.port p).outCtl.getLast? = some (fcSeq k f.held))

/-- Judges one class of one port against its watermarks (R252, Table 10-11). An FC that a second crossing in the same cycle
overtakes is not sent: the state after the cycle decides (Table 10-18). -/
def State.fcJudge1 (s : State) (p k : Nat) : State :=
  let occ := s.fcOcc p k
  let f := smGet FcState.init (s.port p).rx k
  let back := s.fcJust p k f
  let s0 := if back then s.modPort p (fun q => { q with outCtl := q.outCtl.dropLast }) else s
  if !s.active p then s
  else if !f.held ∧ 1024 * s.a (0x6200 + p) (2 * k + 1) ≤ occ then
    ((s0.modRx p k (fun _ => ⟨true, s.now, s.now, false⟩)).sendCtl p (fcSeq k true)).bump (0x6200 + p) 8 (if back then 0 else 1)
  else if f.held ∧ occ ≤ 1024 * s.a (0x6200 + p) (2 * k + 2) then
    let s1 := (s0.modRx p k (fun _ => ⟨false, s.now, s.now, false⟩)).sendCtl p (fcSeq k false)
    if back then s1.seto (0x6200 + p) 8 (s1.o (0x6200 + p) 8 + 2 ^ 32 - 1) else s1
  else s

/-- Judges every class of every port. -/
def State.fcJudge (s : State) : State :=
  [0, 1, 2].foldl (fun s p => [0, 1, 2].foldl (fun s k => s.fcJudge1 p k) s) s

/-- The node has read what it kept until now: the space is free (R257). -/
def State.freeKept (s : State) : State := (s.modPort 0 (fun q => { q with keep := s.stillKept q.keep })).fcJudge

/-! ### Wire time and the load of a dropped lane (R242, R264, R265) -/

/-- Wire bytes of a payload: header, CRC, SOP and EOP included (R242, the worked example of R264). -/
def wireLen (payload : Nat) : Nat := payload + 22

/-- Wire time of a payload at a width (R242). -/
def State.wireTime (s : State) (p w payload : Nat) : Nat :=
  ceilDiv (wireLen payload) (max w 1) * colTicks (s.o (0x6000 + p) 6)

/-- The streams that are shed: those after the kept ones in descending rank, equal ranks kept in ascending order of
16 c + s (R264). Each entry of the list is 16 c + s, its rank and its load. -/
def shedList (budget : Nat) (l : List (Nat × Nat × Nat)) : List Nat :=
  let order := sortBy (fun x => (255 - x.2.1) * 64 + x.1) l
  (order.foldl (fun (a : Nat × Bool × List Nat) x =>
    if a.2.1 ∧ a.1 + x.2.2 ≤ budget then (a.1 + x.2.2, true, a.2.2) else (a.1, false, a.2.2 ++ [x.1])) (0, true, [])).2.2

/-- The budget of seven lanes in bytes per millisecond, less the load of the other classes (R264). -/
def State.budget7 (s : State) (p other : Nat) : Nat := 98 * (7 * rateMbps (s.o (0x6000 + p) 6)) - other

/-- Payload bytes of the parts of an uplink stream of so many PRBs at MW (R117, R118). -/
def ulLoads (nrb mw : Nat) : List Nat :=
  (if nrb ≤ 137 then [nrb] else [ceilDiv nrb 2, nrb - ceilDiv nrb 2]).map (fun n => 12 + recBytes n (mw + 10))

/-- The uplink load of every enabled stream, from the configuration (R264). -/
def State.ulLoad (s : State) : List (Nat × Nat × Nat) :=
  (List.range 4).flatMap (fun c => if s.a (0x3004 + c) 1 = 0 then [] else
    (List.range 16).filterMap (fun k => if bit (s.a (0x3014 + c) (k + 1)) 16 then
      some (16 * c + k, s.a 0x6211 (16 * c + k + 1),
        listSum ((ulLoads (s.a (0x3004 + c) 3) (s.a 0x3034 5)).map wireLen) * (if s.a (0x3004 + c) 2 = 0 then 14 else 28))
      else none))

/-- The uplink streams shed on a port at seven lanes: the list of the sender, or of the parent that receives (R264). -/
def State.ulShed (s : State) (p other : Nat) : List Nat := shedList (s.budget7 p other) s.ulLoad

/-- The places of a burst that a seven-lane sender leaves empty, of places given as place, 16 c + s, departure and
payload bytes (R265). -/
def State.emptyPlaces (s : State) (p : Nat) (shed : List Nat) (l : List (Nat × Nat × Int × Nat)) : List Nat :=
  (l.foldl (fun (a : Int × List Nat) x =>
    if x.2.1 ∈ shed ∨ x.2.2.1 < a.1 then (a.1, a.2 ++ [x.1])
    else (x.2.2.1 + (s.wireTime p 7 x.2.2.2 : Int), a.2)) (match l with | x :: _ => x.2.2.1 | [] => 0, [])).2

end Sys2Proof.Machine
end

