-- ==== Sys2Proof/Machine/Dsp.lean ====
section
/-!
DEFINITION. The arithmetic of the signal chains (R77, R88 to R96, R108 to R112): sine and cosine, transforms, filters,
oscillator, resampler. A stream of complex samples is a function of the sample's number on a grid whose sample 0 stands at
the start of air time, so that delays, which the device pads away (R98), do not appear.
-/

namespace Sys2Proof.Machine

/-- A complex number of integer parts. -/
abbrev Cx2 := Int × Int

/-- Sum and product of complex numbers. -/
def cAdd (a b : Cx2) : Cx2 := (a.1 + b.1, a.2 + b.2)
def cMul (a b : Cx2) : Cx2 := (a.1 * b.1 - a.2 * b.2, a.1 * b.2 + a.2 * b.1)
/-- A complex number times an integer. -/
def cScale (k : Int) (a : Cx2) : Cx2 := (k * a.1, k * a.2)
/-- The conjugate. -/
def cConj (a : Cx2) : Cx2 := (a.1, -a.2)
/-- Squared magnitude. -/
def cAbs2 (a : Cx2) : Int := a.1 * a.1 + a.2 * a.2
/-- Sum of a list. -/
def cSum (l : List Cx2) : Cx2 := l.foldl cAdd (0, 0)

/-- round_he of both parts (R82). -/
def cRound (a : Cx2) (k : Nat) : Cx2 := (roundHE a.1 k, roundHE a.2 k)
/-- sat of both parts (R82). -/
def cSat (w : Nat) (a : Cx2) : Cx2 := (satI w a.1, satI w a.2)
/-- Whether a sample saturates at a width: it counts once, whether I, Q or both are clamped (R77). -/
def cOvf (w : Nat) (a : Cx2) : Bool := decide (cSat w a ≠ a)

/-! ### Sine and cosine, to 2^-96 (DESIGN CHOICE, assumption 68: the spec gives no table) -/

/-- 2π in units of 2^-96. -/
def twoPi96 : Nat := 497805226624462170461043889244

/-- The terms of the series of cosine (from x^0) or sine (from x^1), `n` of them: t is the term reached, m its degree. -/
def seriesTerms (x2 : Int) : Nat → Int → Int → Int
  | 0, _, _ => 0
  | n + 1, t, m => t + seriesTerms x2 n (-(t * x2 / (2 ^ 96 : Nat)) / ((m + 1) * (m + 2))) (m + 2)

/-- Cosine and sine of an angle below a quarter turn, in units of 2^-96. -/
def cisQuarter (x : Int) : Cx2 :=
  let x2 := x * x / (2 ^ 96 : Nat)
  (seriesTerms x2 20 (2 ^ 96 : Nat) 0, seriesTerms x2 20 x 1)

/-- e^(j2πk/2^32) in units of 2^-96. -/
def cis (k : Nat) : Cx2 :=
  let r := k % 2 ^ 30
  let v := if r = 0 then (((2 ^ 96 : Nat) : Int), 0) else cisQuarter ((r * twoPi96 / 2 ^ 32 : Nat) : Int)
  match k / 2 ^ 30 % 4 with
  | 0 => v
  | 1 => (-v.2, v.1)
  | 2 => (-v.1, -v.2)
  | _ => (v.2, -v.1)

/-- A phase of any sign, in units of 2^-32 cycle, brought into one cycle. -/
def turn (k : Int) : Nat := (k % (2 ^ 32 : Nat)).toNat

/-- e^(j2πk/2^32) in Q1.15, where 1.0 clamps to 32,767 (Table 4-1; assumption 68). -/
def cisQ15 (k : Nat) : Cx2 := cSat 16 (cRound (cis k) 81)

/-! ### Transforms (R90, R112) -/

/-- The transform of 4,096 points at an index, sign +1 inverse and −1 direct, in units of 2^-96: exact but for the last
places of the exponentials. -/
def dftExact (sign : Int) (x : List (Nat × Cx2)) (n : Nat) : Cx2 :=
  cSum (x.map (fun p => cMul p.2 (cis (turn (sign * ((p.1 * n : Nat) : Int) * (2 ^ 20 : Nat))))))

/-- x[n] of R90, or X[k] of R112, as an integer: the exact value to the nearest, and what the device's undisclosed
butterflies and twiddles add to it (a free value, bounded by R97; assumption 68). -/
def dft (sign : Int) (x : List (Nat × Cx2)) (n : Nat) : Cx2 := cAdd (cRound (dftExact sign x n) 96) (Config.dftDev sign x n)

/-- The bin of subcarrier k of a carrier of NRB resource blocks (R88). -/
def binOf (nrb k : Nat) : Nat := (4096 + k - 6 * nrb) % 4096

/-! ### The phase term of R89 -/

/-- f0 × samples / rate modulo one cycle, quantised to 16 bits, for f0 in kHz and a time in samples at 122.88 MS/s: the
nearest of 2^16 steps, ties to even (R77). -/
def phase16 (f0 samples : Nat) : Nat :=
  let num := f0 * samples % 122880
  (roundRat (num * 2 ^ 16) 122880) % 2 ^ 16
where
  /-- a / b to the nearest, ties to even. -/
  roundRat (a b : Nat) : Nat :=
    let q := a / b
    let r := a % b
    if b < 2 * r ∨ (2 * r = b ∧ q % 2 = 1) then q + 1 else q

/-- A sample turned by the phase p / 2^16 of a cycle, negative on the downlink: rounded from the exact product, before
saturation. -/
def phaseTurn (sign : Int) (p : Nat) (v : Cx2) : Cx2 := cRound (cMul v (cis (turn (sign * ((p * 2 ^ 16 : Nat) : Int))))) 96

/-! ### Filters. A stream is a function of the sample's number. -/

/-- A stream of complex samples. -/
abbrev Sig := Int → Cx2

/-- The symmetric 95-tap channel filter: tap t for t = 0 to 94, given h0 to h47 (R92). -/
def chTap (h : List Int) (t : Nat) : Int := h.getD (if t ≤ 47 then t else 94 - t) 0

/-- h0 to h47 of coefficient set 0 for a numerology and a width: undisclosed but for the gain of 1.0 at zero frequency of
either polyphase branch (R92), which fixes h46 and h47. -/
def builtinTaps (scs nrb : Nat) : List Int :=
  let h := fun t => Config.chfTap scs nrb t
  let sum := fun (r n : Nat) => ((List.range n).map (fun (i : Nat) => h (2 * i + r))).foldl (· + ·) 0
  (List.range 46).map h ++ [((2 ^ 16 : Nat) : Int) - sum 0 23, ((2 ^ 17 : Nat) : Int) - 2 * sum 1 23]

/-- h0 to h47 of a user set, 48 words of 32 bits, the first word highest (Table 4-16). -/
def userTaps (v : Nat) : List Int := (List.range 48).map (fun j => toInt 32 (bits v (32 * (47 - j)) 32))

/-- Interpolation by 2 with the channel filter, before rounding: output m (R92). -/
def chUp (h : List Int) (x : Sig) (m : Int) : Cx2 :=
  cSum ((List.range 95).map (fun (t : Nat) =>
    let i := m + 47 - (t : Int)
    if i % 2 = 0 then cScale (chTap h t) (x (i / 2)) else (0, 0)))

/-- Decimation by 2 with the channel filter, before rounding (R111). -/
def chDown (h : List Int) (x : Sig) (m : Int) : Cx2 :=
  cSum ((List.range 95).map (fun (t : Nat) => cScale (chTap h t) (x (2 * m + 47 - (t : Int)))))

/-- The taps of a half-band at odd distances 1, 3, … from its centre, on either side; those at even distances are 0 and
the centre is 1.0 of Q1.17 (interpolation), which is what makes it a half-band (DEDUCED, assumption 68). -/
def hbUp (odd : Nat → Int) (n : Nat) (x : Sig) (m : Int) : Cx2 :=
  if m % 2 = 0 then cScale (2 ^ 17 : Nat) (x (m / 2))
  else cSum ((List.range n).map (fun (i : Nat) =>
    cScale (odd i) (cAdd (x ((m - 1) / 2 - (i : Int))) (x ((m + 1) / 2 + (i : Int))))))

/-- Decimation by 2 with a half-band: its centre is 0.5, so that the stage has unity gain (R111, assumption 68). -/
def hbDown (odd : Nat → Int) (n : Nat) (x : Sig) (m : Int) : Cx2 :=
  cAdd (cScale (2 ^ 16 : Nat) (x (2 * m)))
    (cSum ((List.range n).map (fun (i : Nat) =>
      cScale (odd i) (cAdd (x (2 * m - 1 - 2 * (i : Int))) (x (2 * m + 1 + 2 * (i : Int)))))))

/-- One output of the 16-tap polyphase resampler at a position in units of 2^-40 sample: the top 10 bits of the fraction
select the branch, truncated (R95, R110). -/
def rsOut (tap : Nat → Nat → Int) (x : Sig) (pos : Int) : Cx2 :=
  let i := pos / (2 ^ 40 : Nat)
  let b := (pos % (2 ^ 40 : Nat)).toNat / 2 ^ 30
  cSum ((List.range 16).map (fun (t : Nat) => cScale (tap b t) (x (i + 8 - (t : Int)))))

/-- 2^40 × num / den × (1 ± trim), with the trim in 0.001 ppb, to the nearest integer, ties to even (R95, R110). -/
def rsAdvance (num den : Nat) (trim : Int) : Int :=
  let n : Int := ((2 ^ 40 * num : Nat) : Int) * (1000000000000 + trim)
  let d : Int := ((den * 1000000000000 : Nat) : Int)
  let q := n / d
  let r := n % d
  if d < 2 * r ∨ (2 * r = d ∧ q % 2 = 1) then q + 1 else q

/-- The oscillator's word: a frequency in mHz in steps of 491.52 MHz / 2^32, to the nearest, ties to even (R93). -/
def ncoWord (f : Int) : Int :=
  let n := f * ((2 ^ 32 : Nat) : Int)
  let d : Int := 491520000000
  let q := n / d
  let r := n % d
  if d < 2 * r ∨ (2 * r = d ∧ q % 2 = 1) then q + 1 else q

/-- Oscillator and calibration correction, before rounding: e^(±j2πφ) in Q1.15 and a correction in Q2.14; the stage rounds
once (DEDUCED from Table 4-1, which gives it one output; assumption 68). -/
def ncoMix (sign : Int) (phase : Nat) (corr : Cx2) (v : Cx2) : Cx2 :=
  cMul (cMul v (let e := cisQ15 phase; if sign < 0 then cConj e else e)) corr

/-- 1.0 in Q2.14. -/
def oneQ14 : Cx2 := (16384, 0)

/-! ### What a stage leaves, and how many samples saturate -/

/-- A stage's output: rounded and clamped (R77). -/
def outSat (w k : Nat) (v : Cx2) : Cx2 := cSat w (cRound v k)
/-- It saturates. -/
def outOvf (w k : Nat) (v : Cx2) : Bool := cOvf w (cRound v k)

end Sys2Proof.Machine
end

