-- ==== Sys2Proof/Machine/Flags.lean ====
section
/-!
DEFINITION. The conditions and status words the meanings share: which carriers, paths and tiles are active, what
the radio pattern codes for a symbol, which paths are benched, shed or blocked, and whether an LO is ready.
-/

namespace Sys2Proof.Machine

/-! ### Carriers (chapters 04 and 05); direction 0 downlink, 1 uplink -/

/-- Index of a carrier's objects. -/
def carIdx (dir c : Nat) : Nat := (if dir = 0 then 0x3000 else 0x3004) + c

/-- Index of a carrier's stream map. -/
def mapIdx (dir c : Nat) : Nat := (if dir = 0 then 0x3010 else 0x3014) + c

/-- Bit of SHED_CARRIERS: downlink carriers in [3:0], uplink in [7:4] (Table 16-16). -/
def shedBit (dir c : Nat) : Nat := if dir = 0 then c else 4 + c

/-- A carrier is enabled at an instant. -/
def State.carEnabled (s : State) (T : Int) (dir c : Nat) : Bool := decide (s.at_ T (carIdx dir c) 1 = 1)

/-- A carrier is shed at an instant (R393). -/
def State.carShed (s : State) (T : Int) (dir c : Nat) : Bool := bit (s.at_ T 0x5040 3) (shedBit dir c)

/-- A carrier is active at an instant: enabled, and on the downlink not shed (R393: a shed downlink carrier stops
as a disabled one does, a shed uplink carrier keeps its places). -/
def State.carActive (s : State) (T : Int) (dir c : Nat) : Bool :=
  s.carEnabled T dir c && (decide (dir = 1) || !s.carShed T dir c)

/-- Numerology and PRB count of a carrier at an instant. -/
def State.carScs (s : State) (T : Int) (dir c : Nat) : Nat := s.at_ T (carIdx dir c) 2
def State.carNrb (s : State) (T : Int) (dir c : Nat) : Nat := s.at_ T (carIdx dir c) 3

/-- The STREAM_SLOT word of a carrier's stream slot at an instant. -/
def State.slotWord (s : State) (T : Int) (dir c k : Nat) : Nat := s.at_ T (mapIdx dir c) (k + 1)

/-- A stream slot is enabled. -/
def State.slotOn (s : State) (T : Int) (dir c k : Nat) : Bool := bit (s.slotWord T dir c k) 16

/-- The (carrier, stream slot) pairs on which a stream ID is enabled at an instant. -/
def State.streamPlaces (s : State) (T : Int) (dir sid : Nat) : List (Nat × Nat) :=
  (List.range 4).flatMap (fun c => if s.carActive T dir c then
    (List.range 16).filterMap (fun k =>
      let w := s.slotWord T dir c k
      if bit w 16 && decide (w % 2 ^ 16 = sid) then some (c, k) else none) else [])

/-- Enabled stream slots of a carrier. -/
def State.streamsOn (s : State) (T : Int) (dir c : Nat) : List Nat :=
  (List.range 16).filter (fun k => s.slotOn T dir c k)

/-- Any active 15 kHz carrier of a direction (2: either). -/
def State.any15 (s : State) (T : Int) (dir : Nat) : Bool :=
  (List.range 4).any (fun c =>
    (decide (dir ≠ 1) && s.carActive T 0 c && decide (s.carScs T 0 c = 0)) ||
    (decide (dir ≠ 0) && s.carActive T 1 c && decide (s.carScs T 1 c = 0)))

/-- Any active carrier. -/
def State.anyCar (s : State) (T : Int) : Bool :=
  (List.range 4).any (fun c => s.carActive T 0 c || s.carActive T 1 c)

/-! ### Paths, tiles, synthesisers -/

/-- A path's shed bit in force (Table 16-16). -/
def State.pathShed (s : State) (T : Int) (n : Nat) : Bool :=
  if n < 64 then bit (s.at_ T 0x5040 1) n else bit (s.at_ T 0x5040 2) (n - 64)

/-- Enabled for transmit by its commit, and not shed. -/
def State.txOn (s : State) (T : Int) (n : Nat) : Bool := decide (s.at_ T 0x2000 (n + 1) = 1) && !s.pathShed T n
/-- Enabled for receive by its commit, and not shed. -/
def State.rxOn (s : State) (T : Int) (n : Nat) : Bool := decide (s.at_ T 0x2001 (n + 1) = 1) && !s.pathShed T n

/-- PATH_TX_EN in 0x2100: 0 while PATH_TX_BLOCK[0], [2] or [3] is set, or the path is shed (R155, R393). -/
def State.txEnAct (s : State) (T : Int) (n : Nat) : Bool :=
  let b := s.o 0x2106 (n + 1)
  s.txOn T n && !bit b 0 && !bit b 2 && !bit b 3

/-- PATH_RX_EN in 0x2101. -/
def State.rxEnAct (s : State) (T : Int) (n : Nat) : Bool := s.rxOn T n

/-- Tile of a path (R10). -/
def tileOf (n : Nat) : Nat := n / 8
/-- Observation receiver of a path (R10). -/
def oxOf (n : Nat) : Nat := n / 12
/-- Paths of a tile. -/
def pathsOf (k : Nat) : List Nat := (List.range 8).map (· + 8 * k)
/-- All paths. -/
def allPaths : List Nat := List.range 96

/-- The synthesiser that feeds a tile's TX side, or its RX side (Table 7-6). -/
def State.txLo (s : State) (T : Int) (k : Nat) : Nat := bits (s.at_ T 0x2410 (k + 1)) 0 2
def State.rxLo (s : State) (T : Int) (k : Nat) : Nat := bits (s.at_ T 0x2410 (k + 1)) 4 2

/-- A tile has an enabled path for transmit, for receive, or for either. -/
def State.tileTx (s : State) (T : Int) (k : Nat) : Bool := (pathsOf k).any (s.txOn T)
def State.tileRx (s : State) (T : Int) (k : Nat) : Bool := (pathsOf k).any (s.rxOn T)
def State.tileOn (s : State) (T : Int) (k : Nat) : Bool := s.tileTx T k || s.tileRx T k

/-- LO_STATUS of a synthesiser, and its ready bit (Table 7-5, R177). -/
def State.loStatus (s : State) (l : Nat) : Nat := s.o (0x2400 + l) 0x0B
def State.loReady (s : State) (l : Nat) : Bool := bit (s.loStatus l) 1

/-- LO_STATUS from its parts: ready is locked and neither calibrating nor re-locking (R149, R177). -/
def loWord (valid relock cal locked : Bool) : Nat :=
  b2n valid * 16 + b2n relock * 8 + b2n cal * 4 + b2n (locked && !relock && !cal) * 2 + b2n locked

/-- FCONV in hertz of a code of FCONV_ACT. -/
def fconvHz (c : Nat) : Nat := if c = 1 then 1500000000 else if c = 3 then 1700000000 else 1600000000

/-! ### Front-end pins (Tables 6-2, 6-10) -/

/-- Key of a pin among the settled levels. -/
def pinKey (k : PinKind) (n : Nat) : Nat :=
  (match k with | .txon => 0 | .trsw => 1 | .lnabyp => 2 | .driver => 3 | .rxStage => 4 | .gate => 5 | .radio => 6) * 128 + n

/-- Level of a pin in reset and while its domain is off (Table 6-10; R420 for the gates). -/
def pinRest (k : PinKind) : Nat := match k with | .lnabyp => 1 | _ => 0

/-- Edges of a pin that have passed at an instant. -/
def State.edgesOf (s : State) (T : Int) (k : PinKind) (n : Nat) : List PinEdge :=
  s.rf.edges.filter (fun e => decide (e.kind = k ∧ e.n = n) && decide (e.at_ ≤ T))

/-- The level of a pin at an instant: its last edge, or its settled level. -/
def State.pinAt (s : State) (T : Int) (k : PinKind) (n : Nat) : Nat :=
  match (s.edgesOf T k n).getLast? with
  | some e => e.level
  | none => smGet (pinRest k) s.rf.levels (pinKey k n)

/-- The level of a pin now. -/
def State.pin (s : State) (k : PinKind) (n : Nat) : Nat := s.pinAt s.time_ k n

/-- How far back the levels of pins are kept as edges: a symbol and a capture may still ask for them. -/
def pinSpan : Int := ((200 * tUs : Nat) : Int)

/-- Settles the edges that have passed by more than that. -/
def State.settlePins (s : State) : State :=
  let past := s.rf.edges.filter (fun e => decide (e.at_ + pinSpan ≤ s.time_))
  { s with rf := { s.rf with
      levels := past.foldl (fun m e => smSet (pinRest e.kind) m (pinKey e.kind e.n) e.level) s.rf.levels,
      edges := s.rf.edges.filter (fun e => decide (s.time_ < e.at_ + pinSpan)) } }

/-- Schedules an edge of a pin; edges of that pin at or after it are overtaken. -/
def State.edge (s : State) (T : Int) (k : PinKind) (n level : Nat) : State :=
  { s with rf := { s.rf with
      edges := s.rf.edges.filter (fun e => decide (¬ (e.kind = k ∧ e.n = n ∧ T ≤ e.at_))) ++ [⟨T, k, n, level⟩] } }

/-- Takes back the edges of a pin that are still to come. -/
def State.dropEdges (s : State) (k : PinKind) (n : Nat) : State :=
  { s with rf := { s.rf with edges := s.rf.edges.filter (fun e => decide (¬ (e.kind = k ∧ e.n = n ∧ s.time_ < e.at_))) } }

/-- Schedules a change of a pin that leaves its later edges standing: from T on every level is put through a function. -/
def State.bend (s : State) (T : Int) (k : PinKind) (n : Nat) (f : Nat → Nat) : State :=
  let mine := fun (e : PinEdge) => decide (e.kind = k ∧ e.n = n)
  let later := (s.rf.edges.filter (fun e => mine e && decide (T < e.at_))).map (fun e => { e with level := f e.level })
  { s with rf := { s.rf with
      edges := s.rf.edges.filter (fun e => !(mine e && decide (T ≤ e.at_))) ++ [⟨T, k, n, f (s.pinAt T k n)⟩] ++ later } }

/-- Sets a pin at once. -/
def State.setPin (s : State) (k : PinKind) (n level : Nat) : State :=
  { s with rf := { s.rf with
      levels := smSet (pinRest k) s.rf.levels (pinKey k n) level,
      edges := s.rf.edges.filter (fun e => decide (¬ (e.kind = k ∧ e.n = n))) } }

/-- RADIO_STATE of an LO domain (Table 6-14). -/
def State.radioState (s : State) (l : Nat) : Nat := s.pin .radio l

/-! ### The radio pattern (R143, R144) -/

/-- The word of a pattern slot: word j of a 40-word DOMAIN, sent first word first. -/
def domWord (v words j : Nat) : Nat := bits v (32 * (words - 1 - j)) 32

/-- A pattern symbol carries TX, or RX. -/
def txCode (c : Nat) : Bool := c == 1 || c == 3
def rxCode (c : Nat) : Bool := c == 2 || c == 3

/-- The code of a pattern symbol (0 OFF, 1 TX, 2 RX, 3 TX and RX), by absolute slot in RADIO_SCS. -/
def State.patCode (s : State) (T : Int) (n : Int) (k : Nat) : Nat :=
  let per := s.at_ T 0x2020 3
  let scs := s.at_ T 0x2020 2
  let j := ((sfnOf scs n * slotsPer scs + slotInFrame scs n)) % max per 1
  let nap := bit (s.at_ T 0x5040 6) j
  if nap then 0 else bits (domWord (s.at_ T 0x2020 4) 40 j) (2 * k) 2

/-- Pattern codes that a carrier symbol spans (R144). -/
def State.carCodes (s : State) (scs : Nat) (n : Int) (k : Nat) : List Nat :=
  let T0 := s.tAir scs n k
  let T1 := s.tAirEnd scs n k
  let ps := s.at_ T0 0x2020 2
  let n0 := s.slotOf ps T0
  ([n0, n0 + 1].flatMap (fun m => (List.range 14).filterMap (fun j =>
    if T0 < s.tAirEnd ps m j ∧ s.tAir ps m j < T1 then some (s.patCode T0 m j) else none)))

/-- A carrier symbol is a TX symbol, or an RX symbol (R144). -/
def State.isTx (s : State) (scs : Nat) (n : Int) (k : Nat) : Bool := (s.carCodes scs n k).all (fun c => c = 1 || c = 3)
def State.isRx (s : State) (scs : Nat) (n : Int) (k : Nat) : Bool := (s.carCodes scs n k).all (fun c => c = 2 || c = 3)

/-- A slot of the pattern in force at an instant is a nap slot (R395). -/
def State.napAt (s : State) (T : Int) (n : Int) : Bool :=
  let scs := s.at_ T 0x2020 2
  let per := s.at_ T 0x2020 3
  let j := (sfnOf scs n * slotsPer scs + slotInFrame scs n) % max per 1
  bit (s.at_ T 0x5040 6) j ||
    (decide (s.at_ T 0x5040 5 = 1) && decide (bits (domWord (s.at_ T 0x2020 4) 40 j) 0 28 = 0))

/-- A slot of RADIO_SCS is a nap slot. -/
def State.napSlot (s : State) (n : Int) : Bool := s.napAt (s.slotStart (s.a 0x2020 2) n) n

/-- Codes of the whole pattern from an instant, nap slots OFF (R143, R395). -/
def State.patCodes (s : State) (T : Int) : List Nat :=
  (List.range (s.at_ T 0x2020 3)).flatMap (fun j => (List.range 14).map (fun k =>
    if bit (s.at_ T 0x5040 6) j then 0 else bits (domWord (s.at_ T 0x2020 4) 40 j) (2 * k) 2))

/-- The code of the symbol that holds an instant. -/
def State.codeAt (s : State) (T : Int) : Nat :=
  let scs := s.at_ T 0x2020 2
  let n := s.slotOf scs T
  s.patCode T n (symAt scs (T - s.slotStart scs n).toNat)

/-- Start and end of the pattern symbol that holds an instant. -/
def State.symSpan (s : State) (T : Int) : Int × Int :=
  let scs := s.at_ T 0x2020 2
  let n := s.slotOf scs T
  let k := symAt scs (T - s.slotStart scs n).toNat
  (s.tAir scs n k, s.tAirEnd scs n k)

/-- RADIO_SCS in force in a slot named by number: the slot is the one near the present instant. -/
def State.radioScs (s : State) (n : Int) (k : Nat) : Nat :=
  let c := s.a 0x2020 2
  let d := if c = 0 then 1 else 0
  let far := fun scs => (s.tAir scs n k - s.time_).natAbs
  if far d < far c ∧ s.at_ (s.tAir d n k) 0x2020 2 = d then d else c

/-! ### The grid (R20, R86, R339) -/

/-- The numerology of the air-time grid: 15 kHz while such a carrier is active. -/
def State.gridScs (s : State) : Nat := if s.any15 s.time_ 2 then 0 else 1

/-- Start of the slot of the air-time grid that holds an instant. It is the slot of R20 and R86. -/
def State.gridStart (s : State) (T : Int) : Int :=
  let scs := if s.any15 T 2 then 0 else 1
  s.slotStart scs (s.slotOf scs T)

/-! ### Benching (R20, R87) -/

/-- A commit's values reconfigure carriers, FCONV or what is shed (R22, R184, R393). -/
def isReconf (vals : SMap Nat) : Bool :=
  vals.any (fun kv => let i := kv.1 / 256
    (decide (0x3000 ≤ i) && decide (i ≤ 0x3007)) || (kv.1 == key 0x2420 6) ||
    (decide (i = 0x5040) && decide (kv.1 % 256 ≤ 3)))
/-- The instants of accepted reconfigurations. -/
def State.reconfs (s : State) : List Int := (s.commits.filter (fun c => isReconf c.vals)).map (fun c => c.at_)

/-- A planned bench slot will be used, as far as can be told: its set is fixed, or its credit is granted and nothing of R22 and
R221 stands against it. -/
def State.benchStands (s : State) (b : Bench) : Bool :=
  b.running || b.fixed ||
  (s.granted .bench 1 && !s.reconfs.any (fun a => decide (b.start ≤ a) && decide (a < b.end_)) &&
    decide (s.at_ b.start 0x4400 1 ≠ 0) && !s.cpLost)

/-- An assay of a path has an accepted result in force (R218). -/
def State.hadAssay (s : State) (n assay : Nat) : Bool := bit (smGet 0 s.cal.had n) assay
/-- Key of a stored assay result; what corrects a converter is stored by FCONV (R184). DESIGN CHOICE (assumption 74): the converters'
assays are DAC_CELL and ADC_SPARE. -/
def State.assayKey (s : State) (n assay : Nat) : Nat :=
  0x1000000 + 1024 * (if assay ≤ 1 then s.o 0x2420 6 else 0) + 8 * n + assay
/-- A path lacks an assay, and the calibration store has no result that could stand in (R218). -/
def State.lacks (s : State) (n assay : Nat) : Bool :=
  !s.hadAssay n assay && decide (smGet 0 s.cal.store (s.assayKey n assay) = 0)
/-- Assays that a path enabled after start-up needs: those of phase B. -/
def phaseB : List Nat := [2, 3, 5]
/-- A path is enabled for transmit or receive at an instant, and not shed. -/
def State.onAt (s : State) (T : Int) (n : Nat) : Bool := s.txOn T n || s.rxOn T n

/-- A path that an accepted commit enables will be parked when it activates (R218). -/
def State.willPark (s : State) (T : Int) (n : Nat) : Bool :=
  s.onAt T n && decide (s.a 0x2000 (n + 1) ≠ 1 ∧ s.a 0x2001 (n + 1) ≠ 1) && phaseB.any (s.lacks n)
/-- A parked path will leave parking when the bench slot in progress ends (R218). -/
def State.willUnpark (s : State) (T : Int) (n : Nat) : Bool :=
  match s.cal.bench with
  | some b => b.running && decide (b.end_ ≤ T) && decide (n ∈ b.paths) && !s.cpLost &&
      [0, 1, 2, 3, 4, 5].all (fun a => s.hadAssay n a || s.cal.ready.any (fun r => decide (r.path = n ∧ r.assay = a)))
  | none => false

/-- A path will be benched at an instant, as far as can be told: inside the window of the bench slot that holds it, or parked
(R218), or before start-up calibration has completed (R216: no path carries traffic before phase B has completed for it). -/
def State.benchPlanned (s : State) (T : Int) (n : Nat) : Bool :=
  decide (s.cal.step ≠ 9) || (decide (n ∈ s.cal.parked) && !s.willUnpark T n) || s.willPark T n ||
  (match s.cal.bench with
   | some b => decide (b.start ≤ T) && decide (T < b.end_) && decide (n ∈ b.paths) && s.benchStands b
   | none => false)

/-- A path is benched at an instant: in the set fixed for its slot, or as far as can be told (R20). -/
def State.benched (s : State) (T : Int) (n : Nat) : Bool :=
  match s.cal.sets.find? (fun x => decide (x.1 = s.gridStart T)) with
  | some x => decide (n ∈ x.2)
  | none => s.benchPlanned T n

/-- The bench sets kept once the slot that starts at an instant is fixed: those of the last 4 ms. -/
def State.setsWith (s : State) (T : Int) : List (Int × List Nat) :=
  if s.cal.sets.any (fun x => decide (x.1 = T)) then s.cal.sets
  else s.cal.sets.filter (fun x => decide (T < x.1 + ((4 * tMs : Nat) : Int))) ++ [(T, allPaths.filter (s.benchPlanned T))]

/-- The bench set of a slot is fixed (R20); a bench slot that starts there, and stands, is used whatever happens now. -/
def State.fixSet (s : State) (T : Int) : State :=
  let f := fun (b : Bench) => if !s.cal.sets.any (fun x => decide (x.1 = T)) && decide (b.start = T) && s.benchStands b then
    { b with fixed := true } else b
  { s with cal := { s.cal with sets := s.setsWith T, bench := s.cal.bench.map f } }

/-! ### Injection symbols (R226) -/

/-- An OFF symbol is spent in Receive if it follows a TX run (Table 6-6 and R147): marks each code, the state before the first given. -/
def markOff : Bool → List Nat → List Bool
  | _, [] => []
  | inRx, c :: l => (decide (c = 0) && inRx) :: markOff (if c = 0 then inRx else txCode c) l

/-- A pattern has OFF symbols that are spent in Receive, in slots that are not nap slots; else its RX symbols take their place, as they
do under FDD (R226). -/
def State.offMode (s : State) (T : Int) : Bool :=
  let per := s.at_ T 0x2020 3
  let w := s.at_ T 0x2020 4
  let l := (List.range per).flatMap (fun j =>
    let nap := bit (s.at_ T 0x5040 6) j || (decide (s.at_ T 0x5040 5 = 1) && decide (bits (domWord w 40 j) 0 28 = 0))
    (List.range 14).map (fun k => if nap then 4 else bits (domWord w 40 j) (2 * k) 2))
  decide (s.at_ T 0x2020 1 ≠ 1) && (markOff false (l ++ l)).any id

/-- The symbol at the RX balls at an instant is an injection symbol for a path: in phase B of start-up calibration every RX symbol; else an
OFF symbol with the path's RX side in Receive, or an RX symbol (R216, R226). -/
def State.injAt (s : State) (X : Int) (n : Nat) : Bool :=
  let T := X - ((s.a 0x1209 0 * tPs : Nat) : Int)
  let c := s.codeAt T
  if s.cal.step ≠ 9 ∨ s.offMode T = false then rxCode c
  else decide (c = 0) && decide (s.pinAt X .radio (s.rxLo T (tileOf n)) = 3 ∨ s.pinAt X .radio (s.rxLo T (tileOf n)) = 5)

/-- Every symbol that an interval meets satisfies a condition, judged at the interval's start and at each symbol's. -/
def State.allSyms (s : State) (p : Int → Bool) : Nat → Int → Int → Bool
  | 0, _, _ => true
  | f + 1, T, T1 => if T1 ≤ T then true else p T && s.allSyms p f (s.symSpan T).2 T1

/-! ### Element selections (Table 9-1) -/

/-- An element is selected for the resistor as last measured: row of Table 9-1 (1 TX DAC of a path, 2 current output of an AUX channel,
3 RX ADC of a path, 4 ADC of an observation receiver, 5 housekeeping ADC, 6 termination of a lane) and its place (R214). -/
def State.select (s : State) (row place : Nat) : State :=
  { s with cal := { s.cal with sel := smSet none s.cal.sel (256 * row + place) s.cal.trim } }

/-- The wake from Dormant is over once calibration is complete and time is locked (Table 16-11). -/
def State.wakeSettled (s : State) : State :=
  if s.power.settling ∧ s.power.wakeStep = 0 ∧ s.cal.step = 9 ∧ s.timeLocked = true then
    { s with power := { s.power with settling := false, brief := false } }
  else s

/-! ### The domains -/

/-- DOMAIN_STATE of a domain (Table 16-4). -/
def State.domState (s : State) (d : Nat) : Nat := s.o 0x5022 (d + 1)
def State.setDom (s : State) (d v : Nat) : State := s.seto 0x5022 (d + 1) v
/-- A domain is powered and working. -/
def State.domOn (s : State) (d : Nat) : Bool := decide (s.domState d = 1)

/-- The gain G of a slot that starts at an instant (R86): N_tx paths enabled for transmit, N_b of them benched. -/
def State.eirpGain (s : State) (T : Int) : Nat × Bool :=
  let ntx := (allPaths.filter (s.txEnAct T)).length
  let nb := (allPaths.filter (fun n => s.txEnAct T n && s.benched T n)).length
  if s.at_ T 0x3030 6 = 0 ∨ nb = 0 ∨ ntx = nb then (65536, false)
  else
    let den := ntx - nb
    let q := 65536 * ntx / den
    let r := 65536 * ntx - q * den
    let q' := if 2 * r > den ∨ (2 * r = den ∧ q % 2 = 1) then q + 1 else q
    let m := s.at_ T 0x3030 7
    if q' > m then (m, true) else (q', false)

end Sys2Proof.Machine
end

