-- ==== Sys2Proof/Machine/Engine.lean ====
section
/-!
DEFINITION. The predistortion engine: term sets, banks and the polynomial (R189 to R194).
-/

namespace Sys2Proof.Machine

/-! ### Terms and banks -/

/-- Descriptor j of a term set, coefficient word j of 64 (R191, R194). -/
def descOf (v j : Nat) : Nat := bits v (16 * (63 - j)) 16
def coefOf (v j : Nat) : Nat := bits v (32 * (63 - j)) 32

/-- The fields of a term descriptor (Table 8-1). -/
def descValid (d : Nat) : Bool := bit d 15
def descOrder (d : Nat) : Nat := bits d 12 3
def descM (d : Nat) : Int := toInt 5 (bits d 7 5)
def descL (d : Nat) : Int := toInt 5 (bits d 2 5)

/-- A valid descriptor is well formed (R191). -/
def descOk (d : Nat) : Bool :=
  decide (descOrder d ≠ 0) && decide (-8 ≤ descM d) && decide (descM d ≤ 8) && decide (-8 ≤ descL d) &&
  decide (descL d ≤ 8) && !(descOrder d == 1 && descL d != 0)

/-- The valid descriptors of a term set, without their reserved bits. -/
def termList (v : Nat) : List Nat := ((List.range 64).map (fun j => descOf v j / 4 * 4)).filter descValid

/-- A term set that R191 accepts. -/
def termsOk (v : Nat) : Bool := (termList v).all descOk && decide (termList v).Nodup

/-- A bank's value: its header word and its coefficients. -/
def State.bank (s : State) (n b : Nat) : Nat := s.o (0x4010 + b) (n + 1)
def bankHead (v : Nat) : Nat := v / 2 ^ 2048
def bankCoefs (v : Nat) : Nat := v % 2 ^ 2048

/-- The engine is on (R193). -/
def State.engineOn (s : State) (n : Nat) : Bool := s.granted .dpdEngine n
/-- DPD_ACTIVE_BANK. -/
def State.activeBank (s : State) (n : Nat) : Nat := s.o 0x4104 (n + 1)

/-! ### The polynomial (R189, R190) -/

/-- Integer square root, rounded down, from `n` bits downward. -/
def isqrtFrom (v : Nat) : Nat → Nat → Nat
  | 0, r => r
  | n + 1, r => let q := r + 2 ^ n; isqrtFrom v n (if q * q ≤ v then q else r)

/-- Integer square root of a number below 2^320. -/
def isqrt (v : Nat) : Nat := isqrtFrom v 160 0

/-- The terms an engine sums: descriptor and coefficient of every valid term of a term set, from a bank's coefficients. -/
def engTerms (terms coefs : Nat) : List (Nat × Int × Int) :=
  (List.range 64).filterMap (fun j =>
    let d := descOf terms j / 4 * 4
    let c := coefOf coefs j
    if descValid d then some (d, toInt 16 (bits c 16 16), toInt 16 (bits c 0 16)) else none)

/-- |x|^e of a sample in units of 2^-15, scaled by 2^(60 e): exact for an even power, else to 2^-60. -/
def magPow (x : Cx2) (e : Nat) : Int :=
  let m2 := (cAbs2 x).toNat
  if e % 2 = 0 then ((m2 ^ (e / 2) * 2 ^ (60 * e) : Nat) : Int)
  else ((isqrt (m2 * 2 ^ 120) * m2 ^ (e / 2) * 2 ^ (60 * (e - 1)) : Nat) : Int)

/-- y × 2^15 of R189 at sample n, scaled by 2^464. -/
def engExact (ts : List (Nat × Int × Int)) (x : Sig) (n : Int) : Cx2 :=
  cSum (ts.map (fun t =>
    let e := descOrder t.1 - 1
    let i := n - descM t.1
    cScale (magPow (x (i - descL t.1)) e * ((2 ^ (75 * (6 - e)) : Nat) : Int)) (cMul t.2 (x i))))

/-- The single term (k 1, m 0, l 0) with c = 1.0, which gives y = x bit-exactly (R190). -/
def engIdentity (ts : List (Nat × Int × Int)) : Bool := decide (ts = [(2 ^ 15 + 2 ^ 12, 16384, 0)])

/-- The sum of |c_i| does not exceed 2.0 (R190). -/
def engTame (ts : List (Nat × Int × Int)) : Bool :=
  decide ((ts.map (fun t => isqrt ((cAbs2 t.2).toNat * 2 ^ 60))).foldl (· + ·) 0 ≤ 2 * 2 ^ 14 * 2 ^ 30)

/-- What the undisclosed widths add at a sample, scaled as the exact value (a free value, assumption 68). -/
def engDev (ts : List (Nat × Int × Int)) (x : Sig) (n : Int) : Cx2 :=
  cScale ((2 ^ 419 : Nat) : Int) (Config.dpdDev ts ((List.range 33).map (fun (i : Nat) => x (n + 16 - (i : Int)))))

/-- Over the N samples from `lo` the deviation is below −72 dB of the output RMS: 10^7.2 times its energy stays below the
output's (R190). -/
def engBound (ts : List (Nat × Int × Int)) (x : Sig) (lo : Int) (N : Nat) : Bool :=
  let sum := fun (f : Int → Cx2) => ((List.range N).map (fun (i : Nat) => cAbs2 (f (lo + (i : Int))))).foldl (· + ·) 0
  decide (15848932 * sum (engDev ts x) < sum (engExact ts x))

/-- The engine's output before its clamp: the exact value and the free deviation, rounded to the nearest, ties to even; the
deviation is left out where R190 does not admit it over the `N` samples from `lo` that make up the symbol. -/
def engOut (ts : List (Nat × Int × Int)) (x : Sig) (lo : Int) (N : Nat) (n : Int) : Cx2 :=
  if engIdentity ts then x n
  else if engTame ts && !engBound ts x lo N then cRound (engExact ts x n) 464
  else cRound (cAdd (engExact ts x n) (engDev ts x n)) 464

end Sys2Proof.Machine
end

