-- ==== Sys2Proof/Machine/TxChain.lean ====
section
/-!
DEFINITION. The downlink from the touchstone to the DAC (R88 to R101, R189 to R193): what every stage puts out at a sample of
air time, from the symbols that the touchstone has fixed.
-/

namespace Sys2Proof.Machine

/-! ### Grids -/

/-- The sample of 491.52 MS/s of air time that holds an instant of the time counter. -/
def State.airSample (s : State) (T : Int) : Int := s.air T / ((tNco : Nat) : Int)
/-- The instant of a sample of 491.52 MS/s of air time. -/
def State.sampleAt (s : State) (j : Int) : Int := s.tAir 0 0 0 + j * ((tNco : Nat) : Int)
/-- Samples of 491.52 MS/s per sample of a carrier's transform (Table 4-6). -/
def perSample (scs : Nat) : Int := if scs = 0 then 8 else 4
/-- N_CP of a symbol (Table 4-6). -/
def nCp (scs k : Nat) : Nat := if scs = 0 then (if k = 0 ∨ k = 7 then 320 else 288) else (if k = 0 then 352 else 288)

/-- TX_BOARD_DELAY and RX_BOARD_DELAY at an instant (R26). -/
def State.txBoardAt (s : State) (T : Int) : Int := ((s.at_ T 0x1208 0 * tPs : Nat) : Int)
def State.rxBoardAt (s : State) (T : Int) : Int := ((s.at_ T 0x1209 0 * tPs : Nat) : Int)

/-! ### What the chains hold -/

/-- Nothing held: built-in or named coefficients, no oscillator, unit corrections, no engine. -/
def ChainCfg.init : ChainCfg := ⟨0, [], [], [], [], []⟩

/-- What the chains held at a sample of air time. -/
def State.cfgAt (s : State) (j : Int) : ChainCfg :=
  ((s.dl.cfgs.filter (fun c => decide (c.at_ ≤ j))).getLast?).getD ChainCfg.init

/-- The coefficients of a branch at an instant: what it keeps, or what its carrier names (R92, R101, R113). -/
def State.branchTaps (s : State) (T : Int) (dir : Nat) (c : ChainCfg) (path car : Nat) : Nat × List Int :=
  let kept := (if dir = 0 then c.keptDl else c.keptUl).find? (fun x => decide (x.path = path ∧ x.car = car))
  let set := match kept with | some x => x.set | none => s.at_ T (carIdx dir car) (if dir = 0 then 7 else 6)
  let v := match kept with | some x => x.taps | none => s.o (if dir = 0 then 0x3020 else 0x3024) set
  (set, if set = 0 then builtinTaps (s.carScs T dir car) (s.carNrb T dir car) else userTaps v)

/-- Frequency in mHz of an oscillator: CAR_F0 less that of the LO that feeds the tile (R93, R111). -/
def State.ncoFreq (s : State) (T : Int) (dir k car : Nat) : Int :=
  ((s.at_ T (carIdx dir car) 4 * 1000000 : Nat) : Int) -
    ((s.o (0x2400 + (if dir = 0 then s.txLo T k else s.rxLo T k)) 0x0C : Nat) : Int)

/-- Key of an oscillator. -/
def ncoKey (dir k car : Nat) : Nat := 48 * dir + 4 * k + car

/-- Phase of an oscillator at a sample of air time, in 2^-32 cycle: continuous from where it was noted (R93). -/
def ChainCfg.phase (c : ChainCfg) (key : Nat) (j : Int) : Nat :=
  match c.nco.find? (fun x => decide (x.1 = key)) with
  | some x => turn (((x.2.2 : Nat) : Int) + x.2.1 * (j - c.at_))
  | none => 0

/-- The oscillators of active carriers at a boundary, each going on from its phase, or starting at one the spec leaves open. -/
def State.ncoNow (s : State) (j : Int) : List (Nat × Int × Nat) :=
  let T := s.time_
  let c := s.cfgAt j
  [0, 1].flatMap (fun dir => ((List.range 4).filter (fun car => s.carActive T dir car)).flatMap (fun car =>
    (List.range 12).map (fun k =>
      let q := ncoKey dir k car
      let p := match c.nco.find? (fun x => decide (x.1 = q)) with
        | some _ => c.phase q j
        | none => Config.ncoStart dir k car j.toNat
      (q, ncoWord (s.ncoFreq T dir k car), p))))

/-- The engines that apply a bank now: granted, with an active bank (R193, R196). -/
def State.engNow (s : State) : List (Nat × List (Nat × Int × Int)) :=
  (allPaths.filter (fun n => s.engineOn n && decide (s.activeBank n ≠ 0xFF))).map (fun n =>
    (n, engTerms (s.a 0x4003 (n + 1)) (bankCoefs (s.bank n (s.activeBank n % 8)))))

/-- What the chains hold at a boundary, among what they held in the last millisecond: the last note, if nothing has changed, else
a new one. -/
def State.cfgsNow (s : State) : List ChainCfg :=
  let j := s.airSample s.time_
  let c : ChainCfg := ⟨j, s.dl.chfOld, s.ul.chfOld, s.ncoNow j, s.cal.corr, s.engNow⟩
  let old := s.cfgAt j
  if s.dl.cfgs ≠ [] ∧ old = { c with at_ := old.at_, nco := old.nco } ∧
      old.nco.map (fun x => (x.1, x.2.1)) = c.nco.map (fun x => (x.1, x.2.1)) then s.dl.cfgs
  else
    let keep := s.dl.cfgs.filter (fun x => decide (x.at_ ≠ j))
    let gone := keep.filter (fun x => decide (x.at_ + 491520 < j))
    let last := match gone.getLast? with | some g => [g] | none => []
    last ++ keep.filter (fun x => decide (j ≤ x.at_ + 491520)) ++ [c]

/-- Notes at a boundary what the chains hold from it on. Without an active carrier there is nothing to note. -/
def State.chainMark (s : State) : State :=
  if !s.anyCar s.time_ && decide (s.dl.cfgs = []) then s else { s with dl := { s.dl with cfgs := s.cfgsNow } }

/-- A calibration correction of RECIP for a carrier of a path: 0 downlink, 1 uplink (R228); 1.0 until there is one. -/
def ChainCfg.corrOf (c : ChainCfg) (dir path car : Nat) : Cx2 :=
  match c.corr.find? (fun x => decide (x.1 = 8 * path + 5)) with
  | some x => if x.2.length < 4 * car + 5 then oneQ14
      else (x.2.getD (4 * car + 2 * dir) 0, x.2.getD (4 * car + 2 * dir + 1) 0)
  | none => oneQ14

/-! ### From the touchstone to the cyclic prefix (R88 to R91) -/

/-- Samples at 122.88 MS/s from the start of the subframe to the end of a symbol's cyclic prefix (R89). -/
def cpEnd (scs : Nat) (n : Int) (k : Nat) : Nat :=
  (if scs = 0 then 0 else (n % 2).toNat * 61440) + symOffset scs k + nCp scs k * (if scs = 0 then 2 else 1)

/-- The phase term of a carrier's symbol, in 2^-16 cycle; none with CAR_PHASE_COMP 0 (R89). -/
def State.phaseOf (s : State) (T : Int) (dir car scs : Nat) (n : Int) (k : Nat) : Option Nat :=
  if s.at_ T (carIdx dir car) (if dir = 0 then 6 else 5) = 1 then
    some (phase16 (s.at_ T (carIdx dir car) 4) (cpEnd scs n k)) else none

/-- A bin after phase compensation, before saturation to 20 bits (R89). -/
def compRaw (ph : Option Nat) (v : Cx2) : Cx2 := match ph with | some p => phaseTurn (-1) p v | none => v

/-- Start of a symbol in a carrier's own samples. -/
def DlSeg.start (g : DlSeg) : Int := g.at_ / perSample g.scs
/-- Samples of a symbol at its carrier's rate, cyclic prefix included. -/
def DlSeg.len (g : DlSeg) : Nat := nCp g.scs g.sym + 4096
/-- The instant of a symbol's start. -/
def State.segT (s : State) (g : DlSeg) : Int := s.sampleAt g.at_

/-- The bins of a path at the input of the inverse transform (R88). -/
def State.segBins (s : State) (g : DlSeg) (path : Nat) : List (Nat × Cx2) :=
  let ph := s.phaseOf (s.segT g) 0 g.car g.scs g.slot g.sym
  (g.b.filter (fun x => decide (x.1 / 4096 = path))).map (fun x => (binOf g.nrb (x.1 % 4096), cSat 20 (compRaw ph x.2)))

/-- x[n] of a path's symbol before IFFT_SHIFT (R90). -/
def State.ifftRaw (s : State) (g : DlSeg) (path n : Nat) : Cx2 :=
  let x := s.segBins g path
  if x = [] then (0, 0) else dft 1 x n

/-- IFFT_SHIFT of a symbol. -/
def State.ifftShift (s : State) (g : DlSeg) : Nat := s.at_ (s.segT g) 0x3030 2

/-- The inverse transform's output (R90). -/
def State.ifftOut (s : State) (g : DlSeg) (path n : Nat) : Cx2 := outSat 18 (s.ifftShift g) (s.ifftRaw g path n)

/-- The symbol of a carrier that holds a sample of 491.52 MS/s. -/
def State.segAt (s : State) (car : Nat) (j : Int) : Option DlSeg :=
  s.dl.segs.find? (fun g => decide (g.car = car ∧ g.at_ ≤ j ∧ j < g.at_ + perSample g.scs * g.len))

/-- Output of the CP stage: a copy of the last N_CP samples, then the transform (R91). -/
def State.cpOut (s : State) (path car scs : Nat) : Sig := fun i =>
  match s.segAt car (i * perSample scs) with
  | some g =>
    if g.scs ≠ scs then (0, 0)
    else
      let o := (i - g.start).toNat
      let cp := nCp g.scs g.sym
      if o < cp then s.ifftOut g path (4096 - cp + o) else s.ifftOut g path (o - cp)
  | none => (0, 0)

/-! ### The carrier stage (R92, R93) -/

/-- A shift of 0x3030 in force at a sample of 491.52 MS/s. -/
def State.shiftAt (s : State) (j : Int) (sub : Nat) : Nat := s.at_ (s.sampleAt j) 0x3030 sub

/-- Channel filter before rounding, at its output's rate. -/
def State.chfRaw (s : State) (path car scs : Nat) (m : Int) : Cx2 :=
  let j := m * perSample scs / 2
  chUp (s.branchTaps (s.sampleAt j) 0 (s.cfgAt j) path car).2 (s.cpOut path car scs) m
/-- Channel filter. -/
def State.chfOut (s : State) (path car scs : Nat) : Sig := fun m =>
  outSat 18 (17 + s.shiftAt (m * perSample scs / 2) 3) (s.chfRaw path car scs m)

/-- The half-band stages: 245.76 to 491.52 MS/s, at 15 kHz after 122.88 to 245.76 MS/s. -/
def State.hb1Raw (s : State) (path car scs : Nat) (m : Int) : Cx2 := hbUp (Config.hbTap 0) 6 (s.chfOut path car scs) m
def State.hb1Out (s : State) (path car scs : Nat) : Sig := fun m => outSat 18 17 (s.hb1Raw path car scs m)
def State.hb2Raw (s : State) (path car scs : Nat) (m : Int) : Cx2 := hbUp (Config.hbTap 0) 6 (s.hb1Out path car scs) m
def State.hb2Out (s : State) (path car scs : Nat) : Sig := fun m => outSat 18 17 (s.hb2Raw path car scs m)
def State.hbOut (s : State) (path car scs : Nat) : Sig := if scs = 0 then s.hb2Out path car scs else s.hb1Out path car scs

/-- Oscillator and calibration correction before rounding. -/
def State.ncoRaw (s : State) (path car scs : Nat) (j : Int) : Cx2 :=
  let c := s.cfgAt j
  ncoMix 1 (c.phase (ncoKey 0 (tileOf path) car) j) (c.corrOf 0 path car) (s.hbOut path car scs j)

/-- A carrier's branch is suppressed at an instant, or the whole of a path (R99, R100). -/
def suppAt (l : List Supp) (T : Int) (path car : Nat) : Bool :=
  l.any (fun x => decide (x.from_ ≤ T) && decide (T < x.until_) && decide (x.path = path ∨ x.path = 255) && decide (x.car = car))
def State.branchSupp (s : State) (T : Int) (path car : Nat) : Bool := suppAt s.dl.supp T path car
def State.pathSupp (s : State) (T : Int) (path : Nat) : Bool := suppAt s.dl.supp T path 255

/-- A carrier's branch ahead of the combiner: forced to zero while it is suppressed (R100). -/
def State.branchOut (s : State) (path car : Nat) : Sig := fun j =>
  let T := s.sampleAt j
  if s.branchSupp T path car then (0, 0)
  else outSat 18 29 (s.ncoRaw path car (s.carScs T 0 car) j)

/-! ### Combiner, half-band and resampler (R94, R95) -/

/-- The combiner before rounding: the sum over the enabled carriers, whose tails drain after they stop (Table 4-9). -/
def State.combRaw (s : State) (path : Nat) (j : Int) : Cx2 :=
  cSum ((List.range 4).map (fun car => cScale ((s.at_ (s.sampleAt j) (carIdx 0 car) 5 : Nat) : Int) (s.branchOut path car j)))
def State.combOut (s : State) (path : Nat) : Sig := fun j => outSat 20 (12 + s.shiftAt j 4) (s.combRaw path j)

/-- The path half-band, at 983.04 MS/s. -/
def State.half2Raw (s : State) (path : Nat) (m : Int) : Cx2 := hbUp (Config.hbTap 1) 8 (s.combOut path) m
def State.half2Out (s : State) (path : Nat) : Sig := fun m => outSat 20 17 (s.half2Raw path m)

/-- The advance of the downlink resampler at each output: 983.04 MHz over FCONV, with the trim of R14 (R95). -/
def State.rsInc (s : State) : Int := rsAdvance 98304 (fconvHz (s.o 0x2420 6) / 10000) s.clk.trim
/-- Position of output m, in 2^-40 of a sample at 983.04 MS/s of air time. -/
def State.rsPos (s : State) (m : Int) : Int := s.dl.rsBase + m * s.rsInc
/-- The sample of 491.52 MS/s of air time that output m lies in, and the first output at or after a sample. -/
def State.rsSample (s : State) (m : Int) : Int := s.rsPos m / ((2 ^ 41 : Nat) : Int)
def State.rsFirst (s : State) (j : Int) : Int := -((s.dl.rsBase - j * ((2 ^ 41 : Nat) : Int)) / s.rsInc)

/-- The resampler before rounding, from its structure. -/
def State.rsRaw (s : State) (path : Nat) (m : Int) : Cx2 := rsOut (Config.rsTap 0) (s.half2Out path) (s.rsPos m)
/-- RS_SHIFT at an output. -/
def State.rsShift (s : State) (m : Int) : Nat := 17 + s.shiftAt (s.rsSample m) 5
/-- The resampler's output, from its structure. -/
def State.rsStruct (s : State) (path : Nat) (m : Int) : Cx2 := outSat 16 (s.rsShift m) (s.rsRaw path m)

/-! ### The figure of R97 -/

/-- Log2 of the gain from a bin to the 16-bit resampler output, as numerator shift and denominator shift. -/
def State.idealDown (s : State) (g : DlSeg) (j : Int) : Nat :=
  s.ifftShift g + s.shiftAt j 3 + 12 + s.shiftAt j 4 + s.shiftAt j 5 + 96 + 96 + 14

/-- The signal a symbol stands for at a resampler output, without the errors of the chain and scaled by 2 to the power of
`idealDown`: every subcarrier turned to the output's position, shifted by the oscillator, corrected and times CAR_GAIN. -/
def State.idealRaw (s : State) (g : DlSeg) (path : Nat) (m : Int) : Cx2 :=
  let pos := s.rsPos m
  let j := s.rsSample m
  let c := s.cfgAt j
  let cyc : Int := ((2 ^ 41 : Nat) : Int) * perSample g.scs
  -- 2^-32 cycle of subcarrier f at the position: f × time since the prefix / 4,096 samples
  let since := pos - g.at_ * ((2 ^ 41 : Nat) : Int) - ((nCp g.scs g.sym : Nat) : Int) * cyc
  let sum := cSum ((s.segBins g path).map (fun x =>
    let f : Int := if x.1 < 2048 then x.1 else (x.1 : Int) - 4096
    cMul x.2 (cis (turn (f * since * (2 ^ 20 : Nat) / cyc)))))
  let osc := match c.nco.find? (fun x => decide (x.1 = ncoKey 0 (tileOf path) g.car)) with
    | some x => turn (((x.2.2 : Nat) : Int) + x.2.1 * (pos - c.at_ * ((2 ^ 41 : Nat) : Int)) / ((2 ^ 41 : Nat) : Int))
    | none => 0
  cScale ((s.at_ (s.sampleAt j) (carIdx 0 g.car) 5 : Nat) : Int) (cMul (cMul sum (cis osc)) (c.corrOf 0 path g.car))

/-- Resampler outputs of a symbol's useful part: the first, and how many. -/
def State.useful (s : State) (g : DlSeg) : Int × Nat :=
  let a := s.rsFirst (g.at_ + ((nCp g.scs g.sym : Nat) : Int) * perSample g.scs)
  let b := s.rsFirst (g.at_ + ((g.len : Nat) : Int) * perSample g.scs)
  (a, (b - a).toNat)

/-- One carrier alone is on air around a symbol, with the built-in set (R97). -/
def State.lone (s : State) (g : DlSeg) (path : Nat) : Bool :=
  let T := s.segT g
  ((List.range 4).filter (s.carActive T 0)).length == 1 && s.carActive T 0 g.car &&
  decide ((s.branchTaps T 0 (s.cfgAt g.at_) path g.car).1 = 0)

/-- The chain's error over a symbol's useful part is below −60 dB of the signal: 10^6 times its energy stays below the
signal's (R97). -/
def State.cleanChain (s : State) (g : DlSeg) (path : Nat) : Bool :=
  let u := s.useful g
  let k := fun (m : Int) => s.idealDown g (s.rsSample m)
  let sum := fun (f : Int → Int) => ((List.range u.2).map (fun (i : Nat) => f (u.1 + (i : Int)))).foldl (· + ·) 0
  decide (1000000 * sum (fun m => cAbs2 (cAdd (cScale ((2 ^ k m : Nat) : Int) (s.rsStruct path m)) (cScale (-1) (s.idealRaw g path m)))) <
    sum (fun m => cAbs2 (s.idealRaw g path m)))

/-- The resampler's output. The taps are undisclosed, so nothing in its structure holds the figure of R97: where one carrier is on
air alone with the built-in set and the structure would miss the figure, the output is the signal itself (assumption 68). -/
def State.rsOutput (s : State) (path : Nat) : Sig := fun m =>
  let j := s.rsSample m
  let y := s.rsStruct path m
  match (List.range 4).findSome? (fun c => s.segAt c j) with
  | some g =>
    if s.lone g path && !s.pathSupp (s.sampleAt j) path && !s.branchSupp (s.sampleAt j) path g.car && !s.cleanChain g path then
      cSat 16 (cRound (s.idealRaw g path m) (s.idealDown g j))
    else y
  | none => y

/-! ### Predistortion and the DAC (R96, R189 to R193) -/

/-- The terms of a path's engine at a sample of air time; none with predistortion bypassed. -/
def State.engAt (s : State) (j : Int) (path : Nat) : Option (List (Nat × Int × Int)) :=
  ((s.cfgAt j).eng.find? (fun x => decide (x.1 = path))).map (fun x => x.2)

/-- The engine's output before its clamp, or the resampler's with predistortion bypassed (R96, R193). -/
def State.dpdRaw (s : State) (path : Nat) (m : Int) : Cx2 :=
  let j := s.rsSample m
  match s.engAt j path with
  | none => s.rsOutput path m
  | some ts =>
    match (List.range 4).findSome? (fun c => s.segAt c j) with
    | some g => let u := s.useful g; engOut ts (s.rsOutput path) u.1 u.2 m
    | none => engOut ts (s.rsOutput path) m 1 m
def State.dpdOut (s : State) (path : Nat) (m : Int) : Cx2 := cSat 16 (s.dpdRaw path m)

/-- The path is in the transmit state at the balls at an instant: its LO domain in state 4 or 5 and its driver unmuted
(Table 6-14, R147). -/
def State.onAir (s : State) (T : Int) (path : Nat) : Bool :=
  let r := s.pinAt T .radio (s.txLo T (tileOf path))
  decide (s.pinAt T .driver path = 1) && decide (r = 4 ∨ r = 5)

/-- The DAC input of output m is forced to zero: the path is benched, suppressed, or not in the transmit state, which a fault or
LATE_LO takes it out of (R96). -/
def State.dacOff (s : State) (path : Nat) (m : Int) : Bool :=
  let T := s.sampleAt (s.rsSample m)
  s.benched T path || s.pathSupp T path || !s.onAir (T - s.txBoardAt T) path

/-- The DAC input: 14-bit I and Q (R96). -/
def State.dacIn (s : State) (path : Nat) (m : Int) : Cx2 :=
  if s.dacOff path m then (0, 0) else outSat 14 2 (s.dpdOut path m)

/-- A word of a DAC_IN capture: I, Q, and SUPPRESSED (Table 4-11). -/
def State.dacWord (s : State) (path : Nat) (m : Int) : List Nat :=
  let v := s.dacIn path m
  bytesLE 4 (ofInt 14 v.1 * 2 ^ 18 + ofInt 14 v.2 * 2 ^ 4 + b2n (s.pathSupp (s.sampleAt (s.rsSample m)) path))

/-! ### Saturations (R77) -/

/-- How many numbers i of [⌈lo/d⌉, ⌈hi/d⌉) satisfy p. -/
def countIn (lo hi d : Int) (p : Int → Bool) : Nat :=
  let a := -(-lo / d)
  let b := -(-hi / d)
  ((List.range (b - a).toNat).filter (fun (i : Nat) => p (a + (i : Int)))).length

/-- Samples of a path's branch that the carrier stage clamps in a span of samples at 491.52 MS/s. -/
def State.carSat (s : State) (path car : Nat) (lo hi : Int) : Nat :=
  let scs := s.carScs (s.sampleAt lo) 0 car
  let d := perSample scs
  countIn lo hi (d / 2) (fun m => outOvf 18 (17 + s.shiftAt (m * d / 2) 3) (s.chfRaw path car scs m)) +
  countIn lo hi (d / 4) (fun m => outOvf 18 17 (s.hb1Raw path car scs m)) +
  (if scs = 0 then countIn lo hi 1 (fun m => outOvf 18 17 (s.hb2Raw path car scs m)) else 0) +
  countIn lo hi 1 (fun j => !s.branchSupp (s.sampleAt j) path car && outOvf 18 29 (s.ncoRaw path car scs j))

/-- Samples of a path that the stages behind the branches clamp, predistortion apart. -/
def State.pathSat (s : State) (path : Nat) (lo hi : Int) : Nat :=
  let a := s.rsFirst lo
  let b := s.rsFirst hi
  countIn lo hi 1 (fun j => outOvf 20 (12 + s.shiftAt j 4) (s.combRaw path j)) +
  countIn (2 * lo) (2 * hi) 1 (fun m => outOvf 20 17 (s.half2Raw path m)) +
  countIn a b 1 (fun m => outOvf 16 (s.rsShift m) (s.rsRaw path m)) +
  countIn a b 1 (fun m => !s.dacOff path m && outOvf 14 2 (s.dpdOut path m))

/-- Samples that a path's engine clamps (R189). -/
def State.engSat (s : State) (path : Nat) (lo hi : Int) : Nat :=
  countIn (s.rsFirst lo) (s.rsFirst hi) 1 (fun m => (s.engAt (s.rsSample m) path).isSome && cOvf 16 (s.dpdRaw path m))

/-- Samples of a symbol that the inverse transform clamps, on one path. -/
def State.segSat (s : State) (g : DlSeg) (path : Nat) : Nat :=
  ((List.range 4096).filter (fun n => outOvf 18 (s.ifftShift g) (s.ifftRaw g path n))).length

/-- Counts the saturations of the samples that have passed since the last count (R77; when they are counted is a DESIGN CHOICE,
assumption 68), and lets symbols of more than a millisecond go. -/
def State.countSats (s : State) : State :=
  if s.dl.segs = [] then s
  else
    let j := s.airSample s.time_
    let lo := s.dl.satTo
    let sum := fun (f : Nat → Nat) => listSum (allPaths.map f)
    let ifft := listSum ((s.dl.segs.filter (fun g => decide (lo ≤ g.at_) && decide (g.at_ < j))).map (fun g => sum (s.segSat g)))
    let car := sum (fun p => listSum ((List.range 4).map (fun c => s.carSat p c lo j)))
    let path := sum (fun p => s.pathSat p lo j)
    let eng := sum (fun p => s.engSat p lo j)
    let s1 := ((s.bump 0x3031 8 ifft).bump 0x3031 9 car).bump 0x3031 0x0A path
    let s2 := if ifft + car + path = 0 then s1 else s1.slotAlarm Al.dlSat 0
    let s3 := s2.bump 0x4110 6 eng
    let s4 := if eng = 0 then s3 else s3.slotAlarm Al.dpdSat 0
    { s4 with dl := { s4.dl with satTo := j, segs := s4.dl.segs.filter (fun g => decide (j ≤ g.at_ + 491520)) } }

/-- A change of FCONV or of the trim: the accumulator goes on from the output that is due (R95, R110). `s0` is the state before. -/
def State.rsRebase (s s0 : State) : State :=
  if s.rsInc = s0.rsInc then s
  else { s with dl := { s.dl with rsBase := s0.rsPos (s0.rsFirst (s0.airSample s0.time_)) } }

end Sys2Proof.Machine
end

