-- ==== Sys2Proof/Machine/RxChain.lean ====
section
/-!
DEFINITION. The uplink from the ADC to the corrected bins of the transform (R108 to R113). The ADC's codes of a symbol are the
operand of the symbol's end: a path, the number of its first sample, and its samples, I and Q of 12 bits.
-/

namespace Sys2Proof.Machine

/-- The ADC codes that come with a symbol's end: path, number of the first sample, samples. -/
abbrev AdcCodes := List (Nat × Nat × List (Int × Int))

/-- The sample of a path by its number; zero where the operand holds none. A code is 12 bits (Table 5-1). -/
def adcCode (l : AdcCodes) (path : Nat) (i : Int) : Cx2 :=
  match l.find? (fun x => decide (x.1 = path)) with
  | some x => if i < ((x.2.1 : Nat) : Int) then (0, 0) else cSat 12 (x.2.2.getD (i - ((x.2.1 : Nat) : Int)).toNat (0, 0))
  | none => (0, 0)

/-- A path has codes that are not zero. -/
def adcHas (l : AdcCodes) (path : Nat) : Bool := l.any (fun x => decide (x.1 = path) && x.2.2.any (fun v => v != (0, 0)))

/-! ### Correction (R109) -/

/-- The values of an assay in force on a path: 1 ADC_SPARE, 4 RX_IQ (R227). -/
def ChainCfg.assay (c : ChainCfg) (path a : Nat) : List Int :=
  match c.corr.find? (fun x => decide (x.1 = 8 * path + a)) with | some x => x.2 | none => []

/-- Interleave, DC and I/Q correction before its clamp (Table 5-1): the 12-bit code stands in [15:4]; the first four values of
RX_IQ are the Q2.14 coefficients of I on I, Q on I, I on Q and Q on Q and the next two the DC terms, 1.0 and 0 until there is a
result; the interleave corrections that ADC_SPARE left hold until the path's next return (R109), and what they add to a sample is
not disclosed. DESIGN CHOICE, assumption 68. -/
def ChainCfg.rxFix (c : ChainCfg) (path : Nat) (i : Int) (v : Cx2) : Cx2 :=
  let q := c.assay path 4
  let k := fun (n : Nat) (d : Int) => q.getD n d
  let u := cAdd (cScale 16 v) (Config.ilvFix (c.assay path 1) i v)
  (roundHE (k 0 16384 * u.1 + k 1 0 * u.2) 14 + k 4 0, roundHE (k 2 0 * u.1 + k 3 16384 * u.2) 14 + k 5 0)

/-! ### Resampler, oscillator, half-bands, channel filter (R110, R111) -/

/-- The advance of the uplink resampler at each output: FCONV over twice 491.52 MHz, less the trim (R110). -/
def State.ulInc (s : State) : Int := rsAdvance (fconvHz (s.o 0x2420 6) / 10000) 98304 (-s.clk.trim)

/-- RX_BOARD_DELAY in 2^-40 of an ADC sample, to the nearest (R112). -/
def State.rxDelay (s : State) (T : Int) : Int :=
  let d : Nat := 2 * 10 ^ 12
  (((2 ^ 40 * s.at_ T 0x1209 0 * fconvHz (s.o 0x2420 6) + d / 2) / d : Nat) : Int)

/-- Position of output j, a sample of 491.52 MS/s of air time at the reference plane, in 2^-40 of an ADC sample. -/
def State.ulPos (s : State) (j : Int) : Int := s.ul.rsBase.2 + (j - s.ul.rsBase.1) * s.ulInc + s.rxDelay (s.sampleAt j)

/-- A shift of 0x3034 in force at a sample of 491.52 MS/s. -/
def State.ulShiftAt (s : State) (j : Int) (sub : Nat) : Nat := s.at_ (s.sampleAt j) 0x3034 sub

/-- The corrected samples of a path; the correction in force is that of the symbol that starts at sample j0. -/
def State.rxCorr (s : State) (l : AdcCodes) (j0 : Int) (path : Nat) : Sig := fun i =>
  cSat 16 ((s.cfgAt j0).rxFix path i (adcCode l path i))
/-- The fractional resampler. -/
def State.ulRsRaw (s : State) (l : AdcCodes) (j0 : Int) (path : Nat) (j : Int) : Cx2 :=
  rsOut (Config.rsTap 1) (s.rxCorr l j0 path) (s.ulPos j)
def State.ulRsOut (s : State) (l : AdcCodes) (j0 : Int) (path : Nat) : Sig := fun j =>
  outSat 18 (17 + s.ulShiftAt j 1) (s.ulRsRaw l j0 path j)

/-- Oscillator and calibration correction of a carrier. -/
def State.ulNcoRaw (s : State) (l : AdcCodes) (j0 : Int) (path car : Nat) (j : Int) : Cx2 :=
  let c := s.cfgAt j0
  ncoMix (-1) (c.phase (ncoKey 1 (tileOf path) car) j) (c.corrOf 1 path car) (s.ulRsOut l j0 path j)
def State.ulNcoOut (s : State) (l : AdcCodes) (j0 : Int) (path car : Nat) : Sig := fun j =>
  outSat 18 29 (s.ulNcoRaw l j0 path car j)

/-- The half-bands to 245.76 MS/s, and at 15 kHz to 122.88 MS/s. -/
def State.ulHb1Raw (s : State) (l : AdcCodes) (j0 : Int) (path car : Nat) (m : Int) : Cx2 :=
  hbDown (Config.hbTap 2) 6 (s.ulNcoOut l j0 path car) m
def State.ulHb1Out (s : State) (l : AdcCodes) (j0 : Int) (path car : Nat) : Sig := fun m =>
  outSat 18 17 (s.ulHb1Raw l j0 path car m)
def State.ulHb2Raw (s : State) (l : AdcCodes) (j0 : Int) (path car : Nat) (m : Int) : Cx2 :=
  hbDown (Config.hbTap 2) 6 (s.ulHb1Out l j0 path car) m
def State.ulHbOut (s : State) (l : AdcCodes) (j0 : Int) (path car scs : Nat) : Sig := fun m =>
  if scs = 0 then outSat 18 17 (s.ulHb2Raw l j0 path car m) else s.ulHb1Out l j0 path car m

/-- The channel filter, down to the transform's rate. -/
def State.ulChfRaw (s : State) (l : AdcCodes) (j0 : Int) (path car scs : Nat) (i : Int) : Cx2 :=
  chDown (s.branchTaps (s.sampleAt j0) 1 (s.cfgAt j0) path car).2 (s.ulHbOut l j0 path car scs) i
def State.ulChfOut (s : State) (l : AdcCodes) (j0 : Int) (path car scs : Nat) : Sig := fun i =>
  outSat 18 (17 + s.ulShiftAt j0 2) (s.ulChfRaw l j0 path car scs i)

/-! ### The transform and its corrections (R112) -/

/-- The window of a symbol: 4,096 samples from UL_FFT_ADV before the end of the cyclic prefix. -/
def State.ulWindow (s : State) (l : AdcCodes) (j0 : Int) (path car scs k : Nat) : List (Nat × Cx2) :=
  let i0 := j0 / perSample scs + ((nCp scs k : Nat) : Int) - ((s.ulShiftAt j0 7 : Nat) : Int)
  (List.range 4096).map (fun n => (n, s.ulChfOut l j0 path car scs (i0 + (n : Int))))

/-- X of R112 at a bin, before rounding. -/
def ulFftRaw (w : List (Nat × Cx2)) (bin : Nat) : Cx2 := dft (-1) w bin

/-- The advance of the window and the conjugate of the upconversion phase, as one 16-bit phase (R112). -/
def State.ulTurn (s : State) (j0 : Int) (car scs nrb : Nat) (n : Int) (k i : Nat) : Nat :=
  let adv := ((i : Int) - 6 * (nrb : Int)) * ((s.ulShiftAt j0 7 : Nat) : Int) * 16
  let ph := (s.phaseOf (s.sampleAt j0) 1 car scs n k).getD 0
  ((adv + (ph : Int)) % 65536).toNat

/-- A carrier's corrected bin of a path before its clamp, from the transform's output: subcarrier i (R111, R112). -/
def State.ulFixRaw (s : State) (j0 : Int) (car scs nrb : Nat) (n : Int) (k i : Nat) (x : Cx2) : Cx2 :=
  phaseTurn 1 (s.ulTurn j0 car scs nrb n k i) x

/-- The corrected bins of a carrier's symbol on one path; a path without codes has none. -/
def State.ulBins (s : State) (l : AdcCodes) (car scs : Nat) (n : Int) (k path : Nat) : List Cx2 :=
  if !adcHas l path then []
  else
    let T := s.tAir scs n k
    let j0 := s.airSample T
    let nrb := s.carNrb (s.slotStart scs n) 1 car
    let w := s.ulWindow l j0 path car scs k
    (List.range (12 * nrb)).map (fun i =>
      cSat 20 (s.ulFixRaw j0 car scs nrb n k i (outSat 20 (4 + s.ulShiftAt j0 3) (ulFftRaw w (binOf nrb i)))))

/-- The corrected outputs of R112 at a symbol's end, by carrier and path. -/
def State.ulFfts (s : State) (l : AdcCodes) (cs : List (Nat × Nat × Int × Nat)) : List (Nat × Nat × List (Int × Int)) :=
  cs.flatMap (fun c => allPaths.filterMap (fun p =>
    let b := s.ulBins l c.1 c.2.1 c.2.2.1 c.2.2.2 p
    if b = [] then none else some (c.1, p, b)))

/-! ### Saturations of a symbol (Table 5-1) -/

/-- Samples of a symbol that a path's correction and resampler clamp, in its span. -/
def State.ulPathSat (s : State) (l : AdcCodes) (lo hi : Int) (path : Nat) : Nat :=
  let q : Int := ((2 ^ 40 : Nat) : Int)
  countIn (s.ulPos lo / q) (s.ulPos hi / q) 1 (fun i => cOvf 16 ((s.cfgAt lo).rxFix path i (adcCode l path i))) +
  countIn lo hi 1 (fun j => outOvf 18 (17 + s.ulShiftAt j 1) (s.ulRsRaw l lo path j))

/-- Samples of a carrier's branch. -/
def State.ulCarSat (s : State) (l : AdcCodes) (lo hi : Int) (path car scs : Nat) : Nat :=
  countIn lo hi 1 (fun j => outOvf 18 29 (s.ulNcoRaw l lo path car j)) +
  countIn lo hi 2 (fun m => outOvf 18 17 (s.ulHb1Raw l lo path car m)) +
  (if scs = 0 then countIn lo hi 4 (fun m => outOvf 18 17 (s.ulHb2Raw l lo path car m)) else 0) +
  countIn lo hi (perSample scs) (fun i => outOvf 18 (17 + s.ulShiftAt lo 2) (s.ulChfRaw l lo path car scs i))

/-- Values of the transform and of its corrections. -/
def State.ulFftSat (s : State) (l : AdcCodes) (car scs : Nat) (n : Int) (k path : Nat) : Nat :=
  let j0 := s.airSample (s.tAir scs n k)
  let nrb := s.carNrb (s.slotStart scs n) 1 car
  let w := s.ulWindow l j0 path car scs k
  let sh := 4 + s.ulShiftAt j0 3
  ((List.range (12 * nrb)).filter (fun i => outOvf 20 sh (ulFftRaw w (binOf nrb i)))).length +
  ((List.range (12 * nrb)).filter (fun i =>
    cOvf 20 (s.ulFixRaw j0 car scs nrb n k i (outSat 20 sh (ulFftRaw w (binOf nrb i)))))).length

/-- Counts UL_PATH_SAT, UL_CAR_SAT and UL_FFT_SAT of the symbols that end (R108); the samples that two carriers share count once,
over the longest symbol. -/
def State.ulSats (s : State) (l : AdcCodes) (cs : List (Nat × Nat × Int × Nat)) : State :=
  let ps := allPaths.filter (adcHas l)
  if ps = [] then s
  else
    let span := fun (c : Nat × Nat × Int × Nat) =>
      (s.airSample (s.tAir c.2.1 c.2.2.1 c.2.2.2), s.airSample (s.tAirEnd c.2.1 c.2.2.1 c.2.2.2))
    let sum := fun (f : Nat → Nat) => listSum (ps.map f)
    let lo := cs.foldl (fun m c => min m (span c).1) ((cs.head?.map (fun c => (span c).1)).getD 0)
    let hi := (cs.head?.map (fun c => (span c).2)).getD 0
    let path := sum (s.ulPathSat l lo hi)
    let car := listSum (cs.map (fun c => sum (fun p => s.ulCarSat l (span c).1 (span c).2 p c.1 c.2.1)))
    let fft := listSum (cs.map (fun c => sum (s.ulFftSat l c.1 c.2.1 c.2.2.1 c.2.2.2)))
    let s1 := ((s.bump 0x3035 2 fft).bump 0x3035 3 car).bump 0x3035 4 path
    if path + car + fft = 0 then s1 else s1.slotAlarm Al.ulSat 0

/-- A change of FCONV or of the trim: the uplink's resampler goes on from its present output (R110). -/
def State.ulRebase (s s0 : State) : State :=
  if s.ulInc = s0.ulInc then s
  else
    let j := s0.airSample s0.time_
    { s with ul := { s.ul with rsBase := (j, s0.ul.rsBase.2 + (j - s0.ul.rsBase.1) * s0.ulInc) } }

end Sys2Proof.Machine
end

