-- ==== Sys2Proof/Machine/Capture.lean ====
section
/-!
DEFINITION. The capture buffers (R367, Tables 15-3 and 15-4), what the capture points feed into them, and the
counting of DMA triggers (R377).
-/

namespace Sys2Proof.Machine

/-- Index of a channel's objects. -/
def chIdx9 (n : Nat) : Nat := 0x9001 + n

/-- One channel counts an occurrence; the count saturates at 255 (R377). -/
def State.chTrigger (s : State) (n : Nat) : State :=
  if s.o (chIdx9 n) 0x0B < 255 then s.bump (chIdx9 n) 0x0B 1 else s.bump (chIdx9 n) 0x0E 1

/-- A trigger source of Table 15-6 occurs: every channel that names it counts. -/
def State.trigger (s : State) (code : Nat) : State :=
  (List.range 16).foldl (fun s n => if s.o (chIdx9 n) 3 = code then s.chTrigger n else s) s

/-- Buffer CBb and its put through a function. -/
def State.capb (s : State) (b : Nat) : CapBuf := smGet CapBuf.init s.dma.cap b
def State.modCap (s : State) (b : Nat) (f : CapBuf → CapBuf) : State := { s with dma := { s.dma with cap := amod 4 CapBuf.init s.dma.cap b f } }

/-- Address and data bytes of a buffer (R367). -/
def capBase (b : Nat) : Nat := 0x20000000 + b * 0x40000
def capMax : Nat := 262112

/-- Index of a buffer's objects. -/
def capIdx (b : Nat) : Nat := 0x9020 + b

/-- CAP_STATE: an armed buffer is CAPTURING from its first symbol on (R367). -/
def State.capState (s : State) (b : Nat) : Nat :=
  let v := s.o (capIdx b) 8
  if v = 1 ∧ (s.capb b).start ≤ s.time_ then 2 else v

/-- The start of the first symbol at or after an instant, in a numerology. -/
def State.nextSymStart (s : State) (scs : Nat) (T : Int) : Int :=
  let n := s.slotOf scs T
  let c := ([n, n + 1].flatMap (fun m => (List.range 14).map (fun k => s.tAir scs m k))).filter (fun x => decide (T ≤ x))
  c.headD T

/-- The instant an air-time word of Table 14-2 names, from an instant on; none for an invalid triple. -/
def State.wordAt (s : State) (w : Nat) (T : Int) : Option Int :=
  let scs := bits w 12 1
  let a := airWord w
  if tripleOk scs a.sfn a.slot a.sym then some (s.tAir scs (s.nextSlot scs T a.sfn a.slot a.sym) a.sym) else none

/-- Direction of a capture point's carrier. -/
def capDir (point : Nat) : Nat := if point < 3 then 0 else 1

/-- The header words at the first unit: point, air time of the first symbol, carrier, path, stream, and the time at which
its first sample was captured (Table 15-3). -/
def State.capHead (s : State) (b scs : Nat) (n : Int) (k : Nat) (T : Int) : State :=
  let c := s.capb b
  let a := capBase b
  let path := if c.point < 4 then c.path else 127
  let s1 := (s.wr32 a (c.point * 2 ^ 24 + b2n (c.point == 0) * 2 ^ 23)).wr32 (a + 4) (airFields scs n k + c.car * 2 ^ 11 + path)
  let s2 := (s1.wr32 (a + 8) 0).wr32 (a + 12) (c.seq * 2 ^ 16 + (if 4 ≤ c.point then c.stream else 0))
  (s2.wrBytes (a + 16) (bytesBE 12 (time96 T))).wr32 (a + 28) 0

/-- One unit of Table 15-4 into a buffer that captures; a unit that would pass the end stops it with TRUNC. -/
def State.capUnit (s : State) (b scs : Nat) (n : Int) (k : Nat) (l : List Nat) : State :=
  let c := s.capb b
  if c.trunc ∨ c.len ≤ c.units then s
  else if capMax < c.bytes + l.length then (s.modCap b (fun c => { c with trunc := true })).seto (capIdx b) 8 2
  else
    let s1 := if c.units = 0 then s.capHead b scs n k s.time_ else s
    let s2 := (s1.wrBytes (capBase b + 32 + c.bytes) l).wr32 (capBase b + 8) (c.bytes + l.length)
    (s2.modCap b (fun c => { c with units := c.units + 1, bytes := c.bytes + l.length })).seto (capIdx b) 8 2

/-- A capture point yields a unit for a symbol: every buffer armed there from that symbol or an earlier one takes it. -/
def State.capFeed (s : State) (point scs : Nat) (n : Int) (k : Nat) (want : CapBuf → Bool) (data : CapBuf → List Nat) : State :=
  (List.range 4).foldl (fun s b =>
    let c := s.capb b
    if (s.o (capIdx b) 8 = 1 ∨ s.o (capIdx b) 8 = 2) ∧ c.point = point ∧ c.start ≤ s.tAir scs n k ∧ want c = true then
      s.capUnit b scs n k (data c) else s) s

/-- A complex sample as an 8-byte word of Tables 4-11 and 5-12. -/
def capWord (v : Int × Int) : List Nat := bytesLE 4 (ofInt 32 v.2) ++ bytesLE 4 (ofInt 32 v.1)

/-- The instant at which the DAC takes output m: its passage at the balls, 6 DAC cycles and 0.350 ns earlier (R98, Table 4-7). -/
def State.dacTime (s : State) (m : Int) : Int :=
  let T := s.sampleAt 0 + s.rsPos m * ((tNco : Nat) : Int) / ((2 ^ 41 : Nat) : Int)
  T - s.txBoardAt T - ((6 * tSec / fconvHz (s.o 0x2420 6) + 350 * tPs : Nat) : Int)

/-- CAPTURE_COMPLETE of buffer b. A DAC_IN capture takes the DAC's input from the first symbol's first sample on, once the last
of its samples has passed. -/
def State.capDone (s : State) (b : Nat) : State :=
  let c := s.capb b
  if 4 ≤ b ∨ s.capState b ≠ 2 then s
  else
    let scs := s.carScs s.time_ (capDir c.point) c.car
    let n := s.slotOf scs c.start
    let k := symAt scs (c.start - s.slotStart scs n).toNat
    let s1 := if c.point = 2 ∧ c.units = 0 then
        let most := min c.len (capMax / 4)
        let m0 := s.rsFirst (s.airSample c.start)
        if s.dacTime (m0 + (most : Int) - 1) ≤ s.time_ then
          let data := (List.range most).flatMap (fun (i : Nat) => s.dacWord c.path (m0 + (i : Int)))
          let s2 := (s.capHead b scs n k (s.dacTime m0)).wrBytes (capBase b + 32) data
          (s2.wr32 (capBase b + 8) (4 * most)).modCap b (fun c =>
            { c with units := most, bytes := 4 * most, trunc := decide (most < c.len) })
        else s
      else s
    let d := s1.capb b
    if d.units < d.len ∧ d.trunc = false then s
    else
      let seq := (d.seq + 1) % 2 ^ 16
      let a := capBase b
      let h := withBit (withBit (s1.rd32 a) 22 true) 21 d.trunc
      let s3 := (s1.wr32 a h).wr32 (a + 12) (seq * 2 ^ 16 + s1.rd32 (a + 12) % 2 ^ 16)
      ((s3.modCap b (fun c => { c with seq := seq })).seto (capIdx b) 8 3).trigger (0x1B + b)

/-- CAP_ARM (R367). A capture that has all its data completes first (Table 15-8). -/
def State.capArm (s0 : State) (b v : Nat) : Nat × State :=
  let i := capIdx b
  let s := if v = 0 then s0 else s0.capDone b
  if v = 0 then (St.ok, s)
  else if s.capState b = 2 then (St.capBusy, s)
  else
    let car := s.o i 3
    let scs := s.carScs s.time_ (capDir (s.o i 1)) car
    let w := s.o i 5
    let T := if bit w 11 then s.time_ else (s.wordAt w s.time_).getD s.time_
    let seq := (s.capb b).seq
    let s1 := s.modCap b (fun _ => ⟨s.o i 1, s.o i 2, car, s.o i 4, s.o i 6, s.nextSymStart scs T, 0, 0, seq, false⟩)
    let h := s.rd32 (capBase b)
    (St.ok, (s1.wr32 (capBase b) (withBit h 22 false)).seto i 8 1)

/-! ### The commands -/

/-- A capture that ends otherwise than the event says has not ended by it. -/
def State.capEnds (s : State) (b : Nat) (trunc : Bool) : State :=
  let u := s.capDone b
  if (u.capb b).trunc = trunc then u else s

def execCaptureComplete (t : Tick) (b : Nat) (trunc : Bool) (s : State) : Host.Outcome State Fault Refusal :=
  s.run t (fun s => s.capEnds b trunc)

end Sys2Proof.Machine
end

