-- ==== Sys2Proof/Machine/Tables.lean ====
section
/-!
DEFINITION. The beam tables of chapter 03: how a section's references resolve, which memory a weight comes from,
and the last-good latches.
-/

namespace Sys2Proof.Machine

/-- The tables of a direction. -/
def State.tb (s : State) (dir : Nat) : Tbl := smGet Tbl.init s.tbl dir
/-- The tables of a direction put through a function. -/
def State.modTb (s : State) (dir : Nat) (f : Tbl → Tbl) : State := { s with tbl := amod 2 Tbl.init s.tbl dir f }

/-! ### Writes that meet a touchstone or a symbol end (Table 3-5) -/

/-- Two instants lie in the same cycle of FRAME. -/
def sameCycle (a b : Nat) : Bool := decide (a / tNco = b / tNco)

/-- Notes n words written directly from an address on; `s0` is the state before. What an earlier cycle wrote is forgotten. -/
def State.noteFresh (s s0 : State) (dir a n : Nat) : State :=
  let l := (List.range n).map (fun i => (s.now, a + 4 * i, s0.rd32 (a + 4 * i), s.rd32 (a + 4 * i)))
  s.modTb dir (fun t => { t with fresh := t.fresh.filter (fun x => sameCycle x.1 s.now) ++ l })

/-- The words a direction's direct writes changed in the present cycle. -/
def State.freshNow (s : State) (dir : Nat) : List (Nat × Nat × Nat × Nat) :=
  (s.tb dir).fresh.filter (fun x => sameCycle x.1 s.now)

/-- The tables without, and again with, the direct writes of the present cycle: a touchstone or symbol end in the cycle comes
before them, whatever the order in which the commands came (Table 3-5, Table 5-7). -/
def State.backOut (s : State) (dir : Nat) : State := (s.freshNow dir).foldr (fun x s => s.wr32 x.2.1 x.2.2.1) s
def State.putIn (s : State) (dir : Nat) : State := (s.freshNow dir).foldl (fun s x => s.wr32 x.2.1 x.2.2.2) s

/-- Bases of R51, R58 and R63. -/
def wtBase (dir : Nat) : Nat := 0x10000000 + dir * 0x200000
def wtStaging (dir : Nat) : Nat := 0x100C0000 + dir * 0x200000
def schedBase (dir : Nat) : Nat := 0x10400000 + dir * 0x2000
def schedInactive (dir : Nat) : Nat := 0x10404000 + dir * 0x2000

/-- Address of vector v of a direction for a symbol whose slot starts at Ts (R65): the staging memory serves the
bank being swapped from the activation slot until its release. -/
def State.vecAddr (s : State) (dir v : Nat) (Ts : Int) : Nat :=
  match (s.tb dir).swap with
  | some (b, B) => if b = v / 512 ∧ B ≤ Ts then wtStaging dir + (v % 512) * 384 else wtBase dir + v * 384
  | none => wtBase dir + v * 384

/-- Address of entry e of the copy that is active in the slot that starts at Ts (R62, R66). -/
def State.entAddr (s : State) (dir e : Nat) (Ts : Int) : Nat :=
  match (s.tb dir).sched with
  | some B =>
    if (if (s.tb dir).schedDone then Ts < B else B ≤ Ts) then schedInactive dir + e * 8 else schedBase dir + e * 8
  | none => schedBase dir + e * 8

/-- Words 0 and 1 of an entry as one number, word 0 above word 1. -/
def State.entRaw (s : State) (dir e : Nat) (Ts : Int) : Nat :=
  let a := s.entAddr dir e Ts
  s.rd32 a * 2 ^ 32 + s.rd32 (a + 4)

/-- An entry is torn: SEQ_A differs from SEQ_B (R67). -/
def entTorn (w : Nat) : Bool := decide (bits w 60 4 ≠ bits w 28 4)

/-- The words the engine applies for an entry: its own, or its latch if it is torn (R67) or uncorrectable (R366). -/
def State.entWords (s : State) (dir e : Nat) (Ts : Int) : Nat :=
  let w := s.entRaw dir e Ts
  if entTorn w ∨ s.eccHit (s.entAddr dir e Ts) 8 = true then smGet 0 (s.tb dir).latch e else w

/-- Loads the latch of an entry the engine reads whole (R67). -/
def State.latchEnt (s : State) (dir e : Nat) (Ts : Int) : State :=
  let w := s.entRaw dir e Ts
  if 1023 < e ∨ entTorn w ∨ s.eccHit (s.entAddr dir e Ts) 8 = true then s
  else s.modTb dir (fun t => { t with latch := smSet 0 t.latch e w })

/-- An entry's fields (Tables 3-2 and 3-3). -/
structure Ent where
  valid : Bool
  car : Nat
  strm : Nat
  s0 : Nat
  s1 : Nat
  grp : Nat
  p0 : Nat
  wstep : Nat
  p1 : Nat
  widx : Nat
deriving DecidableEq, Repr

/-- The fields of the two words of an entry. -/
def entOf (w : Nat) : Ent :=
  ⟨bit w 59, bits w 57 2, bits w 53 4, bits w 49 4, bits w 45 4, bits w 42 3, bits w 32 9,
   bits w 20 8, bits w 11 9, bits w 0 11⟩

/-- PRBs per group (Table 3-4). -/
def Ent.size (e : Ent) : Nat := if e.grp = 6 then e.p1 - e.p0 + 1 else 2 ^ e.grp

/-- Groups of an entry (R59): first and last PRB, weight index. -/
def Ent.groups (e : Ent) : List (Nat × Nat × Nat) :=
  (List.range (ceilDiv (e.p1 - e.p0 + 1) e.size)).map (fun g =>
    (e.p0 + g * e.size, min (e.p0 + (g + 1) * e.size - 1) e.p1, e.widx + g * e.wstep))

/-- Well formed (R60), for a section of stream slot k of carrier c, in the slot that starts at Ts; an entry that
resolves to another carrier or stream slot is handled as badly formed. -/
def State.entOk (s : State) (dir : Nat) (Ts : Int) (c k : Nat) (e : Ent) : Bool :=
  decide (e.s0 ≤ e.s1) && decide (e.p0 ≤ e.p1) && decide (e.grp ≠ 7) && s.carActive Ts dir e.car &&
  decide (e.p1 < s.carNrb Ts dir e.car) && s.slotOn Ts dir e.car e.strm && decide (e.car = c) && decide (e.strm = k)

/-- What a section's references come to for a symbol: the PRB groups that apply, and the counts of R60, R61 and
R67. -/
structure Resolved where
  groups : List (Nat × Nat × Nat)
  ranges : List (Nat × Nat)
  bad : List Nat
  overlap : Nat
  torn : List Nat
deriving DecidableEq, Repr

/-- Nothing resolved. -/
def Resolved.none : Resolved := ⟨[], [], [], 0, []⟩

/-- Takes one reference into account (R60, R61, R67). -/
def State.resolveRef (s : State) (dir : Nat) (Ts : Int) (c k sym : Nat) (r : Resolved) (ref : Nat) : Resolved :=
  if 1023 < ref then { r with bad := r.bad ++ [ref] }
  else
    let r1 := if entTorn (s.entRaw dir ref Ts) then { r with torn := r.torn ++ [ref] } else r
    let e := entOf (s.entWords dir ref Ts)
    if !e.valid || decide (sym < e.s0 ∨ e.s1 < sym) then
      -- an entry whose range is empty holds no symbol
      r1
    else if !s.entOk dir Ts c k e then { r1 with bad := r1.bad ++ [ref] }
    else if r1.ranges.any (fun q => decide (e.p0 ≤ q.2) && decide (q.1 ≤ e.p1)) then
      { r1 with overlap := r1.overlap + 1 }
    else { r1 with groups := r1.groups ++ e.groups, ranges := r1.ranges ++ [(e.p0, e.p1)] }

/-- Resolves the references of a section, in the order it names them. -/
def State.resolve (s : State) (dir : Nat) (Ts : Int) (c k sym : Nat) (refs : List Nat) : Resolved :=
  refs.foldl (s.resolveRef dir Ts c k sym) Resolved.none

/-- Dynamic region of a direction in the slot that starts at Ts (R54). -/
def State.isDyn (s : State) (dir : Nat) (Ts : Int) (w : Nat) : Bool :=
  decide (w < 2048) && decide (2048 - s.at_ Ts (0x3100 + dir) 2 ≤ w)

/-- The in-packet vector of a section for an index (R56). DESIGN CHOICE (assumption 67): of two vectors that one section
carries for the same index, the last counts, here and in what R55 stores. -/
def vecIn (vecs : List (Nat × List Nat)) (w : Nat) : Option (List Nat) :=
  ((vecs.filter (fun v => decide (v.1 = w))).getLast?).map (fun v => v.2)

/-- A weight reference resolved: out of range, in an invalid bank, uncorrectable in a bank, or 96 weight words (R54,
R56, R72, R73, R366). -/
inductive WtRef where
  | range | invalid | ecc (bank : Nat) | vec (l : List Nat)
deriving DecidableEq, Repr

/-- 96 weight words from memory. -/
def State.memVec (s : State) (a : Nat) : List Nat := (List.range 96).map (fun n => s.rd32 (a + 4 * n))

/-- A vector of the dynamic store. -/
def State.dynVec (s : State) (dir w : Nat) : List Nat :=
  (List.range 96).map (fun n => smGet 0 (s.tb dir).dyn ((w - 1792) * 96 + n))

/-- A bank is valid for a slot that starts at Ts: BANK_VALID, or swapped in by then (R65, R73). -/
def State.bankValid (s : State) (dir b : Nat) (Ts : Int) : Bool :=
  bit (s.o (0x3100 + dir) 6) b ||
  (match (s.tb dir).swap with | some (b', B) => decide (b' = b) && decide (B ≤ Ts) | none => false)

/-- Resolves a weight index for a symbol whose slot starts at Ts. -/
def State.weight (s : State) (dir : Nat) (Ts : Int) (vecs : List (Nat × List Nat)) (w : Nat) : WtRef :=
  if w < s.at_ Ts (0x3100 + dir) 1 then
    (if !s.bankValid dir (w / 512) Ts then .invalid
     else if s.eccHit (s.vecAddr dir w Ts) 384 then .ecc (w / 512) else .vec (s.memVec (s.vecAddr dir w Ts)))
  else if s.isDyn dir Ts w then .vec ((vecIn vecs w).getD (s.dynVec dir w))
  else .range

/-- What a section comes to on a symbol, group by group (R37). -/
def State.pieces (s : State) (dir : Nat) (Ts : Int) (c k sym : Nat) (x : Sect) : List Piece :=
  (s.resolve dir Ts c k sym x.ents).groups.map (fun g =>
    ⟨g.1, g.2.1, g.2.2, if s.isDyn dir Ts g.2.2 then vecIn x.vecs g.2.2 else none⟩)

/-- Writes the vector of 96 words at dynamic index w (R54, R55). -/
def State.dynStore (s : State) (dir w : Nat) (v : List Nat) : State :=
  let put := fun (m : SMap Nat) (n : Nat) => smSet 0 m ((w - 1792) * 96 + n) (v.getD n 0)
  s.modTb dir (fun t => { t with dyn := (List.range 96).foldl put t.dyn })

/-- Confirmed sections of a symbol store their vectors, the last to arrive last (R55); a vector outside the dynamic
region counts in DYN_RANGE at the section's first symbol (R57). -/
def State.dynWrites (s : State) (dir : Nat) (Ts : Int) (conf : List (Nat × Sect)) : State :=
  let ord := sortBy (fun (x : Nat × Sect) => x.2.arr) conf
  ord.foldl (fun s x => x.2.vecs.foldl (fun s v =>
    if s.isDyn dir Ts v.1 then s.dynStore dir v.1 v.2
    else if x.2.first then s.bump (0x3100 + dir) 0x0D 1 else s) s) s

/-- Banks marked valid become so at the touchstone or symbol end (R75). -/
def State.applyMarks (s : State) (dir : Nat) : State :=
  let m := (s.tb dir).markPend
  if m = 0 then s
  else (s.seto (0x3100 + dir) 6 (s.o (0x3100 + dir) 6 ||| m)).modTb dir (fun t => { t with markPend := 0 })

/-- Two lists joined, without what stands in both twice. -/
def joinNew (a b : List Nat) : List Nat := b.foldl (fun a x => if x ∈ a then a else a ++ [x]) a

/-- The counts of one touchstone or symbol end: entries bad and torn, each once per symbol, and overlaps. -/
structure RefCount where
  bad : List Nat
  torn : List Nat
  overlap : Nat
deriving DecidableEq, Repr

/-- Takes a resolved section into the counts. -/
def RefCount.add (c : RefCount) (r : Resolved) : RefCount :=
  ⟨joinNew c.bad r.bad, joinNew c.torn r.torn, c.overlap + r.overlap⟩

/-- Counts what the resolutions of a symbol came to at the touchstone or symbol end (R60, R61, R67). -/
def State.countRefs (s : State) (dir : Nat) (c : RefCount) : State :=
  let s2 := (s.bump (0x3200 + dir) 6 c.bad.length).bump (0x3200 + dir) 7 c.overlap
  let s3 := if c.bad = [] then s2 else s2.slotAlarm Al.schedBad 0
  let s4 := s3.bump (0x3200 + dir) 4 c.torn.length
  match c.torn.getLast? with
  | some e => s4.seto (0x3200 + dir) 5 e
  | none => s4

/-- Loads the latches of the references the engine reads (R67). -/
def State.latchRefs (s : State) (dir : Nat) (Ts : Int) (refs : List Nat) : State :=
  refs.foldl (fun s e => s.latchEnt dir e Ts) s

/-- Counts a group whose weight index is out of range or in an invalid bank (R72, R73); an uncorrectable weight word
marks its bank invalid (R366). -/
def State.countWt (s : State) (dir : Nat) (w : WtRef) : State :=
  match w with
  | .range => (s.bump (0x3100 + dir) 9 1).slotAlarm Al.widxRange 0
  | .invalid => (s.bump (0x3100 + dir) 0x0A 1).slotAlarm Al.widxInvalid 0
  | .ecc b => ((s.setBit (0x3100 + dir) 6 b false).bump (0x3100 + dir) 0x0A 1).slotAlarm Al.widxInvalid 0
  | .vec _ => s

end Sys2Proof.Machine
end

