-- ==== Sys2Proof/Machine/Downlink.lean ====
section
/-!
DEFINITION. Speculation, the fast path and the touchstone (chapters 02 and 04): class D data, sections,
the main beamformer, the fast path.
-/

namespace Sys2Proof.Machine

/-! ### Symbols held -/

/-- A symbol of a carrier for which nothing is held. -/
def DlSym.empty (c : Nat) (n : Int) (k : Nat) : DlSym := ⟨c, n, k, [], [], [], [], [], false, false, [], []⟩

/-- Whether an entry is the symbol (carrier, slot, symbol). -/
def DlSym.is (y : DlSym) (c : Nat) (n : Int) (k : Nat) : Bool := decide (y.car = c ∧ y.slot = n ∧ y.sym = k)

/-- The symbol held, or an empty one. -/
def getSym (l : List DlSym) (c : Nat) (n : Int) (k : Nat) : DlSym :=
  (l.find? (fun y => y.is c n k)).getD (DlSym.empty c n k)

/-- A list of symbols with one of them in place. -/
def putSym (l : List DlSym) (y : DlSym) : List DlSym :=
  l.filter (fun z => !z.is y.car y.slot y.sym) ++ [y]

/-- The downlink's symbol. -/
def State.dsym (s : State) (c : Nat) (n : Int) (k : Nat) : DlSym := getSym s.dl.syms c n k
/-- Puts a downlink symbol in place. -/
def State.putD (s : State) (y : DlSym) : State := { s with dl := { s.dl with syms := putSym s.dl.syms y } }

/-- The entry of a list of sections for a stream. -/
def sectOf (l : List (Nat × Sect)) (sid : Nat) : Option Sect := (l.find? (fun x => x.1 == sid)).map (fun x => x.2)
/-- A list of sections with a stream's section in place. -/
def putSect (l : List (Nat × Sect)) (sid : Nat) (x : Sect) : List (Nat × Sect) :=
  l.filter (fun y => y.1 != sid) ++ [(sid, x)]

/-- A symbol with a section confirmed for a stream: the last to arrive governs (R36), and one it supersedes is kept for
its vectors (R55, R57). -/
def DlSym.confirm (y : DlSym) (sid : Nat) (x : Sect) : DlSym :=
  { y with conf := putSect y.conf sid x, past := y.past ++ y.conf.filter (fun z => z.1 == sid) }

/-- Every section confirmed for a symbol, superseded ones too (R36, R55). -/
def DlSym.confirmed (y : DlSym) : List (Nat × Sect) := y.past ++ y.conf

/-- Start of the slot of a downlink symbol of a carrier; its SCS is the one in force then. -/
def State.symScs (s : State) (dir c : Nat) : Nat := s.carScs s.time_ dir c

/-- The instant at which a packet's slot starts on a carrier, judged with the numerology in force in that slot
(R80, R489), and that numerology. -/
def State.pktSlot (s : State) (dir c sfn slot : Nat) : Nat × Int × Int :=
  let f := fun scs => (scs, s.nearSlot scs s.time_ sfn slot, s.slotStart scs (s.nearSlot scs s.time_ sfn slot))
  let a := f (s.carScs s.time_ dir c)
  if s.carScs a.2.2 dir c = a.1 then a else f (1 - a.1)

/-- The (carrier, stream slot) places of a packet's stream ID, by the maps in force in its slot (R80, R489). -/
def State.pktPlaces (s : State) (dir sid sfn slot : Nat) : List (Nat × Nat) :=
  (List.range 4).flatMap (fun c =>
    let T := (s.pktSlot dir c sfn slot).2.2
    if s.carActive T dir c then
      (List.range 16).filterMap (fun k =>
        let w := s.slotWord T dir c k
        if bit w 16 && decide (w % 2 ^ 16 = sid) then some (c, k) else none)
    else [])

/-- The stream slot of a stream ID on a carrier at an instant. -/
def State.kOf (s : State) (T : Int) (dir c sid : Nat) : Option Nat :=
  (List.range 16).find? (fun k => let w := s.slotWord T dir c k; bit w 16 && decide (w % 2 ^ 16 = sid))

/-! ### Class D (R79 to R81) -/

/-- The T_air of a symbol of a carrier and numerology. -/
def offC : Int := 1000 * (tUs : Int)
def closeC : Int := 16 * (tUs : Int)
def openU : Int := 500 * (tUs : Int)
def closeU : Int := 26 * (tUs : Int)
def touchOff : Int := 14 * (tUs : Int)

/-- Accepts the records of a packet: the first record of a PRB is kept (R81). -/
def addRecs (old new : List Rec) : List Rec × Nat :=
  new.foldl (fun acc r =>
    if acc.1.any (fun q => decide (q.stream = r.stream ∧ q.prb = r.prb)) then (acc.1, acc.2 + 1)
    else (acc.1 ++ [r], acc.2)) (old, 0)

/-- A format error of class D (R107). -/
def State.dlFormat (s : State) (sub : Nat) : State := (s.bump 0x3031 sub 1).slotAlarm Al.dlFormat 0

/-- What the checks of Table 4-4, in order, come to for a packet. -/
inductive DlCheck where
  | unknown                            -- its stream ID is not in exactly one downlink map
  | format
  | early
  | late
  | good (car : Nat) (slot : Int) (air : Int)   -- its symbol's carrier, slot and T_air
deriving DecidableEq, Repr

/-- The checks of Table 4-4 in order. -/
def State.dlCheck (s : State) (p : Pkt) : DlCheck :=
  let x := dPrefix p.payload
  match s.pktPlaces 0 p.stream x.air.sfn x.air.slot with
  | [(c, _)] =>
    let (scs, n, Ts) := s.pktSlot 0 c x.air.sfn x.air.slot
    if 8 < x.mw then .format
    else if !tripleOk scs x.air.sfn x.air.slot x.air.sym then .format
    else if s.carNrb Ts 0 c < x.first + x.count then .format
    else if p.payload.length ≠ dLen x then .format
    else
      let a := s.tAir scs n x.air.sym
      if s.time_ < a - openU then .early
      else if a - closeU < s.time_ then .late
      else .good c n a
  | _ => .unknown

/-- DL_PACKET_ARRIVAL: the checks of Table 4-4 in order, then R81. -/
def State.dlPacket (s : State) (p : Pkt) : State :=
  let x := dPrefix p.payload
  match s.dlCheck p with
  | .unknown => s.dlFormat 4
  | .format => s.dlFormat 5
  | .early => s.bump 0x3300 9 1
  | .late => s.bump 0x3300 0x0A 1
  | .good c n _ =>
    let y := s.dsym c n x.air.sym
    let r := addRecs y.recs (dRecs p.stream p.payload x)
    (s.putD { y with recs := r.1 }).bump 0x3031 3 r.2

/-- Until when the ingress buffer keeps a class D packet for the node itself: the touchstone of its symbol (R257). -/
def State.dlKept (s : State) (p : Pkt) : Option Int :=
  match s.dlCheck p with | .good _ _ a => some (a - touchOff) | _ => none

/-! ### Predictions and the fast path (R34 to R41) -/

/-- The section that governs a stream on a symbol, and whether it is a prediction. After the close of the C-plane
window only a confirmed section governs; a provisional section stands in for the prediction (R35), which is the
section confirmed for the symbol before, one slot earlier (R34); with SPEC_ENABLE 0 there is none (R41). -/
def State.govern (s : State) (Ts : Int) (y : DlSym) (sid : Nat) : Option (Bool × Sect) :=
  match sectOf y.conf sid with
  | some x => some (false, x)
  | none =>
    if y.closed ∨ s.at_ Ts 0x3300 1 = 0 then none
    else match sectOf y.prov sid with
      | some x => some (true, x)
      | none => (sectOf (s.dsym y.car (y.slot - 1) y.sym).conf sid).map (fun x => (true, x))

/-- Start of the slot of a held symbol, in its carrier's numerology in force at that slot. -/
def State.ySlot (s : State) (dir : Nat) (y : DlSym) : Nat × Int :=
  let a := s.carScs s.time_ dir y.car
  let T := s.slotStart a y.slot
  if s.carScs T dir y.car = a then (a, T) else (1 - a, s.slotStart (1 - a) y.slot)

/-- T_air of a held symbol. -/
def State.yAir (s : State) (dir : Nat) (y : DlSym) : Int := s.tAir (s.ySlot dir y).1 y.slot y.sym

/-- What a stream comes to on a symbol now, and whether by a prediction. -/
def State.streamPieces (s : State) (y : DlSym) (sid : Nat) : Bool × List Piece :=
  let Ts := (s.ySlot 0 y).2
  match s.govern Ts y sid, s.kOf Ts 0 y.car sid with
  | some (p, x), some k => (p, s.pieces 0 Ts y.car k y.sym x)
  | _, _ => (false, [])

/-- Two ranges of PRBs meet. -/
def meets (a b c d : Nat) : Bool := decide (a ≤ d) && decide (c ≤ b)

/-- A stream has a record in a range of PRBs. -/
def DlSym.hasData (y : DlSym) (sid lo hi : Nat) : Bool :=
  y.recs.any (fun r => decide (r.stream = sid) && decide (lo ≤ r.prb) && decide (r.prb ≤ hi))

/-- Half a microsecond: a queued group's wait (R38). -/
def fastWait : Nat := tUs / 2

/-- Where an item of class 2 stands: by carrier, then stream ID, then PRB (R38). -/
def FItem.rank (f : FItem) : Nat := (f.car * 65536 + f.sid) * 512 + f.lo

/-- Inserts an item of class 2 among those of its instant in their order; other items go to the end. -/
def fastInsert (f : FItem) : List FItem → List FItem
  | [] => [f]
  | g :: l => if f.cls = 2 ∧ g.cls = 2 ∧ g.elig = f.elig ∧ f.rank < g.rank then f :: g :: l else g :: fastInsert f l

/-- An item is of a symbol. -/
def FItem.of (f : FItem) (y : DlSym) : Bool := y.is f.car f.slot f.sym

/-- A change to a group's content abandons the recompute that runs on it; the group goes to the back (R38).
DESIGN CHOICE (assumption 66): the back of the queue is behind every group of the first two classes, those queued later
too, and the group waits 0.5 µs there as every group does. -/
def State.abandon (s : State) (y : DlSym) (lo hi : Nat) : State :=
  match s.dl.running with
  | some (f, _) =>
    if f.of y && meets f.lo f.hi lo hi then
      { s with dl := { s.dl with running := none, fastQ := s.dl.fastQ ++ [{ f with cls := 3, elig := s.now + fastWait }] } }
    else s
  | none => s

/-- A range of PRBs lies inside another. -/
def inside (a b c d : Nat) : Bool := decide (c ≤ a) && decide (b ≤ d)

/-- Queues a group on the fast path; one that waits, or lies in one that waits or is recomputed, needs no second entry
(R38). Answers whether it was added. DESIGN CHOICE (assumption 66): a group of the second class, whose wait the spec does
not state, becomes eligible 0.5 µs after the close of the window, as those of the first class do after their event. -/
def State.enqueue (s : State) (y : DlSym) (cls sid lo hi : Nat) : Bool × State :=
  let same := fun (f : FItem) => f.of y && inside lo hi f.lo f.hi
  let busy := match s.dl.running with | some (f, _) => same f | none => false
  if busy || s.dl.fastQ.any same then (false, s)
  else
    let f : FItem := ⟨y.car, y.slot, y.sym, lo, hi, cls, sid, s.now + fastWait⟩
    (true, { s with dl := { s.dl with fastQ := fastInsert f s.dl.fastQ } })

/-- Work that becomes possible later than 12.0 µs before the touchstone is for the fast path (R38). -/
def State.isLate (s : State) (y : DlSym) : Bool := decide (s.yAir 0 y - closeU < s.time_)

/-- The ranges of a list that lie in no other of it, each once, in ascending order. -/
def widest (l : List (Nat × Nat)) : List (Nat × Nat) :=
  sortBy (fun (r : Nat × Nat) => r.1) (l.foldl (fun (a : List (Nat × Nat)) r =>
    if a.any (fun q => inside r.1 r.2 q.1 q.2) then a else a.filter (fun q => !inside q.1 q.2 r.1 r.2) ++ [r]) [])

/-- The PRBs of a piece. -/
def Piece.range (q : Piece) : Nat × Nat := (q.lo, q.hi)

/-- Abandons every recompute of a symbol whose content has changed: pieces of the old content that are not in the new
one, and of the new one that were not in the old (R38). -/
def State.abandonChanged (s : State) (y : DlSym) (old new : List Piece) (same : Piece → Bool) : State :=
  ((old.filter (fun c => !(decide (c ∈ new) && same c))) ++ (new.filter (fun c => !(decide (c ∈ old) && same c)))).foldl
    (fun s c => s.abandon y c.lo c.hi) s

/-- Settles a stream's part of a symbol when its content goes from `old` to `new`: parts already formed that match stay
(and count in SPEC_CONFIRMED if a section confirms them), parts formed with what is no longer right are queued on the fast
path with the parts that take their place, and other new parts are ordinary work unless they become possible late.
`same` tells the parts whose weights are unchanged; `redo` counts in TABLE_REDO (R37 to R40). -/
def State.settle (s : State) (y : DlSym) (sid : Nat) (old new : List Piece) (same : Piece → Bool)
    (cls : Nat) (confirm redo : Bool) : State :=
  let mine := y.done.filter (fun d => d.sid == sid)
  let okD := fun (d : DoneGrp) => decide (d.piece ∈ new) && same d.piece
  let chg := mine.filter (fun d => !okD d)
  let pend := new.filter (fun c => !(mine.any (fun d => decide (d.piece = c) && same c)))
  let matched := (mine.filter (fun d => okD d && d.pred)).length
  let done := y.done.filterMap (fun d =>
    if d.sid ≠ sid then some d else if okD d then some { d with pred := d.pred && !confirm } else none)
  let y1 := { y with done := done }
  let s1 := if confirm then (s.putD y1).bump 0x3300 3 matched else s.putD y1
  let late := s.isLate y
  let q1 := pend.filter (fun c => chg.any (fun d => meets c.lo c.hi d.piece.lo d.piece.hi) ||
    (late && !(decide (c ∈ old) && same c) && y.hasData sid c.lo c.hi))
  let ranges := widest (q1.map Piece.range ++ chg.map (fun d => d.piece.range))
  (ranges.foldl (fun (a : State × List DoneGrp) r =>
    let e := a.1.enqueue y1 cls sid r.1 r.2
    let inr := fun (d : DoneGrp) => inside d.piece.lo d.piece.hi r.1 r.2
    if redo && e.1 then (e.2.bump 0x3300 6 (a.2.filter inr).length, a.2.filter (fun d => !inr d)) else (e.2, a.2))
    (s1.abandonChanged y1 old new same, chg)).1

/-- A provisional section has replaced a stream's prediction (R35): what was formed on the older one stays; parts that
become possible late, and that nothing formed meets, are for the fast path (R38). -/
def State.settleProv (s : State) (y : DlSym) (sid : Nat) (old new : List Piece) : State :=
  let mine := y.done.filter (fun d => d.sid == sid)
  let q := new.filter (fun c => s.isLate y && decide (c ∉ old) && y.hasData sid c.lo c.hi &&
    !(mine.any (fun d => meets c.lo c.hi d.piece.lo d.piece.hi)))
  (widest (q.map Piece.range)).foldl (fun s r => (s.enqueue y 1 sid r.1 r.2).2)
    (s.abandonChanged y old new (fun _ => true))

/-- Takes a downlink section for one symbol: provisional (R35) or confirming (R36, R37). -/
def State.dlSection (s : State) (c : Nat) (n : Int) (k sid : Nat) (prov : Bool) (x : Sect) : State :=
  let y := s.dsym c n k
  let old := (s.streamPieces y sid).2
  if prov then
    let y1 := { y with prov := putSect y.prov sid x, provN := y.provN ++ [sid] }
    let s1 := s.putD y1
    s1.settleProv y1 sid old (s1.streamPieces y1 sid).2
  else
    let y1 := y.confirm sid x
    let s1 := s.putD y1
    s1.settle y1 sid old (s1.streamPieces y1 sid).2 (fun _ => true) 1 true false

/-- Takes an uplink section for one symbol (R114). -/
def State.ulSection (s : State) (c : Nat) (n : Int) (k sid : Nat) (x : Sect) : State :=
  let y := getSym s.ul.sects c n k
  { s with ul := { s.ul with sects := putSym s.ul.sects (y.confirm sid x) } }

/-- A format error of class C (R50). -/
def State.cFormat (s : State) (sub : Nat) : State := (s.bump 0x3300 sub 1).slotAlarm Al.sectionBad 0

/-- SECTION_ARRIVAL: the checks of Table 10-26 in order; each covered symbol by its own window (R30). -/
def State.sectionArrives (s : State) (p : Pkt) : State :=
  let x := cPrefix p.payload
  match s.pktPlaces x.dir p.stream x.sfn x.slot with
  | [(c, _)] =>
    let (scs, n, _) := s.pktSlot x.dir c x.sfn x.slot
    if x.symEnd < x.symStart ∨ ¬ tripleOk scs x.sfn x.slot x.symStart ∨ ¬ tripleOk scs x.sfn x.slot x.symEnd ∨
        p.payload.length ≠ cLen x ∨ 8192 < p.payload.length then s.cFormat 0x0E
    else
      let syms := (List.range (x.symEnd + 1 - x.symStart)).map (· + x.symStart)
      if x.dir = 1 ∧ p.prov then s.bump 0x3300 0x0B syms.length
      else
        let early := syms.filter (fun k => decide (s.time_ < s.tAir scs n k - offC))
        let late := syms.filter (fun k => decide (s.tAir scs n k - closeC < s.time_))
        let held := syms.filter (fun k => decide (k ∉ early) && decide (k ∉ late))
        let s1 := s.bump 0x3300 7 (b2n (early != []))
        let s2 := s1.bump 0x3300 8 (b2n (late != []))
        let arr := s2.dl.arrivals
        let s3 := { s2 with dl := { s2.dl with arrivals := arr + 1 } }
        held.foldl (fun s k =>
          let sec : Sect := ⟨cEnts p.payload x, cVecs p.payload x, arr, decide (held.head? = some k)⟩
          if x.dir = 1 then s.ulSection c n k p.stream sec else s.dlSection c n k p.stream p.prov sec) s3
  | _ => s.cFormat 0x0D

/-- Until when the ingress buffer keeps a class C packet for the node itself: the close of the window of the last symbol that it
is held for (R257). -/
def State.sectKept (s : State) (p : Pkt) : Option Int :=
  let x := cPrefix p.payload
  match s.pktPlaces x.dir p.stream x.sfn x.slot with
  | [(c, _)] =>
    let (scs, n, _) := s.pktSlot x.dir c x.sfn x.slot
    if x.symEnd < x.symStart ∨ ¬ tripleOk scs x.sfn x.slot x.symStart ∨ ¬ tripleOk scs x.sfn x.slot x.symEnd ∨
        p.payload.length ≠ cLen x ∨ 8192 < p.payload.length ∨ (x.dir = 1 ∧ p.prov = true) then none
    else (((List.range (x.symEnd + 1 - x.symStart)).map (fun k => s.tAir scs n (k + x.symStart))).filter
      (fun a => decide (a - offC ≤ s.time_) && decide (s.time_ ≤ a - closeC))).getLast?.map (fun a => a - closeC)
  | _ => none

/-- C_WINDOW_CLOSE for a symbol of a downlink carrier: every stream of the carrier without a confirming section is
confirmed as "no section" (R36), and the groups that changes are queued in class 2 (R38). -/
def State.closeWindow (s : State) (c : Nat) (n : Int) (k : Nat) : State :=
  let y := s.dsym c n k
  if y.closed ∨ s.time_ < s.yAir 0 y - closeC ∨ ¬ s.carActive (s.ySlot 0 y).2 0 c then s
  else
    let lost := y.provN.filter (fun sid => (sectOf y.conf sid).isNone)
    let y1 := { y with closed := true }
    let s1 := (s.putD y1).bump 0x3300 0x0B lost.length
    let prev := (s.dsym c (n - 1) k).conf.map (fun x => x.1)
    let sids := joinNew [] (y.done.map (fun d => d.sid) ++ y.prov.map (fun x => x.1) ++ prev)
    ((sids.filter (fun sid => (sectOf y1.conf sid).isNone)).foldl (fun s sid =>
      s.settle (s.dsym c n k) sid (s.streamPieces y sid).2 [] (fun _ => true) 2 false false) s1).freeKept

/-- BEAMFORM_DONE: the main beamformer has formed a PRB group from its data and the sections that govern it. Every
stream that has data and a group of exactly those PRBs is taken; those taken on a prediction count (R37). -/
def State.beamformed (s : State) (c : Nat) (n : Int) (k lo hi : Nat) : State :=
  let y := s.dsym c n k
  let fast := fun (f : FItem) => f.of y && meets f.lo f.hi lo hi
  let busy := match s.dl.running with | some (f, _) => fast f | none => false
  if y.fixed || busy || s.dl.fastQ.any fast then s
  else
    let Ts := (s.ySlot 0 y).2
    let sids := ((s.streamsOn Ts 0 c).map (fun j => s.slotWord Ts 0 c j % 2 ^ 16))
    let new := sids.flatMap (fun sid =>
      let r := s.streamPieces y sid
      (r.2.filter (fun q => decide (q.lo = lo ∧ q.hi = hi) && y.hasData sid lo hi &&
        !(y.done.any (fun d => decide (d.sid = sid) && meets d.piece.lo d.piece.hi lo hi)))).map
        (fun q => (DoneGrp.mk sid q r.1)))
    let refs := (new.map (fun d => d.sid)).flatMap (fun sid =>
      match s.govern Ts y sid with | some x => x.2.ents | none => [])
    ((s.putD { y with done := y.done ++ new }).latchRefs 0 Ts refs).bump 0x3300 2
      (new.filter (fun d => d.pred)).length

/-- Cost of a group in PRB-stream units: its PRBs times the streams confirmed on it (R38). -/
def State.fastCost (s : State) (f : FItem) : Nat :=
  let y := s.dsym f.car f.slot f.sym
  let on := y.conf.filter (fun x => ((s.streamPieces y x.1).2).any (fun q => meets q.lo q.hi f.lo f.hi))
  (f.hi + 1 - f.lo) * on.length

/-- The first eligible item of the queue: class 1, then 2, then those sent to the back (R38, assumption 66). -/
def State.fastHead (s : State) : Option FItem :=
  let e := s.dl.fastQ.filter (fun f => decide (f.elig ≤ s.now))
  match e.find? (fun f => f.cls == 1) with
  | some f => some f
  | none => match e.find? (fun f => f.cls == 2) with
    | some f => some f
    | none => e.head?

/-- One PRB-stream unit on the fast path: 192 per microsecond (R38). -/
def fastUnit : Nat := tUs / 192

/-- The entries that the sections in force on a group name, as the engine reads them (R67). -/
def State.fastRefs (s : State) (f : FItem) : List Nat :=
  let y := s.dsym f.car f.slot f.sym
  let Ts := (s.ySlot 0 y).2
  (s.streamsOn Ts 0 f.car).flatMap (fun j =>
    match s.govern Ts y (s.slotWord Ts 0 f.car j % 2 ^ 16) with
    | some x => if (s.pieces 0 Ts f.car j f.sym x.2).any (fun q => meets q.lo q.hi f.lo f.hi) then x.2.ents else []
    | none => [])

/-- FAST_PATH_RECOMPUTE_START: an idle fast path takes the next eligible group; it reads the group's entries (R67). -/
def State.fastStart (s : State) : State :=
  if s.dl.running.isSome then s
  else match s.fastHead with
    | some f =>
      { s.latchRefs 0 (s.ySlot 0 (s.dsym f.car f.slot f.sym)).2 (s.fastRefs f) with
        dl := { s.dl with running := some (f, s.now + s.fastCost f * fastUnit), fastQ := s.dl.fastQ.erase f } }
    | none => s

/-- A recompute completes: the group is released, from the content in force, and counts once (R38). -/
def State.fastRelease (s : State) (f : FItem) : State :=
  let y := s.dsym f.car f.slot f.sym
  let Ts := (s.ySlot 0 y).2
  let sids := ((s.streamsOn Ts 0 f.car).map (fun j => s.slotWord Ts 0 f.car j % 2 ^ 16))
  let new := sids.flatMap (fun sid =>
    let r := s.streamPieces y sid
    (r.2.filter (fun q => inside q.lo q.hi f.lo f.hi && y.hasData sid q.lo q.hi &&
      !(y.done.any (fun d => decide (d.sid = sid ∧ d.piece = q))))).map (fun q => (DoneGrp.mk sid q r.1)))
  let first := decide ((f.lo, f.hi) ∉ y.redone)
  let s1 := (s.putD { y with done := y.done ++ new,
                             redone := if first then y.redone ++ [(f.lo, f.hi)] else y.redone }).bump 0x3300 4 (b2n first)
  { s1.bump 0x3300 2 (new.filter (fun d => d.pred)).length with dl := { s1.dl with running := none } }

/-- FAST_PATH_RECOMPUTE_DONE: the recompute in progress ends at its time (R38). -/
def State.fastDone (s : State) : State :=
  match s.dl.running with
  | some (f, e) => if e ≤ s.now ∧ !(s.dsym f.car f.slot f.sym).fixed then s.fastRelease f else s
  | none => s

/-! ### Direct table writes (R40, R70) -/

/-- A symbol's touchstone falls in the present cycle of FRAME (Table 3-5). -/
def State.touchNow (s : State) (y : DlSym) : Bool :=
  sameCycle (s.yAir 0 y - touchOff - s.timeBase).toNat s.now

/-- Re-queues the groups whose content a table write has changed: `s0` is the state before it (R40). A symbol whose touchstone
is in the same cycle of FRAME does not see the write (Table 3-5). -/
def State.requeue (s : State) (s0 : State) : State :=
  (s.dl.syms.filter (fun y => !y.fixed && !s.touchNow y)).foldl (fun s y0 =>
    let y := s.dsym y0.car y0.slot y0.sym
    let Ts := (s.ySlot 0 y).2
    let sids := (s.streamsOn Ts 0 y.car).map (fun j => s.slotWord Ts 0 y.car j % 2 ^ 16)
    sids.foldl (fun s sid =>
      let same := fun (q : Piece) => decide (s0.weight 0 Ts [] q.widx = s.weight 0 Ts [] q.widx)
      let new := (s.streamPieces y sid).2
      let old := (s0.streamPieces y sid).2
      if new = old ∧ new.all same then s
      else s.settle (s.dsym y.car y.slot y.sym) sid old new same 1 false true) s) s

/-! ### Beamforming (R82, R83) -/

/-- The 24-bit sample of a mantissa (R82). -/
def decompress (m : Int) (e mw : Nat) : Int :=
  if mw ≤ e + 9 then m * (2 ^ (e + 9 - mw) : Nat) else roundHE m (mw - e - 9)

/-- I and Q weight of a path in a vector (Table 3-1). -/
def wI (v : List Nat) (n : Nat) : Int := toInt 16 (bits (v.getD n 0) 16 16)
def wQ (v : List Nat) (n : Nat) : Int := toInt 16 (bits (v.getD n 0) 0 16)

/-- What a stream contributes to one PRB: its record and its vector. -/
structure Term where
  rec_ : Rec
  vec : List Nat
deriving DecidableEq, Repr

/-- Complex product of sample j of a term and path n's weight. -/
def Term.prod (t : Term) (n j : Nat) : Int × Int :=
  let sI := decompress (t.rec_.q.getD (2 * j) 0) t.rec_.e t.rec_.m
  let sQ := decompress (t.rec_.q.getD (2 * j + 1) 0) t.rec_.e t.rec_.m
  let a := wI t.vec n
  let b := wQ t.vec n
  (sI * a - sQ * b, sI * b + sQ * a)

/-- The beamformer's output before saturation for path n and subcarrier j of a PRB (R83). -/
def bfRaw (ts : List Term) (g shift n j : Nat) : Int × Int :=
  let acc := ts.foldl (fun (a : Int × Int) t => let p := t.prod n j; (a.1 + p.1, a.2 + p.2)) (0, 0)
  (roundHE (acc.1 * (g : Int)) (35 + shift), roundHE (acc.2 * (g : Int)) (35 + shift))

/-- Terms of a stream on a PRB: those of its resolved groups that hold the PRB, whose vector resolves, with data. -/
def State.termsOf (s : State) (Ts : Int) (y : DlSym) (sid : Nat) (vecs : List (Nat × List Nat))
    (groups : List (Nat × Nat × Nat)) (p : Nat) : List Term :=
  groups.filterMap (fun g =>
    if g.1 ≤ p ∧ p ≤ g.2.1 then
      match y.recs.find? (fun r => decide (r.stream = sid ∧ r.prb = p)), s.weight 0 Ts vecs g.2.2 with
      | some r, .vec v => some ⟨r, v⟩
      | _, _ => none
    else none)

/-- G of the slot that holds Ts, and whether the clamp acts (R86): as fixed, or as the bench plan gives it. It is one for every
carrier. -/
def State.gain (s : State) (Ts : Int) : Nat × Bool :=
  let T := s.gridStart Ts
  match s.dl.gSlot with
  | some (m, g, c) => if m = T then (g, c) else s.eirpGain T
  | none => s.eirpGain T

/-- The G of a slot that starts at Ts (R86). -/
def State.gOf (s : State) (_scs : Nat) (_n : Int) (Ts : Int) : Nat := (s.gain Ts).1

/-- Fixes the bench set and G of the slot that holds Ts, at its first touchstone (R20). -/
def State.fixSlot (s : State) (Ts : Int) : State :=
  let T := s.gridStart Ts
  let g := s.gain Ts
  ({ s with dl := { s.dl with gSlot := some (T, g.1, g.2) } } : State).fixSet T

/-- A stream of a carrier at the touchstone (R31, R60, R72, R73, R85): counts, and the groups it puts on air. -/
def State.touchStream (s : State) (Ts : Int) (y : DlSym) (k sid : Nat) (cnt : RefCount) :
    State × RefCount × List (Nat × Nat × Nat) × List (Nat × List Nat) × Bool :=
  let has := y.recs.any (fun r => r.stream == sid)
  match sectOf y.conf sid with
  | none => ((if has then s.bump 0x3031 6 1 else s), cnt, [], [], false)
  | some x =>
    let r := s.resolve 0 Ts y.car k y.sym x.ents
    let s1 := s.latchRefs 0 Ts x.ents
    let s2 := r.groups.foldl (fun s g => s.countWt 0 (s.weight 0 Ts x.vecs g.2.2)) s1
    let missing := listSum (r.groups.map (fun g => ((List.range (g.2.1 + 1 - g.1)).filter (fun i =>
      !(y.recs.any (fun q => decide (q.stream = sid ∧ q.prb = g.1 + i))))).length))
    let s3 := if r.groups = [] then s2 else if has then s2.bump 0x3031 2 missing else s2.bump 0x3031 1 1
    (s3, cnt.add r, r.groups, x.vecs, r.groups != [] && has)

/-- The beamformer's output of a path and subcarrier before the touchstone: what the main path and the fast path have formed,
on predictions too (R105, R367). -/
def State.bfPre (s : State) (scs : Nat) (n : Int) (Ts : Int) (y : DlSym) (path j : Nat) : Int × Int :=
  let p := j / 12
  let ts := y.done.filterMap (fun d =>
    if d.piece.lo ≤ p ∧ p ≤ d.piece.hi then
      match y.recs.find? (fun r => decide (r.stream = d.sid ∧ r.prb = p)),
          s.weight 0 Ts (match d.piece.vec with | some v => [(d.piece.widx, v)] | none => []) d.piece.widx with
      | some r, .vec v => some (Term.mk r v)
      | _, _ => none
    else none)
  if s.benched (s.tAir scs n y.sym) path ∨ ts = [] then (0, 0)
  else cSat 20 (bfRaw ts (s.gOf scs n Ts) (s.at_ Ts 0x3030 1) path (j % 12))

/-- The touchstone of one carrier (R39, R83, R85): blanked groups, the streams, and the output of every path that is
not benched. `blank` blanks the whole symbol (R14, R28, R169). -/
def State.touchCar (s : State) (scs : Nat) (n : Int) (k c : Nat) (blank : Bool) (cnt : RefCount) : State × RefCount :=
  let Ts := s.slotStart scs n
  let y := s.dsym c n k
  let mine := fun (f : FItem) => f.of y
  -- a recompute that ends at the touchstone is released; the rest is blanked
  let s := match s.dl.running with
    | some (f, e) => if mine f && decide (e ≤ s.now) then s.fastRelease f else s
    | none => s
  let y := s.dsym c n k
  let s := s.capFeed 0 scs n k (fun q => q.car == c) (fun q =>
    (List.range (12 * s.carNrb Ts 0 c)).flatMap (fun j => capWord (s.bfPre scs n Ts y q.path j)))
  let run := match s.dl.running with | some (f, _) => if mine f then [f] else [] | none => []
  let left := run ++ s.dl.fastQ.filter mine
  let s := { s with dl := { s.dl with fastQ := s.dl.fastQ.filter (fun f => !mine f),
                                      running := if run = [] then s.dl.running else none } }
  let s := s.bump 0x3300 5 left.length
  let ks := s.streamsOn Ts 0 c
  let (s, cnt, sets, anyData) := ks.foldl (fun (a : State × RefCount × List (Nat × List (Nat × Nat × Nat) ×
        List (Nat × List Nat)) × Bool) j =>
      let sid := a.1.slotWord Ts 0 c j % 2 ^ 16
      let r := a.1.touchStream Ts y j sid a.2.1
      (r.1, r.2.1, a.2.2.1 ++ [(sid, r.2.2.1, r.2.2.2.1)], a.2.2.2 || r.2.2.2.2)) (s, cnt, [], false)
  let s := if anyData && !s.isTx scs n k then s.bump 0x2130 4 1 else s
  let gain := s.gOf scs n Ts
  let shift := s.at_ Ts 0x3030 1
  let T := s.tAir scs n k
  let lost := (decide (k = 0) && decide ((c, n) ∈ s.dl.restart)) || decide ((c + 16, n) ∈ s.dl.restart)
  let prbs := if blank || lost then [] else (List.range (s.carNrb Ts 0 c)).filterMap (fun p =>
    if left.any (fun f => decide (f.lo ≤ p) && decide (p ≤ f.hi)) then none
    else
      let ts := sets.flatMap (fun x => s.termsOf Ts y x.1 x.2.2 x.2.1 p)
      if ts = [] then none else some (p, ts))
  let raw := (allPaths.filter (fun n => !s.benched T n)).flatMap (fun n => prbs.flatMap (fun q =>
    (List.range 12).map (fun j => (4096 * n + 12 * q.1 + j, bfRaw q.2 gain shift n j))))
  let sat := raw.filter (fun r => decide (satI 20 r.2.1 ≠ r.2.1) || decide (satI 20 r.2.2 ≠ r.2.2))
  let b := raw.filterMap (fun r =>
    let v := (satI 20 r.2.1, satI 20 r.2.2)
    if v = (0, 0) then none else some (r.1, v))
  let s := s.bump 0x3031 7 sat.length
  let s := if sat = [] then s else s.slotAlarm Al.dlSat 0
  -- phase compensation lies behind the touchstone (R89)
  let ph := s.phaseOf T 0 c scs n k
  let sat2 := b.filter (fun r => cOvf 20 (compRaw ph r.2))
  let s := s.bump 0x3031 7 sat2.length
  let s := if sat2 = [] then s else s.slotAlarm Al.dlSat 0
  let s := if lost then s.bump 0x3031 0x0D 1 else s
  let s := s.putD { s.dsym c n k with recs := [], fixed := true }
  let s := s.capFeed 1 scs n k (fun q => q.car == c) (fun q =>
    (List.range (12 * s.carNrb Ts 0 c)).flatMap (fun j => capWord (smGet (0, 0) b (4096 * q.path + j))))
  let at_ := s.airSample T
  let seg := if b = [] then [] else [DlSeg.mk c scs (s.carNrb Ts 0 c) n k at_ b]
  ({ s with dl := { s.dl with out := s.dl.out.filter (fun o => o.car != c) ++ [⟨c, n, k, b⟩],
                              segs := s.dl.segs ++ seg,
                              satTo := if s.dl.segs = [] then at_ - 512 else s.dl.satTo,
                              restart := s.dl.restart.filter (fun r => decide (¬ ((r = (c, n) ∧ k = 0) ∨ (r = (c + 16, n) ∧ k = 13)))) } }, cnt)

/-- Clears whose boundary has come (R50, R106, R131): zeroes the counters of each index that waits. -/
def State.doClears (s : State) (idx : List Nat) : State :=
  let due := s.clears.filter (fun i => decide (i ∈ idx))
  let s1 := { s with clears := s.clears.filter (fun i => decide (i ∉ idx)) }
  due.foldl (fun s i =>
    if i = 0x3300 then ((s.zeroRange 0x3300 2 10).seto 0x3300 0x0D 0).seto 0x3300 0x0E 0
    else if i = 0x3031 then s.zeroRange 0x3031 1 13
    else if i = 0x3035 then s.zeroRange 0x3035 1 8
    else if i = 0x3036 ∨ i = 0x3037 then s.zeroRange i 4 9
    else s) s1

/-- Downlink symbols still of use: a slot before the present one serves the next predictions (R34). -/
def State.dlPrune (s : State) (scs : Nat) (n : Int) (k : Nat) : State :=
  { s with dl := { s.dl with syms := s.dl.syms.filter (fun y =>
      decide (s.carScs (s.slotStart scs n) 0 y.car ≠ scs) || decide (n - 1 < y.slot) ||
      (decide (y.slot = n - 1) && decide (k < y.sym))) } }

/-- A path that dozes goes on dozing if the symbol that has just been fixed has no output for it either: the edges that would end its doze
are taken back (R394). -/
def State.dozeOn (s : State) : State :=
  (s.dl.dozing.filter (fun p => s.dl.out.all (fun o => o.b.all (fun x => decide (x.1 / 4096 ≠ p))))).foldl (fun s p =>
    (s.dropEdges .txon p).dropEdges .driver p) s

/-- TOUCHSTONE for symbol k of absolute slot n of the numerology, at T_air − 14.0 µs (R39). DESIGN CHOICE (assumption 67):
a bank marked valid becomes so after the symbol's own weights were looked up, so that the next symbol is the first to use
it (R75). -/
def State.touchstone (s : State) (scs : Nat) (n : Int) (k : Nat) : State :=
  let Ts := s.slotStart scs n
  if s.time_ < s.tAir scs n k - touchOff ∨ 14 ≤ k then s
  else
    let blank := !s.timeLocked || s.clk.refBlank || s.dl.stopped
    let cs := (List.range 4).filter (fun c => s.carActive Ts 0 c && decide (s.carScs Ts 0 c = scs) && !(s.dsym c n k).fixed)
    let s := (s.fixSlot Ts).backOut 0
    let (s, cnt) := cs.foldl (fun (a : State × RefCount) c => a.1.touchCar scs n k c blank a.2) (s, ⟨[], [], 0⟩)
    let s := (s.countRefs 0 cnt).putIn 0
    let s := s.dynWrites 0 Ts (cs.flatMap (fun c => (s.dsym c n k).confirmed))
    ((((s.applyMarks 0).doClears [0x3300, 0x3031]).dlPrune scs n k).dozeOn).freeKept

/-! ### The commands -/

def execDlPacketArrival (t : Tick) (p : Pkt) (s : State) : Host.Outcome State Fault Refusal :=
  s.run t (fun s => s.dlPacket p)

def execSectionArrival (t : Tick) (p : Pkt) (s : State) : Host.Outcome State Fault Refusal :=
  s.run t (fun s => s.sectionArrives p)

def execCWindowClose (t : Tick) (car : Nat) (slot : Int) (sym : Nat) (s : State) : Host.Outcome State Fault Refusal :=
  s.run t (fun s => s.closeWindow car slot sym)

def execBeamformDone (t : Tick) (car : Nat) (slot : Int) (sym lo hi : Nat) (s : State) :
    Host.Outcome State Fault Refusal :=
  s.run t (fun s => s.beamformed car slot sym lo hi)

def execFastPathRecomputeStart (t : Tick) (s : State) : Host.Outcome State Fault Refusal :=
  s.run t (fun s => s.fastStart)

def execFastPathRecomputeDone (t : Tick) (s : State) : Host.Outcome State Fault Refusal :=
  s.run t (fun s => s.fastDone)

def execTouchstone (t : Tick) (scs : Nat) (slot : Int) (sym : Nat) (s : State) : Host.Outcome State Fault Refusal :=
  s.run t (fun s => s.touchstone scs slot sym)

end Sys2Proof.Machine
end

