-- ==== Sys2Proof/Machine/Vectors.lean ====
section
/-!
DEFINITION. Vector assembly and the application of whole vectors (R69, R70).
-/

namespace Sys2Proof.Machine

/-- Writes a vector to bank memory. -/
def State.putVec (s : State) (dir v : Nat) (ws : List Nat) : State := s.wrBytes (wtBase dir + 384 * v) (ws.flatMap (bytesLE 4))

/-- Applies a whole vector: the downlink's takes effect at once under R40; the uplink's waits for a symbol end, and a
17th is held (R70). A vector of an invalid bank has no effect on the datapath (R75). -/
def State.applyVec (s : State) (dir v : Nat) (ws : List Nat) (m : Option MReq) (ch : Option Nat) : State :=
  if !bit (s.o (0x3100 + dir) 6) (v / 512) then s.putVec dir v ws
  else if dir = 0 then ((s.putVec dir v ws).noteFresh s dir (wtBase dir + 384 * v) 96).requeue s
  else if 16 ≤ (s.tb dir).pendVec then s.modTb dir (fun t => { t with held := some ⟨v, ws, [], m, ch⟩ })
  else
    let s1 := ((s.putVec dir v ws).noteFresh s dir (wtBase dir + 384 * v) 96).modTb dir
      (fun t => { t with pendVec := t.pendVec + 1 })
    s1.seto (0x3100 + dir) 0x0E (s1.tb dir).pendVec

/-- One word written to active bank memory goes through the vector assembly (R69). -/
def State.asmWord (s : State) (dir v n w : Nat) (m : Option MReq) (ch : Option Nat) : State :=
  let start := fun (s : State) =>
    s.modTb dir (fun t => { t with asm := if n = 0 then some (v, [w]) else none })
  match (s.tb dir).asm with
  | none => start s
  | some (v', ws) =>
    if v' = v ∧ ws.length = n then
      if n = 95 then (s.modTb dir (fun t => { t with asm := none })).applyVec dir v (ws ++ [w]) m ch
      else s.modTb dir (fun t => { t with asm := some (v, ws ++ [w]) })
    else start (s.bump (0x3100 + dir) 0x0B 1)

/-- The word at an offset of the table arrives: behind a held vector it waits with it. -/
def State.asmStep (s : State) (dir : Nat) (m : Option MReq) (ch : Option Nat) (x : Nat × Nat) : State :=
  match (s.tb dir).held with
  | some h => s.modTb dir (fun t => { t with held := some { h with rest := h.rest ++ [x] } })
  | none => s.asmWord dir (x.1 / 384) (x.1 % 384 / 4) x.2 m ch

/-- At the symbol end the held vector is applied and the words behind it go on; with none held again, the access is
complete (R70). -/
def State.releaseHeld (s : State) (dir : Nat) : State :=
  match (s.tb dir).held with
  | some ⟨v, ws, rest, m, ch⟩ =>
    let s1 := (s.putVec dir v ws).modTb dir (fun t => { t with held := none, pendVec := t.pendVec + 1 })
    let s2 := rest.foldl (fun s x => s.asmStep dir m ch x) (s1.seto (0x3100 + dir) 0x0E (s1.tb dir).pendVec)
    if (s2.tb dir).held.isSome then s2
    else
      let s3 := match ch with
        | some c => { s2 with dma := { s2.dma with ch := amod 16 Chan.init s2.dma.ch c (fun x => { x with held := false }) } }
        | none => s2
      match m with
      | some q => s3.answer q.req q.op q.w1 St.ok []
      | none => s3
  | none => s

end Sys2Proof.Machine
end

