-- ==== Sys2Proof/Machine/Uplink.lean ====
section
/-!
DEFINITION. Own beams, partial-sum packets and in-network combining (chapter 05).
-/

namespace Sys2Proof.Machine

/-- Combining state of child port 1 (D1) or 2 (D2). -/
def State.chst (s : State) (port : Nat) : ChSt := smGet ChSt.init s.ul.ch (port - 1)
/-- It put through a function. -/
def State.modCh (s : State) (port : Nat) (f : ChSt → ChSt) : State :=
  { s with ul := { s.ul with ch := amod 2 ChSt.init s.ul.ch (port - 1) f } }

/-- Index of a child port's combining objects. -/
def chIdx (port : Nat) : Nat := 0x3035 + port

/-- CH_STATE of a child port: 0 NONE, 1 ADMITTED, 2 REMOVED. -/
def State.chState (s : State) (port : Nat) : Nat := s.o (chIdx port) 1

/-! ### Numbers (R119) -/

/-- An input mantissa on the grid of scale B. -/
def toGrid (m : Int) (e mi bi b : Nat) : Int :=
  let up := e + bi + 20
  let down := b + mi
  if down ≤ up then m * (2 ^ (up - down) : Nat) else roundHE m (down - up)

/-- A value fits in M bits. -/
def fitsM (m : Nat) (q : Int) : Bool := decide (satI m q = q)

/-- Encodes 24 grid values at the first exponent from e that fits; at 15 it clamps. -/
def encodeFrom (vs : List Int) (m : Nat) : Nat → Nat → Nat × List Int
  | 0, _ => (15, vs.map (fun v => satI m (roundHE v (35 - m))))
  | n + 1, e =>
    let q := vs.map (fun v => roundHE v (e + 20 - m))
    if q.all (fitsM m) then (e, q) else encodeFrom vs m n (e + 1)

/-- encode of R119. -/
def encode119 (vs : List Int) (m : Nat) : Nat × List Int := encodeFrom vs m 16 0

/-- Complex samples that encode clamps. -/
def clamped (vs : List Int) (m : Nat) : Nat :=
  if (List.range 16).any (fun e => (vs.map (fun v => roundHE v (e + 20 - m))).all (fitsM m)) then 0
  else ((List.range 12).filter (fun i =>
    let q := fun j => roundHE (vs.getD j 0) (35 - m)
    !(fitsM m (q (2 * i))) || !(fitsM m (q (2 * i + 1))))).length

/-! ### Own beams (R114 to R116) -/

/-- The carrier symbol that ends at an instant: its numerology, slot and symbol. -/
def State.endsAt (s : State) (E : Int) (c : Nat) : Option (Nat × Int × Nat) :=
  let T := E - 1
  let scs := s.carScs T 1 c
  let n := s.slotOf scs T
  let k := symAt scs (T - s.slotStart scs n).toNat
  if s.carActive T 1 c ∧ s.tAirEnd scs n k = E then some (scs, n, k) else none

/-- A radio state in which the RX side receives (Table 6-14). -/
def radioRx (r : Nat) : Bool := r == 3 || r == 5

/-- A tile is in the receive state for the whole of a symbol from T to E at the reference plane: its LO domain is in Receive at
the symbol's first sample at the RX balls and leaves it at no sample of the symbol, and the LO was ready throughout
(R115, R151). -/
def State.rxWhole (s : State) (T E : Int) (k : Nat) : Bool :=
  let d := s.rxBoardAt T
  let l := s.rxLo T k
  radioRx (s.pinAt (T + d) .radio l) &&
  s.rf.edges.all (fun e => !(e.kind == PinKind.radio && e.n == l && decide (T + d < e.at_) && decide (e.at_ < E + d)) || radioRx e.level) &&
  !(s.ul.rxGone.any (fun x => decide (x.1 = k) && decide (x.2.1 < E + d) && decide (T + d < x.2.2)))

/-- The paths that contribute to a symbol (R115, R178). -/
def State.contributing (s : State) (scs : Nat) (n : Int) (k : Nat) : List Nat :=
  let Ts := s.slotStart scs n
  let T := s.tAir scs n k
  allPaths.filter (fun p => s.rxOn Ts p && !s.benched T p && s.rxWhole T (s.tAirEnd scs n k) (tileOf p) &&
    decide ((tileOf p, T) ∉ s.ul.moved))

/-- A corrected FFT output of a path (R112). -/
def fftOf (fft : List (Nat × Nat × List (Int × Int))) (c p i : Nat) : Int × Int :=
  match fft.find? (fun x => decide (x.1 = c ∧ x.2.1 = p)) with
  | some x => let v := x.2.2.getD i (0, 0); (satI 20 v.1, satI 20 v.2)
  | none => (0, 0)

/-- One grid value pair of a beam (R115). -/
def beamVal (fft : List (Nat × Nat × List (Int × Int))) (c : Nat) (paths : List Nat) (v : List Nat) (i sh : Nat) : List Int :=
  let acc := paths.foldl (fun (a : Int × Int) p =>
    let f := fftOf fft c p i
    (a.1 + (f.1 * wI v p - f.2 * wQ v p), a.2 + (f.1 * wQ v p + f.2 * wI v p))) (0, 0)
  [roundHE acc.1 sh, roundHE acc.2 sh]

/-- The parts of a carrier's stream-symbol (R118): PART, first PRB, count. -/
def ulParts (nrb : Nat) : List (Nat × Nat × Nat) :=
  if nrb ≤ 137 then [(0, 0, nrb)] else [(0, 0, ceilDiv nrb 2), (1, ceilDiv nrb 2, nrb - ceilDiv nrb 2)]

/-- A resolved uplink stream: its groups with their weights. -/
abbrev UlGroups := List (Nat × Nat × WtRef)

/-- One record of a device's own packet: 24 grid values of a PRB, encoded. -/
def ownPrb (fft : List (Nat × Nat × List (Int × Int))) (c : Nat) (paths : List Nat) (gs : UlGroups) (sh p : Nat) : List Int :=
  match gs.find? (fun g => decide (g.1 ≤ p) && decide (p ≤ g.2.1)) with
  | some (_, _, .vec v) => (List.range 12).flatMap (fun i => beamVal fft c paths v (12 * p + i) sh)
  | _ => List.replicate 24 0

/-- The own packets of one carrier's symbol, their places still to be given, and what they count. -/
def State.ulCarrier (s : State) (E : Int) (fft : List (Nat × Nat × List (Int × Int))) (c : Nat)
    (x : Nat × Int × Nat) (cnt : RefCount) : State × RefCount × List OwnPkt :=
  let (scs, n, k) := x
  let Ts := s.slotStart scs n
  let rx := s.isRx scs n k
  let lost := (decide (k = 0) && decide ((c, n) ∈ s.ul.restart)) || decide ((c + 16, n) ∈ s.ul.restart)
  let silent := s.carShed Ts 1 c || lost
  let paths := if silent then [] else s.contributing scs n k
  let b := s.at_ Ts 0x3034 6
  let sh := 11 + s.at_ Ts 0x3034 4 + b
  let mw := s.at_ Ts 0x3034 5
  let ks := s.streamsOn Ts 1 c
  let y := getSym s.ul.sects c n k
  let (s, cnt, pk) := ks.foldl (fun (a : State × RefCount × List OwnPkt) j =>
    let (s, cnt, pk) := a
    let sid := s.slotWord Ts 1 c j % 2 ^ 16
    let r := match sectOf y.conf sid with
      | some q => s.resolve 1 Ts c j k q.ents
      | none => Resolved.none
    let vecs := match sectOf y.conf sid with | some q => q.vecs | none => []
    let refs := match sectOf y.conf sid with | some q => q.ents | none => []
    let gs := r.groups.map (fun g => (g.1, g.2.1, s.weight 1 Ts vecs g.2.2))
    let s := gs.foldl (fun s g => s.countWt 1 g.2.2) (s.latchRefs 1 Ts refs)
    let s := if rx && (sectOf y.conf sid).isNone then s.bump 0x3035 8 1 else s
    if !rx then (s, cnt.add r, pk)
    else
      let own := (ulParts (s.carNrb Ts 1 c)).map (fun q =>
        let sched := gs.any (fun g => meets g.1 g.2.1 q.2.1 (q.2.1 + q.2.2 - 1))
        let vals := (List.range q.2.2).map (fun i =>
          if silent then List.replicate 24 0 else ownPrb fft c paths gs sh (q.2.1 + i))
        let recs := vals.map (fun v => encode119 v (mw + 10))
        let sat := listSum (vals.map (fun v => clamped v (mw + 10)))
        (OwnPkt.mk E 0 c scs n k j sid q.1 q.2.1 q.2.2 recs (if sched then paths.length else 0) mw b [] false false, sat))
      let sat := listSum (own.map (fun o => o.2))
      let s := s.bump 0x3035 1 sat
      let s := if sat = 0 then s else s.slotAlarm Al.ulSat 0
      (s, cnt.add r, pk ++ own.map (fun o => o.1))) (s, cnt, [])
  let s := if lost then
      { s.bump 0x3035 7 1 with ul := { s.ul with
        restart := s.ul.restart.filter (fun (r : Nat × Int) => decide (¬ (r = (c, n) ∨ (r = (c + 16, n) ∧ k = 13)))) } }
    else s
  (s, cnt, pk)

/-- The payload of a packet of burst E (R117). -/
def State.ulPayload (s : State) (E : Int) (o : OwnPkt) (recs : List (Nat × List Int)) (tally nodes : Nat) : List Nat :=
  bytesBE 4 (airFields o.scs o.slot o.sym + o.mw * 2 ^ 9 + o.prbFirst) ++ bytesBE 4 (uWord1 o.count o.part tally) ++
    bytesBE 4 (uWord2 o.scale (s.at_ E 0x1221 0) nodes) ++ packRecs recs (o.mw + 10)

/-- Vectors of active memory written in the present cycle of FRAME, which wait for the next symbol end (R70, Table 5-7). -/
def State.vecsNow (s : State) : Nat := ((s.freshNow 1).filter (fun x => decide (x.2.1 < wtStaging 1))).length / 96

/-- UL_SYMBOL_END for the instant E: the transform of R112 from the ADC codes, own beams and packets, dynamic vectors, uplink
table writes (R108 to R118, R55, R70, R75, R131). DESIGN CHOICE (assumption 69): own packets stay for matching until 2 ms after E
(R123), and a CLEAR of 0x3035 to 0x3037 waits for a symbol end while no uplink carrier is active (R131). DESIGN CHOICE (assumption
67): a bank marked valid becomes so after the symbol's own weights were looked up (R75). -/
def State.ulSymbolEnd (s : State) (E : Int) (adc : AdcCodes) : State :=
  if s.time_ < E then s
  else
    let cs := (List.range 4).filterMap (fun c => (s.endsAt E c).map (fun x => (c, x)))
    if cs = [] then s
    else
      let fft := s.ulFfts adc cs
      let tied := s.vecsNow
      let s := s.backOut 1
      let (s, cnt, pk) := cs.foldl (fun (a : State × RefCount × List OwnPkt) c =>
        let r := a.1.ulCarrier E fft c.1 c.2 a.2.1
        (r.1, r.2.1, a.2.2 ++ r.2.2)) (s, ⟨[], [], 0⟩, [])
      let pk := (List.range pk.length).zip pk |>.map (fun x => { x.2 with p := x.1 })
      let s := s.putIn 1
      let s := cs.foldl (fun s x => s.capFeed 3 x.2.1 x.2.2.1 x.2.2.2 (fun q => q.car == x.1) (fun q =>
        (List.range (12 * s.carNrb (s.slotStart x.2.1 x.2.2.1) 1 x.1)).flatMap (fun i => capWord (fftOf fft x.1 q.path i)))) s
      let up := s.timeLocked && !s.clk.refBlank && !s.dl.stopped
      let s := if up then pk.foldl (fun s o => s.capFeed 4 o.scs o.slot o.sym (fun q => q.stream == o.stream)
        (fun _ => s.ulPayload E o o.recs o.tally (b2n (decide (0 < o.tally))))) s else s
      let s := (s.countRefs 1 cnt).ulSats adc cs
      let conf := cs.flatMap (fun c => (getSym s.ul.sects c.1 c.2.2.1 c.2.2.2).confirmed)
      let Ts := match cs with | c :: _ => s.slotStart c.2.1 c.2.2.1 | [] => E
      let s := s.dynWrites 1 Ts conf
      let s := (s.modTb 1 (fun t => { t with pendVec := tied })).seto 0x3101 0x0E tied
      let s := (s.releaseHeld 1).applyMarks 1
      let s := s.doClears [0x3035, 0x3036, 0x3037]
      { s with ul := { s.ul with
        own := s.ul.own.filter (fun (o : OwnPkt) => decide (E - 2 * (tMs : Int) < o.e)) ++ (if up then pk else []),
        child := s.ul.child.filter (fun (q : ChPkt) => decide (E - 2 * (tMs : Int) < q.e)),
        rxGone := s.ul.rxGone.filter (fun (x : Nat × Int × Int) => decide (E - 2 * (tMs : Int) < x.2.2)),
        sects := s.ul.sects.filter (fun (y : DlSym) => !(cs.any (fun c => y.is c.1 c.2.2.1 c.2.2.2))),
        fft := fft } }

/-! ### Departure and admission (R44, R45, R120 to R126) -/

/-- t_dep(H, p) of a burst (R44). -/
def State.tDep (s : State) (E : Int) (p : Nat) : Int :=
  E + ((18 * tUs + s.at_ E 0x1220 0 * tNs * s.at_ E 0x1221 0 + p * s.at_ E 0x1222 0 * tNs : Nat) : Int)

/-- Places of a burst that a sender at seven lanes leaves empty: this node on port U, or a child (R265). -/
def State.ulEmpty (s : State) (port : Nat) (E : Int) : List Nat :=
  let shed := if port = 0 then (if (s.port 0).lostTx.isSome then s.ulShed 0 (s.port 0).oPrev else [])
    else if (s.port port).lostRx.isSome then s.ulShed port (s.port port).oRxPrev else []
  s.emptyPlaces port shed ((s.ul.own.filter (fun o => decide (o.e = E))).map
    (fun o => (o.p, 16 * o.car + o.strm, s.tDep E o.p, 12 + recBytes o.count (o.mw + 10))))

/-- Removes a child from combining (Table 5-6). -/
def State.removeChild (s : State) (port : Nat) : State :=
  if s.chState port ≠ 1 then s
  else
    (((s.seto (chIdx port) 1 2).bump (chIdx port) 0x0C 1).modCh port
      (fun c => { c with run := 0, wellFormed := false, removeNow := false, admitFrom := none })).raise Al.ulChildRemoved port

/-- A child port leaves combining for good (Table 5-6, row "any"). -/
def State.childNone (s : State) (port : Nat) : State :=
  ((s.seto (chIdx port) 1 0).modCh port (fun _ => ChSt.init)).release .childAdder port

/-- The manager's own packet that a child packet belongs to (R123). -/
def State.matchOwn (s : State) (stream : Nat) (x : UPrefix) : Option OwnPkt :=
  s.ul.own.find? (fun o => decide (o.stream = stream ∧ o.part = x.part ∧ sfnOf o.scs o.slot = x.air.sfn ∧
    slotInFrame o.scs o.slot = x.air.slot ∧ o.sym = x.air.sym))

/-- A child takes part in combining for a symbol that starts at an instant (Table 5-7). -/
def State.childIn (s : State) (port : Nat) (start : Int) : Bool :=
  decide (s.chState port = 1) && (match (s.chst port).admitFrom with | some f => decide (f ≤ start) | none => true)

/-- The admissible packet of a child for a place. -/
def State.childWait (s : State) (o : OwnPkt) (port : Nat) : Option ChPkt :=
  s.ul.child.find? (fun q => decide (q.port = port ∧ q.e = o.e ∧ q.p = o.p) && !q.dead && !q.adm)

/-- A child's packet with something else in its place. -/
def State.putChild (s : State) (q z : ChPkt) : State :=
  { s with ul := { s.ul with child := s.ul.child.filter (fun x => decide (x ≠ q)) ++ [z] } }

/-- A child packet that is not admissible: that it was seen is what stays of it. -/
def ChPkt.spent (q : ChPkt) : ChPkt := { q with dead := true, recs := [] }

/-- The last two checks of Table 5-5 at the cut-off, for the packet that waits: the state after, and whether it is admitted. -/
def State.admitChild (s : State) (o : OwnPkt) (port : Nat) : State × Bool :=
  match s.childWait o port with
  | some q =>
    let sum := o.tally + listSum ((s.ul.child.filter (fun x => decide (x.e = o.e ∧ x.p = o.p) && x.adm)).map (fun x => x.tally))
    if 2 ^ 20 < sum + q.tally then (((s.bump (chIdx port) 0x0A 1).slotAlarm Al.ulTallyOver 0).putChild q q.spent, false)
    else ((s.bump (chIdx port) 4 1).putChild q { q with adm := true }, true)
  | none => (s, false)

/-- Notes on an own packet how its place came out for a child port. -/
def State.noteJudged (s : State) (o : OwnPkt) (port : Nat) (miss : Bool) : State :=
  { s with ul := { s.ul with own := s.ul.own.map (fun (q : OwnPkt) => if q.e = o.e ∧ q.p = o.p then
      { q with judged := q.judged.filter (fun x => decide (x.1 ≠ port)) ++ [(port, miss)] } else q) } }

/-- How the places of a burst came out for a child port so far. -/
def State.judgedOf (s : State) (E : Int) (port : Nat) : List Bool :=
  (s.ul.own.filter (fun o => decide (o.e = E))).flatMap (fun o => (o.judged.filter (fun x => decide (x.1 = port))).map (fun x => x.2))

/-- The cut-off of one child port for place p of burst E: admits its packet, or counts it missing; with the last place the
burst is judged for the run of Table 5-6. -/
def State.cutChild (s : State) (o : OwnPkt) (last : Bool) (port : Nat) : State :=
  let i := chIdx port
  if !s.childIn port (s.tAir o.scs o.slot o.sym) then
    match s.childWait o port with
    | some q => (s.bump i 0x0B 1).putChild q q.spent
    | none => s
  else
    let r := s.admitChild o port
    let empty := (s.childWait o port).isNone && decide (s.rxWidth port = 7) && decide (o.p ∈ s.ulEmpty port o.e)
    let s3 := if empty then r.1.bump (0x6010 + port) 0x0C 1
      else (if r.2 then r.1 else r.1.bump i 5 1).noteJudged o port (!r.2)
    if !last then s3
    else
      let b := s3.judgedOf o.e port
      let run := if b = [] then (s3.chst port).run else if b.all id then (s3.chst port).run + 1 else 0
      let s4 := s3.modCh port (fun c => { c with run := run })
      if run = 32 then s4.removeChild port else s4

/-- A child packet of the exact cut-off that UL_CUTOFF overtook in the queue: it is admitted all the same (Table 5-7), and what
counted as missing does no more; a burst with an admitted packet ends the run. -/
def State.cutAgain (s : State) (o : OwnPkt) (port : Nat) : State :=
  if (port, true) ∉ o.judged then s
  else
    let s1 := s.seto (chIdx port) 5 (s.o (chIdx port) 5 + 2 ^ 32 - 1)
    let r := s1.admitChild o port
    if r.2 then (r.1.noteJudged o port false).modCh port (fun c => { c with run := 0 })
    else r.1.bump (chIdx port) 5 1

/-- UL_CHILD_PACKET_ARRIVAL on child port 1 or 2 (R123, Table 5-5). What a check at the cut-off decides (the child's
state and the tally limit) is left to UL_CUTOFF (Table 5-7). -/
def State.ulChildPacket (s : State) (port : Nat) (p : Pkt) : State :=
  let i := chIdx port
  if s.chState port = 0 then s.bump i 0x0B 1
  else
    let x := uPrefix p.payload
    match s.matchOwn p.stream x with
    | none => (s.bump i 7 1).slotAlarm Al.ulFormat 0
    | some o =>
      let seen := s.ul.child.any (fun q => decide (q.port = port ∧ q.e = o.e ∧ q.p = o.p))
      let formOk := decide (x.first = o.prbFirst ∧ x.count = o.count ∧ x.mw ≤ 6 ∧ p.payload.length = uLen x) && !seen
      let H := s.at_ o.e 0x1221 0
      let B := o.scale
      let start := s.tAir o.scs o.slot o.sym
      let admitted := s.childIn port start
      let pkt : ChPkt := ⟨port, o.e, o.p, unpackRecs (p.payload.drop 12) (x.mw + 10) x.count, x.mw + 10, x.scale,
        x.tally, x.nodes, false, false⟩
      let keep := fun (s : State) (q : ChPkt) => { s with ul := { s.ul with child := s.ul.child ++ [q] } }
      let s1 := if formOk then (s.seto i 2 x.height).seto i 3 x.scale else s
      if !admitted then
        let ok := formOk && decide (x.height < H) && decide (x.scale ≤ B)
        let s2 := s1.bump i 0x0B 1
        keep (if ok then s2.modCh port (fun c => { c with wellFormed := true }) else s2) pkt.spent
      else if !formOk then
        let s2 := (s1.bump i 7 1).slotAlarm Al.ulFormat 0
        if seen then s2 else keep s2 pkt.spent
      else if H ≤ x.height then keep ((s1.bump i 8 1).slotAlarm Al.ulHeightBad port) pkt.spent
      else if B < x.scale then keep ((s1.bump i 9 1).slotAlarm Al.ulScaleBad port) pkt.spent
      else if s.tDep o.e o.p - ((tUs / 2 : Nat) : Int) < s.time_ then
        keep (s1.bump i 6 1) pkt.spent
      else if o.cut then (keep s1 pkt).cutAgain o port
      else keep s1 pkt

/-- UL_CUTOFF for place p of burst E (R45, R123, R125), once. -/
def State.ulCutoff (s : State) (E : Int) (p : Nat) : State :=
  match s.ul.own.find? (fun o => decide (o.e = E ∧ o.p = p)) with
  | none => s
  | some o =>
    if s.time_ < s.tDep E p - ((tUs / 2 : Nat) : Int) ∨ o.cut then s
    else
      let s := { s with ul := { s.ul with own := s.ul.own.map (fun q => if q = o then { q with cut := true } else q) } }
      let last := !(s.ul.own.any (fun q => decide (q.e = E ∧ q.p = p + 1)))
      (s.cutChild o last 1).cutChild o last 2

/-- The sum of one PRB: own values and those of the admitted children, on the grid (R120). -/
def combinePrb (own : Nat × List Int) (m b : Nat) (ch : List ChPkt) (i : Nat) : List Int :=
  (List.range 24).map (fun j =>
    (ch.map (fun q => let r := q.recs.getD i (0, []); toGrid (r.2.getD j 0) r.1 q.m q.scale b)).foldl (· + ·)
      (toGrid (own.2.getD j 0) own.1 m b b))

/-- UL_PACKET_DEPART of place p of burst E (R44, R120, R126): the packet leaves on port U at its time. -/
def State.ulDepart (s : State) (E : Int) (p : Nat) : State :=
  match s.ul.own.find? (fun o => decide (o.e = E ∧ o.p = p)) with
  | none => s
  | some o =>
    let s1 := { s with ul := { s.ul with own := s.ul.own.map (fun q => if q = o then { q with gone := true } else q) } }
    if s.time_ < s.tDep E p ∨ o.gone then s
    else if s.txWidth 0 = 7 ∧ p ∈ s.ulEmpty 0 E then s1
    else if !s.timeLocked || s.clk.refBlank || s.dl.stopped then s1
    else if (smGet FcState.init (s.port 0).tx 2).held then s1
    else
      let ch := s.ul.child.filter (fun q => decide (q.e = E ∧ q.p = p) && q.adm)
      let mw := o.mw
      let b := o.scale
      let vals := (List.range o.count).map (fun i => combinePrb (o.recs.getD i (0, [])) (mw + 10) b ch i)
      let recs := if ch = [] then o.recs else vals.map (fun v => encode119 v (mw + 10))
      let sat := if ch = [] then 0 else listSum (vals.map (fun v => clamped v (mw + 10)))
      let tally := o.tally + listSum (ch.map (fun q => q.tally))
      let nodes := b2n (decide (0 < o.tally)) + listSum (ch.map (fun q => q.nodes))
      let pay := s.ulPayload E o recs tally nodes
      let s2 := s1.bump 0x3035 1 sat
      let s3 := if sat = 0 then s2 else s2.slotAlarm Al.ulSat 0
      let s4 := { s3 with ul := { s3.ul with
        sent := s3.ul.sent.filter (fun (x : Int × Nat × List Nat) => decide (E - (tMs : Int) < x.1)) ++ [(E, p, pay)],
        child := s3.ul.child.map (fun (q : ChPkt) => if q.e = E ∧ q.p = p then q.spent else q) } }
      let s4 := s4.capFeed 5 o.scs o.slot o.sym (fun q => q.stream == o.stream) (fun _ => pay)
      (s4.send 0 (s4.mkPkt 0x3FFFF Cls.u 0 o.stream pay) true (some (s.tDep E p))).fcJudge

/-! ### The commands -/

def execUlSymbolEnd (t : Tick) (e : Int) (adc : AdcCodes) (s : State) :
    Host.Outcome State Fault Refusal :=
  s.run t (fun s => s.ulSymbolEnd e adc)

def execUlPacketDepart (t : Tick) (e : Int) (p : Nat) (s : State) : Host.Outcome State Fault Refusal :=
  s.run t (fun s => s.ulDepart e p)

def execUlChildPacketArrival (t : Tick) (port : Nat) (p : Pkt) (s : State) : Host.Outcome State Fault Refusal :=
  s.run t (fun s => if port = 1 ∨ port = 2 then s.ulChildPacket port p else s)

def execUlCutoff (t : Tick) (e : Int) (p : Nat) (s : State) : Host.Outcome State Fault Refusal :=
  s.run t (fun s => s.ulCutoff e p)

end Sys2Proof.Machine
end

