-- ==== Sys2Proof/Machine/Access.lean ====
section
/-!
DEFINITION. How an object access is judged (R332 to R336), the staging set (R338, R342), and how a request runs.
-/

namespace Sys2Proof.Machine

/-- The access level of a request at this node (R335): the session holder's level, Operate or Observe for a remote
node or the LHP; the device's own blocks and tasks hold every level (DEDUCED, assumption 6). -/
def State.level (s : State) (r : Req) : Nat :=
  if (s.lock 26).owner = reqWord r ∧ reqWord r ≠ 0 then s.o 0x8023 2
  else if r.kind = 3 then s.o 0x1010 2
  else if r.kind = 2 then s.o 0x1010 1
  else 3

/-- The ROM answers requests itself: it is in recovery, or waits for a bundle (R437, R438). -/
def State.recovery (s : State) : Bool := decide (s.o 0x8000 1 = 2) || s.start.romWait

/-- Channel bandwidths of TS 38.101-1 in PRBs, 5 to 50 MHz at 15 kHz and 10 to 100 MHz at 30 kHz (Table 4-14;
PRESUMED, assumption 7). -/
def nrbOf (scs : Nat) : List Nat :=
  if scs = 0 then [25, 52, 79, 106, 133, 160, 188, 216, 242, 270]
  else [24, 38, 51, 65, 78, 92, 106, 119, 133, 162, 189, 217, 245, 273]

/-- Those of either spacing: what a write alone may set (the commit judges the pair, R340). -/
def nrbSet : List Nat := nrbOf 0 ++ nrbOf 1

/-- A value lies in its type's encoding and in its object's range (R333). -/
def valueOk (r : ObjRow) (v : Nat) : Bool :=
  (match r.ty with
   | .bool => decide (v ≤ 1)
   | .time96 => decide ((v / 2 ^ 16) % 2 ^ 32 < 1000000000)
   | _ => true) &&
  (match r.rng with
   | .any => true
   | .rng lo hi =>
     let x : Int := match r.ty with | .i n => toInt (8 * n) v | _ => (v : Int)
     decide (lo ≤ x) && decide (x ≤ hi)
   | .oneOf l => decide (v ∈ l)
   | .zeroOr lo hi => decide (v = 0) || (decide (lo ≤ v) && decide (v ≤ hi))
   | .orFF hi => decide (v ≤ hi) || decide (v = 255)
   | .nrb => decide (v ∈ nrbSet)
   | .bank => decide (v % 8 < 6))

/-- Reserved bits of a written value are ignored (R4). -/
def maskOf (r : ObjRow) (v : Nat) : Nat := if r.mask = 0 then v else v &&& r.mask

/-- Whether an index exists, whether the subindex does, and the row (R332). -/
def lookup (i sub : Nat) : Nat × Option ObjRow :=
  match dictIndex i with
  | none => (St.noObject, none)
  | some e =>
    if e.count < sub then (St.noSubindex, none)
    else (St.ok, e.rows.find? (fun r => decide (r.lo ≤ sub) && decide (sub ≤ r.hi)))

/-- No operator credential is enrolled (R441). -/
def State.noCred (s : State) : Bool := (List.range 8).all (fun n => s.o 0x8022 (n + 1) != 1)

/-- Level a write needs: that of its table; Operate for FW_VERIFY in recovery (R438), and for CRED_KEYS from the LHP while no
slot is enrolled (R441). -/
def State.writeLevel (s : State) (q : Req) (i sub : Nat) (r : ObjRow) : Nat :=
  if i = 0x8000 ∧ sub = 3 ∧ s.recovery then 1
  else if i = 0x8021 ∧ q.kind = 3 ∧ s.noCred then 1 else r.lvl

/-- Judges a write (R334), the first failure deciding; on OK the value with its reserved bits cleared. -/
def State.judgeW (s : State) (r : Req) (i sub : Nat) (data : List Nat) : Nat × Nat :=
  match lookup i sub with
  | (0, some row) =>
    if s.level r < s.writeLevel r i sub row then (St.noAccess, 0)
    else if row.mode = .ro ∨ demandIndex i ≠ i then (St.readOnly, 0)
    else if data.length ≠ row.ty.len then (St.badLength, 0)
    else
      let v := maskOf row (ofBytesBE data)
      if valueOk row v then (St.ok, v) else (St.badValue, 0)
  | (0, none) => (St.readOnly, 0)
  | (e, _) => (e, 0)

/-- Judges a read (R334): an object of level Maintain or Vendor needs that level to read. -/
def State.judgeR (s : State) (r : Req) (i sub : Nat) : Nat :=
  match lookup i sub with
  | (0, some row) =>
    if 2 ≤ row.lvl ∧ s.level r < row.lvl then St.noAccess
    else if row.mode = .wo then St.writeOnly else St.ok
  | (0, none) => St.ok
  | (e, _) => e

/-- Whether an object is staged. -/
def isStaged (i sub : Nat) : Bool :=
  match lookup i sub with | (0, some row) => row.mode == .rws | _ => false

/-- Frees the staging set and its lock (R338, R340, R342). -/
def State.freeStage (s : State) : State := { s with stage := none }.setLock 27 lockFree

/-- A staging set is lost: COMMIT_LEASE_EXP counts it (R342). -/
def State.loseStage (s : State) : State :=
  if s.stage.isSome then s.freeStage.bump 0x1F00 9 1 else s

/-- The instant at which a lease that is renewed now ends. -/
def State.stageEnd (s : State) : Nat := s.now + s.o 0x1F00 8 * tMs

/-- An RWS write opens or joins the staging set and renews its lease (R338). -/
def State.stageWrite (s : State) (r : Req) (i sub v : Nat) : Nat × State :=
  match s.stage with
  | none =>
    (St.ok, { s with stage := some ⟨reqWord r, [(key i sub, v)], s.stageEnd⟩ }.setLock 27 ⟨reqWord r, some s.stageEnd⟩)
  | some g =>
    if g.owner ≠ reqWord r then (St.stageOwned, s)
    else
      (St.ok, { s with stage := some ⟨g.owner, smInsert g.vals (key i sub) v, s.stageEnd⟩ }.setLock 27
        ⟨reqWord r, some s.stageEnd⟩)

/-- Word 1 of an object request's prefix (Table 10-13). -/
def objWord (i sub : Nat) : Nat := i * 65536 + sub * 256

/-- Every request from the session holder renews its lease (R440). -/
def State.renew (s : State) (r : Req) : State :=
  if (s.lock 26).owner = reqWord r ∧ reqWord r ≠ 0 then s.setLock 26 ⟨reqWord r, some (s.now + s.o 0x8020 6 * tSec)⟩ else s

/-- A request waits its turn in the queue of R256, as every request does while the control processor is absent (R15). -/
def State.wait (s : State) (m : MReq) : State := { s with mq := s.mq ++ [m] }

/-- A request runs: while the control processor is absent it waits for its return, and past 30 ms it is answered
CP_ABSENT (R15, R16); `f` gives the status, the data and the state after. -/
def State.serve (s : State) (r : Req) (op w1 : Nat) (f : State → Nat × List Nat × State) : State :=
  if s.cpLost then s.answer r op w1 St.cpAbsent []
  else if s.cpAbsent.isSome then s.wait ⟨r, op, w1, 0, [], s.now, false⟩
  else
    let x := f (s.renew r)
    x.2.2.answer r op w1 x.1 x.2.1

/-- Writes an object under its own rule, after the common judgement; a rule that answers later gives no status yet. -/
def State.writeLate (s : State) (r : Req) (i sub : Nat) (data : List Nat) (rule : State → Nat → Option Nat × State) : State :=
  let w := objWord i sub
  if s.cpLost then s.answer r 2 w St.cpAbsent []
  else if s.cpAbsent.isSome then s.wait ⟨r, 2, w, data.length, data, s.now, false⟩
  else
    let s := s.renew r
    if s.recovery ∧ ¬ (i = 0x8000 ∧ sub = 3) then s.answer r 2 w St.recovery []
    else
      match s.judgeW r i sub data with
      | (0, v) =>
        match rule s v with
        | (some st, s) => s.answer r 2 w st []
        | (none, s) => s
      | (e, _) => s.answer r 2 w e []

/-- Writes an object whose rule answers at once. -/
def State.writeBy (s : State) (r : Req) (i sub : Nat) (data : List Nat) (rule : State → Nat → Nat × State) : State :=
  s.writeLate r i sub data (fun s v => let x := rule s v; (some x.1, x.2))

/-- Reads an object under its own rule, after the common judgement; in recovery only identity and the hallmark objects
are read (R438). -/
def State.readBy (s : State) (r : Req) (i sub : Nat) (rule : State → Nat × List Nat × State) : State :=
  s.serve r 1 (objWord i sub) (fun s =>
    if s.recovery ∧ i ≠ 0x1000 ∧ i / 256 ≠ 0x80 then (St.recovery, [], s)
    else match s.judgeR r i sub with
      | 0 => rule s
      | e => (e, [], s))

/-- The bytes of a value written to an object. -/
def objBytes (i sub v : Nat) : List Nat := bytesBE (width (key i sub)) v

/-- Index, and OK or the first failure: what a rule answers when all it does is act. -/
def acts (s : State) : Nat × State := (St.ok, s)

end Sys2Proof.Machine
end

