-- ==== Sys2Proof/Machine/TableCmds.lean ====
section
/-!
DEFINITION. Changing a table in service (R57, R63 to R71, R75): staging, the schedule's inactive copy, direct
writes, and the commands that drive them.
-/

namespace Sys2Proof.Machine

/-! ### Whole ranges of memory -/

/-- A cell lies in a range. -/
def inRange (a n x : Nat) : Bool := decide (a ≤ x) && decide (x < a + n)

/-- Memory with the n bytes from dst holding zero. -/
def State.clearMem (s : State) (dst n : Nat) : State :=
  { s with mem := s.mem.filter (fun c => !inRange dst n c.1),
           dma := { s.dma with uncorr := s.dma.uncorr.filter (fun x => !inRange dst n x) } }

/-- Cells put in place. -/
def State.putCells (s : State) (l : List Host.Cell) : State :=
  { s with mem := l.foldl (fun m c => smSet (0 : BitVec 8) m c.1 c.2) s.mem }

/-- The cells of a range moved elsewhere. -/
def State.cellsAt (s : State) (src n dst : Nat) : List Host.Cell :=
  (s.mem.filter (fun c => inRange src n c.1)).map (fun c => (c.1 - src + dst, c.2))

/-- Memory with the n bytes from src copied to dst. -/
def State.copyMem (s : State) (src dst n : Nat) : State := (s.clearMem dst n).putCells (s.cellsAt src n dst)

/-- Memory with the n bytes from a and from b exchanged. -/
def State.swapMem (s : State) (a b n : Nat) : State :=
  let ca := s.cellsAt a n b
  let cb := s.cellsAt b n a
  let err := s.dma.uncorr.map (fun x => if inRange a n x then x - a + b else if inRange b n x then x - b + a else x)
  let s1 := ((s.clearMem a n).clearMem b n).putCells (ca ++ cb)
  { s1 with dma := { s1.dma with uncorr := err } }

/-- Bytes of a weight bank, and of a schedule copy. -/
def bankBytes : Nat := 196608
def schedBytes : Nat := 8192

/-! ### Staging and swap (R63 to R65) -/

/-- STAGE_OPEN: staging restarts for the named bank, unless its swap is committed. -/
def State.stageOpen (s : State) (dir v : Nat) : Nat × State :=
  if s.o (0x3100 + dir) 4 = 3 then (St.stageBusy, s)
  else acts ((s.seto (0x3100 + dir) 4 1).modTb dir (fun t => { t with bank := bits v 0 2, fill := some (s.now, bit v 7) }))

/-- The staging fill completes: the bank as it stands now, or zero. -/
def State.stageFilled (s : State) (dir : Nat) : State :=
  match (s.tb dir).fill with
  | some (_, zero) =>
    let s1 := if zero then s.clearMem (wtStaging dir) bankBytes
      else s.copyMem (wtBase dir + (s.tb dir).bank * bankBytes) (wtStaging dir) bankBytes
    (s1.seto (0x3100 + dir) 4 2).modTb dir (fun t => { t with fill := none })
  | none => s

/-- 100 µs after the boundary the old bank memory becomes the staging memory (R65). -/
def State.swapRelease (s : State) (dir : Nat) : State :=
  match (s.tb dir).swap with
  | some (b, B) =>
    if (s.tb dir).swapped && decide (B + ((100 * tUs : Nat) : Int) ≤ s.time_) then
      let s1 := s.swapMem (wtBase dir + b * bankBytes) (wtStaging dir) bankBytes
      ((s1.seto (0x3100 + dir) 4 0).setBoth (0x3100 + dir) 5 0).modTb dir (fun t => { t with swap := none, swapped := false })
    else s
  | none => s

/-- At its activation boundary a swapped bank is valid (R65). -/
def State.swapBoundary (s : State) (dir : Nat) : State :=
  match (s.tb dir).swap with
  | some (b, _) => (s.setBit (0x3100 + dir) 6 b true).modTb dir (fun t => { t with swapped := true })
  | none => s

/-- BANK_MARK_VALID: the banks become valid at the next touchstone or uplink symbol end (R75). -/
def State.bankMark (s : State) (dir v : Nat) : Nat × State :=
  acts (s.modTb dir (fun t => { t with markPend := t.markPend ||| (v % 16) }))

/-! ### The schedule's inactive copy (R66) -/

/-- Bytes bound for the schedule region from an address on, with bit 9 of each word 0, which is reserved, at 0 (Table 3-2,
R4). -/
def schedMask (a : Nat) (bs : List Nat) : List Nat :=
  ((List.range bs.length).zip bs).map (fun x => if (a + x.1) % 8 = 1 then withBit x.2 1 false else x.2)

/-- SCHED_CLONE: the copy starts, or starts again. -/
def State.schedClone (s : State) (dir v : Nat) : Nat × State :=
  if v = 0 then acts s
  else if s.o (0x3200 + dir) 2 = 2 then (St.stageBusy, s)
  else acts ((s.seto (0x3200 + dir) 2 1).modTb dir (fun t => { t with clone := some (s.now, []) }))

/-- The copy completes. A word of either copy written meanwhile is open: it holds a free value. -/
def State.schedCloned (s : State) (dir : Nat) : State :=
  match (s.tb dir).clone with
  | some (_, touched) =>
    let s1 := s.copyMem (schedBase dir) (schedInactive dir) schedBytes
    let s2 := touched.foldl (fun s o => let d := s.draw 32; d.2.wrBytes (schedInactive dir + o)
      (schedMask (schedInactive dir + o) (bytesLE 4 d.1))) s1
    (s2.seto (0x3200 + dir) 2 0).modTb dir (fun t => { t with clone := none })
  | none => s

/-- At its boundary the two copies exchange roles, and every latch is loaded from the newly active copy. -/
def State.schedBoundary (s : State) (dir : Nat) : State :=
  match (s.tb dir).sched with
  | some _ =>
    if (s.tb dir).schedDone then s
    else
      let s1 := s.swapMem (schedBase dir) (schedInactive dir) schedBytes
      let s2 := ((s1.seto (0x3200 + dir) 2 0).setBoth (0x3200 + dir) 3 0).modTb dir (fun t => { t with schedDone := true })
      let latch := (List.range 1024).foldl (fun m e =>
        let w := s2.rd32 (schedBase dir + 8 * e) * 2 ^ 32 + s2.rd32 (schedBase dir + 8 * e + 4)
        smSet 0 m e (if entTorn w then 0 else w)) []
      s2.modTb dir (fun t => { t with latch := latch })
  | none => s

/-- Some entry of the inactive copy is torn (R66). -/
def State.inactiveTorn (s : State) (dir : Nat) : Bool :=
  (List.range 1024).any (fun e =>
    entTorn (s.rd32 (schedInactive dir + 8 * e) * 2 ^ 32 + s.rd32 (schedInactive dir + 8 * e + 4)))

/-- Torn entries of the active copy, judged at each slot boundary: an entry torn at two in a row raises SCHED_TORN
(R67). -/
def State.tornJudge (s : State) (dir : Nat) : State :=
  let torn := (List.range 1024).filter (fun e =>
    entTorn (s.rd32 (schedBase dir + 8 * e) * 2 ^ 32 + s.rd32 (schedBase dir + 8 * e + 4)))
  let both := torn.any (fun e => decide (e ∈ (s.tb dir).torn))
  let s1 := s.modTb dir (fun t => { t with torn := torn })
  if both then s1.slotAlarm Al.schedTorn 0 else s1

/-! ### Direct writes (R57, R69 to R71) -/

/-- Refuses a write to a direction's regions: DIRECT_REFUSED counts it. -/
def State.refuseDirect (s : State) (dir : Nat) : State := s.bump (0x3100 + dir) 0x0C 1

/-- A write of words to the weight table (R57, R69, R71). -/
def State.wtWrite (s : State) (dir a : Nat) (ws : List Nat) (m : Option MReq) (ch : Option Nat) : Nat × State :=
  let off := a - wtBase dir
  let vs := (List.range ws.length).map (fun i => (off + 4 * i) / 384)
  if vs.any (s.isDyn dir s.time_) then (St.readOnly, s.refuseDirect dir)
  else if s.o (0x3100 + dir) 4 = 3 ∧ vs.any (fun v => v / 512 == (s.tb dir).bank) then (St.stageBusy, s.refuseDirect dir)
  else
    acts (((List.range ws.length).zip ws).foldl (fun s x => s.asmStep dir m ch (off + 4 * x.1, x.2)) s)

/-- A write to staging (R63). -/
def State.stagingWrite (s : State) (dir a : Nat) (bs : List Nat) : Nat × State :=
  if s.o (0x3100 + dir) 4 = 2 then acts (s.wrBytes a bs) else (St.stageBusy, s.refuseDirect dir)

/-- Offset of an address in its schedule copy, and the direction of the copy. -/
def schedDir (a : Nat) : Nat := (a - 0x10400000) / 0x2000 % 2
def schedOff (a : Nat) : Nat := (a - 0x10400000) % 0x2000

/-- A write to the schedule region (R66, R68, R71): refused whole if it touches a copy whose swap is committed. -/
def State.schedWrite (s : State) (a : Nat) (bs : List Nat) : Nat × State :=
  let ws := (List.range (bs.length / 4)).map (fun i => a + 4 * i)
  let hit := fun d => decide (s.o (0x3200 + d) 2 = 2) && ws.any (fun x => schedDir x == d)
  if hit 0 || hit 1 then
    (St.stageBusy, (if hit 1 then (if hit 0 then s.refuseDirect 0 else s).refuseDirect 1 else s.refuseDirect 0))
  else
    let note := fun (s : State) (x : Nat) => s.modTb (schedDir x) (fun t =>
      match t.clone with
      | some (st, l) => { t with clone := some (st, if schedOff x ∈ l then l else l ++ [schedOff x]) }
      | none => t)
    let s0 := s
    let s1 := (ws.foldl note (s.wrBytes a (schedMask a bs)))
    let s1 := ws.foldl (fun s x => s.noteFresh s0 (schedDir x) x 1) s1
    acts (if ws.any (fun x => schedDir x == 0) then s1.requeue s else s1)

/-! ### The commands -/

def execStageOpen (t : Tick) (r : Req) (dir v : Nat) (s : State) : Host.Outcome State Fault Refusal :=
  s.run t (fun s => s.writeBy r (0x3100 + dir % 2) 3 (objBytes 0x3100 3 v) (fun s v => s.stageOpen (dir % 2) v))

def execStageFillDone (t : Tick) (dir : Nat) (s : State) : Host.Outcome State Fault Refusal :=
  s.run t (fun s => s.stageFilled (dir % 2))

def execStageSwapRelease (t : Tick) (dir : Nat) (s : State) : Host.Outcome State Fault Refusal :=
  s.run t (fun s => s.swapRelease (dir % 2))

def execBankMarkValid (t : Tick) (r : Req) (dir v : Nat) (s : State) : Host.Outcome State Fault Refusal :=
  s.run t (fun s => s.writeBy r (0x3100 + dir % 2) 7 (objBytes 0x3100 7 v) (fun s v => s.bankMark (dir % 2) v))

def execSchedClone (t : Tick) (r : Req) (dir v : Nat) (s : State) : Host.Outcome State Fault Refusal :=
  s.run t (fun s => s.writeBy r (0x3200 + dir % 2) 1 (objBytes 0x3200 1 v) (fun s v => s.schedClone (dir % 2) v))

def execSchedCloneDone (t : Tick) (dir : Nat) (s : State) : Host.Outcome State Fault Refusal :=
  s.run t (fun s => s.schedCloned (dir % 2))

end Sys2Proof.Machine
end

