-- ==== Sys2Proof/Machine/Rf.lean ====
section
/-!
DEFINITION. RF paths and the front end (chapter 06): entry into and exit from the radio states, fast stops, the
gate-bias interlock, attenuation, suppression and the coexistence handshake.
-/

namespace Sys2Proof.Machine

/-- A number of nanoseconds as a difference of instants. -/
def ns (n : Int) : Int := n * (tNs : Int)

/-- Skews in units of 0.5 ns (R148). -/
def State.skew (s : State) (i sub : Nat) : Int := s.ai i sub * ((tNs / 2 : Nat) : Int)

/-- TX and RX board delays in force (R26). -/
def State.txBoard (s : State) : Int := ((s.a 0x1208 0 * tPs : Nat) : Int)
def State.rxBoard (s : State) : Int := ((s.a 0x1209 0 * tPs : Nat) : Int)

/-- Tiles fed by a synthesiser on the TX side, or on the RX side. -/
def State.txTiles (s : State) (l : Nat) : List Nat := (List.range 12).filter (fun k => s.txLo s.time_ k == l)
def State.rxTiles (s : State) (l : Nat) : List Nat := (List.range 12).filter (fun k => s.rxLo s.time_ k == l)

/-- FDD in force (R156). -/
def State.fdd (s : State) : Bool := decide (s.a 0x2020 1 = 1)

/-- PATH_TX_BLOCK of a path, and one bit of it set or cleared. -/
def State.block (s : State) (n : Nat) : Nat := s.o 0x2106 (n + 1)
def State.setBlock (s : State) (n b : Nat) (v : Bool) : State := s.setBit 0x2106 (n + 1) b v

/-- No fault cleared since the last slot boundary keeps a path silent, and the Synth-on entry for a symbol that starts at T begins
after the boundary that released it (R154). -/
def State.unheld (s : State) (T : Int) (n : Nat) : Bool :=
  s.rf.held.all (fun x => decide (x.1 ≠ n) ||
    (match x.2 with | none => false | some B => decide (B ≤ T - s.txBoard - ns 5000)))

/-- A path may raise TXON_n for a symbol that starts at T: enabled then, not blocked by bits 0, 2, 3 or 4, and not waiting for a slot
boundary after a cleared fault (R152, R154, R159). -/
def State.mayTx (s : State) (T : Int) (n : Nat) : Bool :=
  s.txEnAct T n && !bit (s.block n) 4 && s.unheld T n && s.domOn Dom.hk

/-- A path on the bench is in a transmit assay: TX_LOL, TX_IQ or the TX half of RECIP (Table 9-4). In phase B of start-up calibration
every path that the step covers is (R216). -/
def State.txAssay (s : State) (n : Nat) : Bool :=
  if s.cal.step ≠ 9 then decide (7 ≤ s.cal.step) && s.cal.stepAt.isSome
  else match s.cal.bench with
  | some b => b.running && decide (n ∈ b.paths) && decide (1 ≤ smGet 0 s.cal.prog (2 * n) ∧ smGet 0 s.cal.prog (2 * n) ≤ 3)
  | none => false

/-- A benched or parked path outside its transmit assays, now or at T: its TXON_n stays deasserted (R216, R218, R223). -/
def State.benchMute (s : State) (T : Int) (n : Nat) : Bool :=
  (s.benched T n || s.benched s.time_ n) && !s.txAssay n

/-- The edges that silence a path from an origin on, its gate left to the tile (R223, Table 6-5). -/
def State.benchSilence (s : State) (O : Int) (n : Nat) : State :=
  (s.edge O .driver n 0).edge (O + ns 100 + s.skew 0x2004 (n + 1)) .txon n 0

/-- A path's touchstone output is zero on every subcarrier of every carrier. -/
def State.silent (s : State) (n : Nat) : Bool :=
  s.dl.out.all (fun o => o.b.all (fun x => decide (x.1 / 4096 ≠ n)))

/-- A path dozes in the symbol whose touchstone was last, if it is a TX symbol; benched paths follow R223 (R394). -/
def State.dozes (s : State) (T : Int) (n : Nat) : Bool := decide (s.a 0x5040 4 = 1) && !s.benched T n && s.silent n

/-- GATE_RX_MODE of a path in force. -/
def State.gateRx (s : State) (n : Nat) : Nat := s.a 0x2005 (n + 1)

/-- A gate that drives moves to a level; a channel that is high-impedance stays so (R422). -/
def State.gateEdge (s : State) (T : Int) (n level : Nat) : State := if s.pin .gate n = 0 then s else s.edge T .gate n level

/-! ### Entry and exit (R147, Tables 6-4 to 6-6) -/

/-- Hold of a span for a change of bits [11:8]: 400 ns, in B2 440 ns on stepping A1 (A1-06). -/
def holdOf (span : Nat) : Nat := if span = 3 then 440 * tNs else 400 * tNs

/-- The code of a gate at a level: high-impedance, pinch-off, or operating in its latched band (Table 17-5). -/
def State.gateCode (s : State) (n level : Nat) : Nat :=
  let v := s.a 0x7210 (n + 1)
  if level = 0 then 0xFFFF
  else if level = 1 then bits v 16 12
  else bits v (16 * (7 - smGet 2 s.hk.gbBand n)) 12

/-- How long a change from one code to another is held: only one that alters bits [11:8] is, and none from or to high-impedance. -/
def holdFor (span old new : Nat) : Int := if old ≠ 0xFFFF ∧ new ≠ 0xFFFF ∧ old / 256 ≠ new / 256 then (holdOf span : Int) else 0

/-- A gate's output stands at a code until an instant; what an earlier change held of it is replaced (Table 17-8). -/
def State.gateHold (s : State) (n code : Nat) (until_ : Int) : State :=
  { s with hk := { s.hk with gbHold := s.hk.gbHold.filter (fun x => decide (x.1 ≠ n ∧ s.time_ < x.2.2)) ++ [(n, code, until_)] } }

/-- The band whose operating code a tile's gates take at an entry: that of gates that are not at operating (R421). -/
def State.latchBand (s : State) (k : Nat) : State :=
  let b := s.o 0x7102 (k + 1)
  { s with hk := { s.hk with gbBand := (pathsOf k).foldl (fun l n =>
      if s.pin .gate n ≠ 2 then amod 96 2 l n (fun _ => b) else l) s.hk.gbBand } }

/-- At an exit from Transmit every gate of the tile takes its band's code 1.3 µs after the mute (R421); `stays` tells the gates that stay at
operating from those that move to pinch-off then. -/
def State.latchExit (s : State) (O : Int) (k : Nat) (stays : Nat → Bool) : State :=
  let b := s.o 0x7102 (k + 1)
  (pathsOf k).foldl (fun s n =>
    let old := s.gateCode n 2
    let r : State := { s with hk := { s.hk with gbBand := amod 96 2 s.hk.gbBand n (fun _ => b) } }
    let new := r.gateCode n (if stays n then 2 else 1)
    if s.pin .gate n = 2 then r.gateHold n old (O + ns 1300 + holdFor (s.a 0x7210 (n + 1) % 8) old new) else r) s

/-- The radio state of an LO domain changes at T on one side: under FDD only that side changes, and what the other side does later
stands (R156). -/
def State.radioMove (s : State) (T : Int) (l level : Nat) (side : Nat → Nat) : State :=
  if s.fdd then s.bend T .radio l side else s.edge T .radio l level

/-- The states of Table 6-14 with the TX side, or the RX side, started or stopped. -/
def txStarts (v : Nat) : Nat := if v = 3 ∨ v = 5 then 5 else 4
def txStops (v : Nat) : Nat := if v = 5 then 3 else if v = 4 then 2 else v
def rxStarts (v : Nat) : Nat := if v = 4 ∨ v = 5 then 5 else 3
def rxStops (v : Nat) : Nat := if v = 5 then 4 else if v = 3 then 2 else v

/-- The edges of one path's entry into Transmit; a gate that has not followed its tile in Receive moves at the first action, and a
benched path's gate follows the tile like any other (R223). -/
def State.enterPath (s : State) (O : Int) (up : Int) (fromRx : Bool) (n : Nat) : State :=
  let s := if fromRx && !s.fdd then s.edge (O - ns 2500) .rxStage n 0 else s
  if !s.mayTx (O + s.txBoard) n then s
  else
    let s := if !fromRx then s.edge (O - ns 5000) .gate n 2
      else if s.gateRx n = 1 then s.edge (O - ns 4500) .gate n 2
      else if s.pinAt (O - ns 2500) .gate n = 2 then s else s.edge (O - ns 2500) .gate n 2
    if s.benchMute (O + s.txBoard) n || s.dozes (O + s.txBoard) n then s
    else (s.edge (up + s.skew 0x2004 (n + 1)) .txon n 1).edge (O - ns 500) .driver n 1

/-- The edges of one tile's entry into Transmit, from Receive or from Synth-on; origin at the TX balls. -/
def State.enterTx (s : State) (O : Int) (k : Nat) (fromRx : Bool) : State :=
  let up := if fromRx then O - ns 2000 else O - ns 3000
  let s := (s.latchBand k).edge (up + s.skew 0x2008 (k + 1)) .trsw k 1
  let s := if fromRx && !s.fdd then s.edge (O - ns 2500 + s.skew 0x2009 (k + 1)) .lnabyp k 1 else s
  (pathsOf k).foldl (fun s n => s.enterPath O up fromRx n) s

/-- The edges of one tile's exit from Transmit, to Receive or to Synth-on; origin at the mute. DESIGN CHOICE (assumption 70): the RX
input stage, for which Table 6-5 has no step, is on again at +1.500 µs with LNABYP_k. -/
def State.leaveTx (s : State) (O : Int) (k : Nat) (toRx : Bool) : State :=
  let s := (s.latchExit O k (fun n => toRx && s.gateRx n == 0)).edge (O + ns 1300 + s.skew 0x2008 (k + 1)) .trsw k 0
  let s := if toRx && !s.fdd then s.edge (O + ns 1500 + s.skew 0x2009 (k + 1)) .lnabyp k 0 else s
  (pathsOf k).foldl (fun s n =>
    let s := s.edge O .driver n 0
    let s := s.edge (O + ns 100 + s.skew 0x2004 (n + 1)) .txon n 0
    let s := if toRx && !s.fdd && s.rxOn s.time_ n then s.edge (O + ns 1500) .rxStage n 1 else s
    if !toRx || s.gateRx n == 1 then s.gateEdge (O + ns 1300) n 1 else s) s

/-- Gates of a domain in Receive stand at the level that GATE_RX_MODE gives them (Table 6-2): one that stands elsewhere, and has no
edge to come, moves now. -/
def State.gatesRx (s : State) : State :=
  if s.fdd then s
  else allPaths.foldl (fun s n =>
    let want := if s.gateRx n = 0 then 2 else 1
    let busy := s.rf.edges.any (fun e => decide (e.kind = PinKind.gate ∧ e.n = n ∧ s.time_ < e.at_))
    if s.radioState (s.txLo s.time_ (tileOf n)) ≠ 3 ∨ busy ∨ !s.txEnAct s.time_ n ∨ s.pin .gate n = want then s
    else
      let b := s.o 0x7102 (tileOf n + 1)
      let s := if want = 2 then { s with hk := { s.hk with gbBand := amod 96 2 s.hk.gbBand n (fun _ => b) } } else s
      s.gateEdge s.time_ n want) s

/-- Counts TX symbols lost by every path of a tile that is enabled at T to an LO that is not ready (R149, R150). -/
def State.lateLo (s : State) (T : Int) (k : Nat) (syms : Nat) : State :=
  let ps := (pathsOf k).filter (s.txOn T)
  let s := ps.foldl (fun s n => s.setBlock n 1 true) s
  if ps = [] ∨ syms = 0 then s else (s.bump 0x2130 1 (ps.length * syms)).slotAlarm Al.lateLo 0

/-- Counts a fast stop (R150, R153, R165). -/
def State.countFast (s : State) : State := (s.bump 0x2130 5 1).slotAlarm Al.feFastStop 0

/-- A path is silent: its driver is off and none of its edges asserts a pin. -/
def State.pathSilent (s : State) (n : Nat) : Bool :=
  decide (s.pin .driver n = 0) && decide (s.pin .txon n = 0) &&
  !(s.rf.edges.any (fun e => e.n == n && e.level == 1 && decide (s.time_ < e.at_) && (e.kind == PinKind.txon || e.kind == PinKind.driver)))

/-- A silent path of a transmitting tile enters from Synth-on, if it may transmit again (R149, R154). -/
def State.rejoinPath (s : State) (O : Int) (q p : Nat) : State :=
  if !s.mayTx (O + s.txBoard) p then s
  else
    let b := s.o 0x7102 (q + 1)
    let s := if s.pin .gate p = 2 then s
      else ({ s with hk := { s.hk with gbBand := amod 96 2 s.hk.gbBand p (fun _ => b) } } : State).edge (O - ns 5000) .gate p 2
    if s.benchMute (O + s.txBoard) p || s.dozes (O + s.txBoard) p || !s.pathSilent p then s
    else (s.edge (O - ns 3000 + s.skew 0x2004 (p + 1)) .txon p 1).edge (O - ns 500) .driver p 1

/-- A tile's entry for the TX symbol at T has passed; `fresh` when it begins a run of the tile. -/
def State.noteEntry (s : State) (T : Int) (q : Nat) (fresh : Bool) : State :=
  { s with rf := { s.rf with
      txRun := withBit s.rf.txRun q true
      entered := s.rf.entered.filter (fun x => decide (x ≠ (q, T)) && !(fresh && decide (x.1 = q))) ++ [(q, T)] } }

/-- Entry inside a TX run that goes on, at the entry time of a TX symbol: a tile that is not transmitting enters from
Synth-on, and so does each silent path of a transmitting tile that may transmit again (R149, R154). -/
def State.txRejoin (s : State) (T : Int) (tiles : List Nat) : State :=
  let O := T - s.txBoard
  tiles.foldl (fun s q =>
    if !bit s.rf.txRun q then (s.enterTx O q false).noteEntry T q true
    else ((pathsOf q).foldl (fun s p => s.rejoinPath O q p) s).noteEntry T q false) s

/-- The entry of an LO domain's tiles finds an LO that is not ready (R149): nothing begins, the symbol is lost. It is noted, since an LO
that becomes ready in the same TIME cycle counts as ready. -/
def State.entryFails (s : State) (l : Nat) (n : Int) (k : Nat) (T : Int) (tiles : List Nat) : State :=
  let quiet := decide ((Al.lateLo, 0) ∉ s.slotAlarms)
  let s := tiles.foldl (fun s q => s.lateLo T q 1) s
  { s with rf := { s.rf with failed := s.rf.failed.filter (fun e => decide (timeCycle e.at_ = timeCycle s.time_)) ++
      [⟨l, n, k, s.time_, tiles, quiet⟩] } }

/-- PATH_TX_BLOCK[4] of every path of tiles that is enabled at T (R159). -/
def State.blockRun (s : State) (T : Int) (tiles : List Nat) : State :=
  tiles.foldl (fun s q => (pathsOf q).foldl (fun s p => if s.txOn T p then s.setBlock p 4 true else s) s) s

/-- The whole of an LO domain enters Transmit for the TX symbol at T. -/
def State.enterDomain (s : State) (l : Nat) (T : Int) (tiles : List Nat) (fromRx : Bool) : State :=
  let O := T - s.txBoard
  let s := if s.a 0x2040 4 = 1 ∧ ¬ s.rf.cx.inUse then
      { s.bump 0x2141 1 1 with rf := { s.rf with cx := { s.rf.cx with inUse := true } } } else s
  let s := tiles.foldl (fun s q => (pathsOf q).foldl (fun s p => s.setBlock p 1 false) s) s
  let s := tiles.foldl (fun s q => (s.enterTx O q fromRx).noteEntry T q true) s
  s.radioMove O l 4 txStarts

/-- TX_ENTRY of an LO domain for pattern symbol k of absolute slot n in RADIO_SCS: the checks of R149 and R159, then
Table 6-4. In Transmit it is the entry time of a later symbol of the run (R149, R154). Nothing begins while the clock of the converters or
the grid is gated (R167, R169). -/
def State.txEntry (s : State) (l : Nat) (n : Int) (k : Nat) : State :=
  let s := s.settlePins
  let st := s.radioState l
  let T := s.tAir (s.radioScs n k) n k
  let tiles := (List.range 12).filter (fun q => s.txLo T q == l && s.tileTx T q)
  if !txCode (s.patCode T n k) ∨ tiles = [] ∨ (s.dl.stopped && !s.clk.resume) = true then s
  else if tiles.all (fun q => (pathsOf q).all (fun p => bit (s.block p) 4 || !s.txOn T p)) then s
  else if s.a 0x2040 4 = 1 ∧ s.rf.denied = true then s.blockRun T tiles
  else if !s.loReady l then s.entryFails l n k T tiles
  else if st < 2 then s
  else if (st = 4 ∨ st = 5) ∧ (s.txTiles l).any (fun q => bit s.rf.txRun q) then s.txRejoin T tiles
  else if s.a 0x2040 4 = 1 ∧ ¬ (s.rf.cx.use = 2 ∧ s.rf.cx.grantAt.isSome) then
    let s := (s.blockRun T tiles).bump 0x2141 5 1
    { s with rf := { s.rf with denied := true } }
  else s.enterDomain l T tiles (st == 3)

/-- An entry that found no ready LO is made again, as if it had found one (R149). -/
def State.entryAgain (s : State) (e : FailedEntry) : State :=
  let T := s.tAir (s.radioScs e.slot e.sym) e.slot e.sym
  let ps := e.tiles.flatMap (fun q => (pathsOf q).filter (s.txOn T))
  let s := ps.foldl (fun s n => s.setBlock n 1 false) s
  let s := s.seto 0x2130 1 (s.o 0x2130 1 + 2 ^ 32 - ps.length)
  let s := if e.alarmed then { s with slotAlarms := s.slotAlarms.filter (fun a => decide (a ≠ (Al.lateLo, 0))) } else s
  s.txEntry e.lo e.slot e.sym

/-- An LO has become ready: entries of its domain that were checked in the same TIME cycle are made (R149, Table 7-4). -/
def State.entriesAgain (s : State) (l : Nat) : State :=
  let mine := s.rf.failed.filter (fun e => decide (e.lo = l ∧ timeCycle e.at_ = timeCycle s.time_))
  if mine = [] then s
  else
    let s := { s with rf := { s.rf with failed := s.rf.failed.filter (fun e => decide (e ∉ mine)) } }
    mine.foldl State.entryAgain s

/-- CXREQ and CXPRI deasserted, the grant given back, the injector off (R157, R158, R222). -/
def State.cxDrop (s : State) : State :=
  let s := s.release .inj 0
  { s with rf := { s.rf with tone := false, cx := { s.rf.cx with
      req := false, pri := false, use := 0, grantAt := none, inUse := false } } }.setLock 9 lockFree

/-- A tile leaves its TX run: the bits that last for the run are cleared (R149, R159). -/
def State.runEnd (s : State) (k : Nat) : State :=
  let s := (pathsOf k).foldl (fun s p => (s.setBlock p 1 false).setBlock p 4 false) s
  { s with rf := { s.rf with txRun := withBit s.rf.txRun k false, entered := s.rf.entered.filter (fun x => decide (x.1 ≠ k)) } }

/-- Where an LO domain goes when its TX side stops for what is on the air from T on: to Receive, or to Synth-on when the power controller
asks (R147) and in a nap slot (R395); under FDD to what its RX side does. DESIGN CHOICE (assumption 70): the power controller asks while
any power handshake is in progress, of whatever domain. -/
def State.afterTx (s : State) (l : Nat) (T : Int) : Bool :=
  if s.fdd then s.radioState l == 5 else s.power.hand.isNone && !s.napSlot (s.slotOf (s.a 0x2020 2) T)

/-- The state of a domain after its TX side, from the mute on. -/
def State.radioAfter (s : State) (O : Int) (l : Nat) (toRx : Bool) : State :=
  s.radioMove (O + ns (if toRx then 2000 else 3300)) l (if toRx then 3 else 2) txStops

/-- TX_EXIT of an LO domain after pattern symbol k of slot n (R147, Table 6-5, R159). -/
def State.txExit (s : State) (l : Nat) (n : Int) (k : Nat) : State :=
  let s := s.settlePins
  let tiles := (s.txTiles l).filter (fun q => bit s.rf.txRun q)
  if tiles = [] then (s.txTiles l).foldl State.runEnd s
  else
    let O := s.tAirEnd (s.radioScs n k) n k - s.txBoard
    let toRx := s.afterTx l (O + s.txBoard)
    let s := tiles.foldl (fun s q => (s.leaveTx O q toRx).runEnd q) s
    let s := s.radioAfter O l toRx
    if s.rf.cx.use = 2 ∧ s.rf.txRun = 0 then s.cxDrop else s

/-- RX_ENTRY of an LO domain for pattern symbol k of slot n (Table 6-6); not while a clock is gated (R167, R169). -/
def State.rxEntry (s : State) (l : Nat) (n : Int) (k : Nat) : State :=
  let s := s.settlePins
  let st := s.radioState l
  let T := s.tAir (s.radioScs n k) n k
  let tiles := (List.range 12).filter (fun q => s.rxLo T q == l && s.tileRx T q)
  if !rxCode (s.patCode T n k) ∨ tiles = [] ∨ (s.dl.stopped && !s.clk.resume) = true ∨ ¬ (st = 2 ∨ (st = 4 ∧ s.fdd)) then s
  else
    let O := T + s.rxBoard
    let s := tiles.foldl (fun s q =>
      let s := s.edge (O - ns 500 + s.skew 0x2009 (q + 1)) .lnabyp q 0
      (pathsOf q).foldl (fun s p =>
        let s := if s.rxOn T p then s.edge (O - ns 3000) .rxStage p 1 else s
        if s.gateRx p = 0 ∧ ¬ s.fdd ∧ s.txOn T p = true then s.gateEdge (O - ns 3000) p 2 else s) s) s
    s.radioMove O l 3 rxStarts

/-- RX_EXIT of an LO domain after pattern symbol k of slot n: Receive is left at the end of the symbol at the RX
balls (R147). -/
def State.rxExit (s : State) (l : Nat) (n : Int) (k : Nat) : State :=
  let s := s.settlePins
  let st := s.radioState l
  if st ≠ 3 ∧ st ≠ 5 then s
  else
    let O := s.tAirEnd (s.radioScs n k) n k + s.rxBoard
    let s := (s.rxTiles l).foldl (fun s q =>
      let s := s.edge (O + ns 100 + s.skew 0x2009 (q + 1)) .lnabyp q 1
      (pathsOf q).foldl (fun s p =>
        let s := s.edge O .rxStage p 0
        if s.gateRx p = 0 ∧ ¬ s.fdd then s.gateEdge O p 1 else s) s) s
    s.radioMove (O + ns 100) l 2 rxStops

/-! ### Fast stops (R150, R153) -/

/-- The TX symbols of its run that a tile does not transmit whole if it stops now: the present one, and those after it whose entry has
passed (R150). -/
def State.cutSyms (s : State) (k : Nat) : Nat :=
  let X := s.time_ + s.txBoard
  let cur := s.symSpan X
  let next := s.symSpan cur.2
  let begun := fun (T : Int) => s.rf.entered.any (fun x => decide (x.1 = k ∧ x.2 ≤ T))
  let a := if txCode (s.codeAt cur.1) && begun cur.1 then 1 else 0
  let due := decide ((k, next.1) ∈ s.rf.entered) || decide (next.1 - s.txBoard - ns 5000 < s.time_)
  let b := if txCode (s.codeAt next.1) && begun next.1 && due then 1 else 0
  a + b

/-- Fast stop of a tile in a TX run: the driver is muted now and Table 6-5 follows; the symbols not transmitted whole
are lost to the LO if the LO is the cause. -/
def State.stopTile (s : State) (k : Nat) (loLost : Bool) : State :=
  if !bit s.rf.txRun k then s
  else
    let l := s.txLo s.time_ k
    let toRx := s.afterTx l s.time_
    let lost := if loLost then s.cutSyms k else 0
    let s := (s.leaveTx s.time_ k toRx).countFast
    let s := s.radioAfter s.time_ l toRx
    let s := { s with rf := { s.rf with txRun := withBit s.rf.txRun k false, entered := s.rf.entered.filter (fun x => decide (x.1 ≠ k)) } }
    if loLost then s.lateLo s.time_ k lost else s

/-- Fast stop of every tile in a TX run. -/
def State.stopAll (s : State) (loLost : Bool) : State := (List.range 12).foldl (fun s k => s.stopTile k loLost) s

/-- The edges that end a path's transmission now: mute, TXON_n 100 ns later, gate to pinch-off 1.2 µs after that; none of its
asserting edges stays due. -/
def State.cutPath (s : State) (n : Nat) : State :=
  let T := s.time_
  let s := (s.dropEdges .txon n).dropEdges .driver n
  ((s.edge T .driver n 0).edge (T + ns 100 + s.skew 0x2004 (n + 1)) .txon n 0).edge (T + ns 1300) .gate n 1

/-- Fast stop of one path (R153). -/
def State.stopPath (s : State) (n : Nat) : State :=
  if s.pathSilent n then s else (s.cutPath n).countFast

/-- A cause blocks a path: the bit is set, a transmitting path makes a fast stop (R152, R153). -/
def State.blockPath (s : State) (n b : Nat) : State := (s.setBlock n b true).stopPath n

/-- A gate-bias fault latches (R152). -/
def State.gateFault (s : State) (n : Nat) : State :=
  if bit (s.block n) 0 then s else ((s.blockPath n 0).bump 0x7220 2 1).raise Al.gbFault n

/-- A cause of GB_FAULT_WHY appears or ends (R420). -/
def State.gbCause (s : State) (n b : Nat) (on : Bool) : State :=
  let s1 := s.setBit 0x7212 (n + 1) b on
  if on then s1.gateFault n else s1

/-- GB_FAULT_CLEAR of a path: bits 0 and 3 clear, and bit 0 latches again at once while a cause persists (R154, R414);
the path is silent until the next slot boundary. -/
def State.gbClear (s : State) (n v : Nat) : Nat × State :=
  if v = 0 then acts s
  else
    let had := bit (s.block n) 0 || bit (s.block n) 3
    let s := ((s.setBlock n 0 false).setBlock n 3 false).clearAl Al.rflTrip n
    let s := if s.o 0x7212 (n + 1) = 0 then s.clearAl Al.gbFault n else s.gateFault n
    acts (if had then { s with rf := { s.rf with held := s.rf.held.filter (fun x => decide (x.1 ≠ n)) ++ [(n, none)] } } else s)

/-- A slot boundary releases the paths whose fault was cleared before it (R154). -/
def State.unhold (s : State) (T : Int) : State :=
  { s with rf := { s.rf with held := (s.rf.held.filter (fun x => x.2.isNone)).map (fun x => (x.1, some T)) } }

/-! ### Attenuation (R135, R136, R164) and suppression (R99, R113) -/

/-- The instant at which an attenuation written now takes effect: the first sample of the next symbol's cyclic prefix at the TX balls
(0) or the RX balls (1), on the air-time grid (R135, R136). -/
def State.attenDue (s : State) (k : Nat) : Int :=
  let d := if k = 0 then -s.txBoard else s.rxBoard
  s.nextSymStart s.gridScs (s.time_ - d + 1) + d

/-- TX_ATTEN (0) or RX_ATTEN (1) of a path: the demand at once, the actual at the next cyclic prefix. -/
def State.attenWrite (s : State) (k n v : Nat) : Nat × State :=
  acts { s.seto (0x2002 + k) (n + 1) v with rf := { s.rf with
    atten := s.rf.atten.filter (fun x => decide (¬ (x.1 = k ∧ x.2.1 = n ∧ s.time_ < x.2.2.2))) ++ [(k, n, v, s.attenDue k)] } }

/-- The attenuation of a path in force: the last whose instant has come. -/
def State.attenNow (s : State) (k n : Nat) : Nat :=
  match (s.rf.atten.filter (fun x => decide (x.1 = k ∧ x.2.1 = n ∧ x.2.2.2 ≤ s.time_))).getLast? with
  | some x => x.2.2.1
  | none => s.a (0x2002 + k) (n + 1)

/-- Attenuations whose instant has come are taken into the values in force. -/
def State.attenApply (s : State) : State :=
  let due := fun (x : Nat × Nat × Nat × Int) => decide (x.2.2.2 ≤ s.time_)
  (s.rf.atten.filter due).foldl (fun s x => s.seta (0x2002 + x.1) (x.2.1 + 1) x.2.2.1)
    { s with rf := { s.rf with atten := s.rf.atten.filter (fun x => !due x) } }

/-- Suppression spans of Table 4-8 in ticks: carrier or path start at 30 and at 15 kHz, channel switch. -/
def spanStart (scs : Nat) : Nat := if scs = 0 then 961304 * tPs else 481161 * tPs
def spanSwitch : Nat := 94605 * tPs

/-- The span of a path's start: that of the slowest active carrier of its direction (R99, R113). -/
def State.spanPath (s : State) (dir : Nat) : Nat := spanStart (if s.any15 s.time_ dir then 0 else 1)

/-- Suppresses an output (path 255: every path; carrier 255: the whole path) for a time from the boundary that has just passed. -/
def State.suppress (s : State) (dir path car dur : Nat) : State :=
  let B := s.slotStart 1 (s.slotOf 1 s.time_)
  let e : Supp := ⟨path, car, B, B + (dur : Int)⟩
  if dir = 0 then { s.bump 0x3031 0x0C 1 with dl := { s.dl with supp := s.dl.supp ++ [e] } }
  else { s.bump 0x3035 6 1 with ul := { s.ul with supp := s.ul.supp ++ [e] } }

/-- SUPPRESSION_END: outputs whose span has passed carry samples again; spans that ended 2 ms ago are forgotten. -/
def State.suppEnd (s : State) : State :=
  let keep := fun (x : Supp) => decide (s.time_ < x.until_ + ((2 * tMs : Nat) : Int))
  { s with dl := { s.dl with supp := s.dl.supp.filter keep }, ul := { s.ul with supp := s.ul.supp.filter keep } }

/-! ### Channel-filter coefficients that wait (R101, R113) -/

/-- The branches of a carrier on running paths keep the coefficients in force, until they can load others: set and, for a user set, its
content. A branch that keeps some already goes on keeping those. -/
def State.chfMark (s : State) (dir c : Nat) (paths : List Nat) (set taps : Nat) : State :=
  let add := fun (l : List Kept) =>
    l ++ (paths.filter (fun n => !l.any (fun x => decide (x.path = n ∧ x.car = c)))).map (fun n => (⟨n, c, set, taps⟩ : Kept))
  if dir = 0 then { s with dl := { s.dl with chfOld := add s.dl.chfOld } } else { s with ul := { s.ul with chfOld := add s.ul.chfOld } }

/-- Branches load the coefficients their carrier names. -/
def State.chfDrop (s : State) (dir : Nat) (p : Kept → Bool) : State :=
  if dir = 0 then { s with dl := { s.dl with chfOld := s.dl.chfOld.filter (fun x => !p x) } }
  else { s with ul := { s.ul with chfOld := s.ul.chfOld.filter (fun x => !p x) } }

/-! ### Coexistence (R157 to R159) -/

/-- CXREQ may be asserted: CX_ENABLE is not 0, no request is held, and CXGNT has been low for 1.0 µs. -/
def State.cxMay (s : State) : Bool :=
  decide (s.a 0x2040 1 ≠ 0) && !s.rf.cx.req &&
  (decide (s.a 0x2040 1 = 2) || (!s.rf.cx.gnt && (match s.rf.cx.lowSince with | some x => decide (x + tUs ≤ s.now) | none => true)))

/-- Asserts CXREQ; under CX_ENABLE 2 the request counts as granted at once. -/
def State.cxAsk (s : State) (use owner : Nat) (pri : Bool) : State :=
  let self := decide (s.a 0x2040 1 = 2)
  let s := { s with rf := { s.rf with cx := { s.rf.cx with
      req := true, pri := pri, use := use, since := s.now, grantAt := if self then some s.now else none, inUse := false } } }
  if self then s.setLock 9 ⟨owner, some (s.now + s.a 0x2040 3 * tUs)⟩ else s

/-- Owner of the grant by its use (Table 14-22). -/
def cxOwner (use : Nat) : Nat := if use = 2 then ownTxSeq else ownCal

/-- T_air of the first symbol of the next TX run, now or later, within the longest pattern. -/
def State.nextRun (s : State) : Option Int :=
  let scs := s.a 0x2020 2
  let n0 := s.slotOf scs s.time_
  let l := (List.range 42).flatMap (fun (i : Nat) => (List.range 14).map (fun k =>
    let T := s.tAir scs (n0 - 1 + (i : Int)) k
    (T, s.patCode T (n0 - 1 + (i : Int)) k)))
  ((l.zip (l.drop 1)).find? (fun x => !txCode x.1.2 && txCode x.2.2 && decide (s.time_ ≤ x.2.1))).map (fun x => x.2.1)

/-- CX_TX_LEAD before the next TX run (R159). -/
def State.leadAt (s : State) : Option Int := s.nextRun.map (fun T => T - ((s.a 0x2040 5 * tUs : Nat) : Int))

/-- Engine time of a half of RECIP (Table 9-4). -/
def recipTime : Int := ((60 * tUs : Nat) : Int)

/-- CXPRI of an injection for path n: the path's RECIP is overdue (R157, R230). -/
def State.recipLate (s : State) (n : Nat) : Bool := bit (s.o 0x4411 (n + 1)) 5

/-- An injection that begins after CX_GUARD ends before the next TX run asks for its grant, in CX_TX_MODE (R159). -/
def State.injFits (s : State) : Bool :=
  decide (s.a 0x2040 4 ≠ 1) ||
  (match s.leadAt with | some L => decide (s.time_ + ((s.a 0x2040 6 * tNs : Nat) : Int) + recipTime ≤ L) | none => true)

/-- CX_REQUEST for an injection into path n; one that cannot end before the next run's CX_TX_LEAD is left for a later bench slot. -/
def State.cxRequest (s : State) (n : Nat) : State :=
  if s.cxMay && s.injFits then s.cxAsk 1 ownCal (s.recipLate n) else s

/-- CX_TX_REQUEST for a transmit run, from its CX_TX_LEAD on. -/
def State.cxTxRequest (s : State) : State :=
  if s.cxMay && decide (s.a 0x2040 4 = 1) && s.leadAt.any (fun L => decide (L ≤ s.time_)) then s.cxAsk 2 ownTxSeq true else s

/-- CX_GRANT_SEEN. -/
def State.cxGrant (s : State) : State :=
  let s := { s with rf := { s.rf with cx := { s.rf.cx with gnt := true, lowSince := none } } }
  if s.a 0x2040 1 = 2 then s
  else if !s.rf.cx.req then s.bump 0x2141 6 1
  else if s.rf.cx.grantAt.isSome then s
  else
    { s with rf := { s.rf with cx := { s.rf.cx with grantAt := some s.now } } }.setLock 9
      ⟨cxOwner s.rf.cx.use, some (s.now + s.a 0x2040 3 * tUs)⟩

/-- The half of RECIP for which a grant is used: the RX half drives the injector, unless the TX chain of a benched path
is at its own RECIP half (R224). -/
def State.rxHalf (s : State) : Bool :=
  match s.cal.bench with
  | some b => b.paths.all (fun n => smGet 0 s.cal.prog (2 * n) != 3)
  | none => true

/-- The injector's frequency for a carrier: the multiple of 30.72 MHz nearest to its centre, in kHz (R226). DESIGN CHOICE (assumption
71): with several carriers on air it is the lowest-numbered active uplink carrier's. -/
def State.toneFor (s : State) : Nat :=
  match (List.range 4).find? (fun c => s.carActive s.time_ 1 c) with
  | some c => (s.a (carIdx 1 c) 4 + 15360) / 30720 * 30720
  | none => 0

/-- The symbol in progress is of the kind in which the half of RECIP in turn runs: an injection symbol of the benched paths, or a TX
symbol (Table 9-4). -/
def State.recipNow (s : State) : Bool :=
  if s.rxHalf then (match s.cal.bench with
    | some b => b.paths.all (s.injAt s.time_)
    | none => s.injAt s.time_ 0)
  else txCode (s.codeAt (s.time_ + s.txBoard))

/-- CX_GUARD_EXPIRY: the injection begins, in a symbol of its kind; the injector takes its credit when it does (R222). -/
def State.cxGuard (s : State) : State :=
  match s.rf.cx.grantAt with
  | some x =>
    if s.rf.cx.use = 1 ∧ ¬ s.rf.cx.inUse ∧ x + s.a 0x2040 6 * tNs ≤ s.now ∧ s.recipNow = true then
      let r := if s.rxHalf then s.ask .inj 0 (costOn rRf 4) Dom.cp else (false, s)
      let s := r.2
      { s.bump 0x2141 1 1 with rf := { s.rf with
          tone := r.1, toneKhz := if r.1 then s.toneFor else s.rf.toneKhz, cx := { s.rf.cx with inUse := true } } }
    else s
  | none => s

/-- The paths on the bench whose RECIP half is in progress. -/
def State.inRecip (s : State) : List Nat :=
  match s.cal.bench with
  | some b =>
    if b.running then b.paths.filter (fun n => decide (smGet 0 s.cal.prog (2 * n) = 3) || decide (smGet 0 s.cal.prog (2 * n + 1) = 2))
    else []
  | none => []

/-- An injection has lost its grant: the RECIP results of the paths that take part are discarded (Table 9-6). -/
def State.recipCut (s : State) : State :=
  let ps := s.inRecip.filter (fun n => decide (n ∉ s.cal.recipOut))
  let s := s.bump 0x4420 5 ps.length
  { s with cal := { s.cal with recipOut := s.cal.recipOut ++ ps
                               made := s.cal.made.filter (fun m => !(decide (m.1 ∈ ps) && (m.2.1 == 7 || m.2.1 == 8))) } }

/-- CX_INJECTION_END. -/
def State.cxEnd (s : State) : State := if s.rf.cx.use = 1 ∧ s.rf.cx.inUse then s.cxDrop else s

/-- The use of a grant stops: the injection, whose results are discarded, or the transmit run by a fast stop. -/
def State.cxStopUse (s : State) : State :=
  if s.rf.cx.use = 2 then s.stopAll false else if s.rf.cx.inUse then s.recipCut else s

/-- CXGNT_DEASSERT. -/
def State.cxFall (s : State) : State :=
  let s := { s with rf := { s.rf with cx := { s.rf.cx with gnt := false, lowSince := some s.now } } }
  if s.a 0x2040 1 = 2 ∨ ¬ s.rf.cx.req then s
  else if s.rf.cx.inUse then (s.cxStopUse.cxDrop).bump 0x2141 3 1
  else { s with rf := { s.rf with cx := { s.rf.cx with grantAt := none } } }.setLock 9 lockFree

/-- CX_WAIT_TIMEOUT. -/
def State.cxTimeout (s : State) : State :=
  if s.rf.cx.req && s.rf.cx.grantAt.isNone && decide (s.rf.cx.since + s.a 0x2040 2 * tUs ≤ s.now) then
    ((s.cxDrop).bump 0x2141 2 1).raise Al.cxTimeout 0
  else s

/-- CX_LEASE_EXPIRY. -/
def State.cxLease (s : State) : State :=
  match s.rf.cx.grantAt with
  | some x =>
    if x + s.a 0x2040 3 * tUs ≤ s.now then
      ((((s.cxStopUse.cxDrop).bump 0x2141 4 1).bump 0x1013 10 1).raise Al.cxLease 0)
    else s
  | none => s

/-! ### The commands -/

def execSuppressionEnd (t : Tick) (s : State) : Host.Outcome State Fault Refusal := s.run t State.suppEnd

def execTxAttenWrite (t : Tick) (r : Req) (path v : Nat) (s : State) : Host.Outcome State Fault Refusal :=
  s.run t (fun s => s.writeBy r 0x2002 (path + 1) (objBytes 0x2002 1 v) (fun s v => s.attenWrite 0 path v))

def execRxAttenWrite (t : Tick) (r : Req) (path v : Nat) (s : State) : Host.Outcome State Fault Refusal :=
  s.run t (fun s => s.writeBy r 0x2003 (path + 1) (objBytes 0x2003 1 v) (fun s v => s.attenWrite 1 path v))

def execTxEntry (t : Tick) (lo : Nat) (slot : Int) (sym : Nat) (s : State) : Host.Outcome State Fault Refusal :=
  s.run t (fun s => s.txEntry lo slot sym)

def execTxExit (t : Tick) (lo : Nat) (slot : Int) (sym : Nat) (s : State) : Host.Outcome State Fault Refusal :=
  s.run t (fun s => s.txExit lo slot sym)

def execRxEntry (t : Tick) (lo : Nat) (slot : Int) (sym : Nat) (s : State) : Host.Outcome State Fault Refusal :=
  s.run t (fun s => s.rxEntry lo slot sym)

def execRxExit (t : Tick) (lo : Nat) (slot : Int) (sym : Nat) (s : State) : Host.Outcome State Fault Refusal :=
  s.run t (fun s => s.rxExit lo slot sym)

def execGbFaultClear (t : Tick) (r : Req) (path v : Nat) (s : State) : Host.Outcome State Fault Refusal :=
  s.run t (fun s => s.writeBy r 0x2007 (path + 1) (objBytes 0x2007 1 v) (fun s v => s.gbClear path v))

def execCxRequest (t : Tick) (n : Nat) (s : State) : Host.Outcome State Fault Refusal := s.run t (fun s => s.cxRequest n)

def execCxTxRequest (t : Tick) (s : State) : Host.Outcome State Fault Refusal := s.run t State.cxTxRequest

def execCxGrantSeen (t : Tick) (s : State) : Host.Outcome State Fault Refusal := s.run t State.cxGrant

def execCxGuardExpiry (t : Tick) (s : State) : Host.Outcome State Fault Refusal := s.run t State.cxGuard

def execCxInjectionEnd (t : Tick) (s : State) : Host.Outcome State Fault Refusal := s.run t State.cxEnd

def execCxgntDeassert (t : Tick) (s : State) : Host.Outcome State Fault Refusal := s.run t State.cxFall

def execCxWaitTimeout (t : Tick) (s : State) : Host.Outcome State Fault Refusal := s.run t State.cxTimeout

def execCxLeaseExpiry (t : Tick) (s : State) : Host.Outcome State Fault Refusal := s.run t State.cxLease

end Sys2Proof.Machine
end

