-- ==== Sys2Proof/Machine/Bias.lean ====
section
/-!
DEFINITION. The aux DAC's outputs, their group credit, and the gate-bias causes that follow from state (R418, R420 to R424).
-/

namespace Sys2Proof.Machine

/-- The HK domain put through a function. -/
def State.modHk (s : State) (f : Hk → Hk) : State := { s with hk := f s.hk }

/-- Gate-bias causes of a path that follow from state (R420): VMID, thermal trip, PA_BIAS, group credit. -/
def State.gbDerive (s : State) (n : Nat) : State :=
  let w := s.a 0x7210 (n + 1)
  let tx := s.txOn s.time_ n
  let trip := bit s.hk.trip (tileOf n) || bit s.hk.trip 12 || bit s.hk.trip 13
  let want := [(1, s.hk.vmidBad && decide (w % 8 = 2 ∨ w % 8 = 3)), (2, trip), (3, tx && !bit w 15),
    (4, tx && !s.granted .auxChan (n / 16))]
  want.foldl (fun s x => if bit (s.o 0x7212 (n + 1)) x.1 = x.2 then s else s.gbCause n x.1 x.2) s

/-- Every path's causes. -/
def State.gbAll (s : State) : State := allPaths.foldl State.gbDerive s

/-- GB_CODE_ACT of a path: a change of bits [11:8] holds the old code (R418, R421). -/
def State.gbCodeAct (s : State) (n : Nat) : Nat :=
  let T := s.time_
  let now := s.gateCode n (s.pin .gate n)
  match s.hk.gbHold.find? (fun x => decide (x.1 = n ∧ T < x.2.2)) with
  | some x => x.2.1
  | none =>
    match (s.edgesOf T .gate n).getLast? with
    | some e =>
      let old := s.gateCode n (s.pinAt (e.at_ - 1) .gate n)
      if T < e.at_ + holdFor (s.a 0x7210 (n + 1) % 8) old now then old else now
    | none => now

/-- Cost of an aux DAC group (Table 17-6). -/
def State.auxCost (s : State) (T : Int) (g : Nat) : List Nat :=
  if g < 6 then costOn r18 2
  else
    let cur := (List.range 16).any (fun i => let w := s.at_ T 0x7200 (16 * (g - 6) + i + 1); bit w 3 && decide (w % 8 ∈ [4, 5]))
    costOn r18 (if cur then 6 else 2)

/-- A path is enabled for transmit, or an accepted commit enables it (R161). -/
def State.txSoon (s : State) (n : Nat) : Bool := s.txOn s.time_ n || s.commits.any (fun c => s.txOn c.at_ n)

/-- A group wants credit: a path of it is enabled for transmit, or an AUX channel drives. -/
def State.auxWanted (s : State) (g : Nat) : Bool :=
  if g < 6 then (List.range 16).any (fun i => s.txSoon (16 * g + i))
  else (List.range 16).any (fun i => bit (s.a 0x7200 (16 * (g - 6) + i + 1)) 3)

/-- The channels drive again once HK is ON: each wanted group asks for its credit (R422, R424). -/
def State.auxWake (s : State) : State :=
  let s := (List.range 8).foldl (fun s g =>
    if s.auxWanted g && !s.granted .auxChan g then (s.ask .auxChan g (s.auxCost s.time_ g) Dom.hk).2 else s) s
  let s := allPaths.foldl (fun s n => if s.txSoon n && s.granted .auxChan (n / 16) && s.pin .gate n == 0 then s.setPin .gate n 1 else s) s
  let s := (List.range 32).foldl (fun s x =>
    if bit (s.a 0x7200 (x + 1)) 3 && s.granted .auxChan (6 + x / 16) then
      s.modHk (fun h => { h with aux := amod 32 AuxOut.init h.aux x (fun _ => ⟨some (s.o 0x7201 (x + 1)), none⟩) }) else s) s
  s.gbAll

end Sys2Proof.Machine
end

