-- ==== Sys2Proof/Machine/Clocks.lean ====
section
/-!
DEFINITION. Reference and LO synthesisers (chapter 07): dividers, lock by frequency count, phase steps, the spare
handover, and the choice of FCONV.
-/

namespace Sys2Proof.Machine

/-- a / b rounded to nearest, ties to even. -/
def divHE (a b : Nat) : Nat :=
  let q := a / b
  let r := a % b
  if 2 * r > b ∨ (2 * r = b ∧ q % 2 = 1) then q + 1 else q

/-- A synthesiser, 0 to 3 for LO-A to LO-D, and it put through a function. -/
def State.lo (s : State) (l : Nat) : Lo := smGet Lo.off s.clk.lo l
def State.modLo (s : State) (l : Nat) (f : Lo → Lo) : State := { s with clk := { s.clk with lo := amod 4 Lo.off s.clk.lo l f } }

/-- Index of a synthesiser's objects. -/
def loIdx (l : Nat) : Nat := 0x2400 + l

/-- 2^24 times the feedback ratio of a divider set. -/
def Divs.num (d : Divs) : Nat := d.fbdiv * 2 ^ 24 + d.frac

/-- VCO frequency within 7.0 to 14.6 GHz (R173). -/
def Divs.vcoOk (d : Divs) : Bool :=
  decide (7000000000 * (d.refdiv * 2 ^ 24) ≤ 245760000 * d.num) &&
  decide (245760000 * d.num ≤ 14600000000 * (d.refdiv * 2 ^ 24))

/-- A divider set within R173. -/
def Divs.ok (d : Divs) : Bool :=
  decide (1 ≤ d.refdiv) && decide (d.refdiv ≤ 8) && decide (24 ≤ d.fbdiv) && decide (d.fbdiv ≤ 511) &&
  decide (d.frac < 2 ^ 24) && decide (d.outdiv ∈ [2, 4, 8, 16]) && d.vcoOk

/-- f_LO in millihertz, nearest (R173, R174). -/
def Divs.freq (d : Divs) : Nat := divHE (245760000000 * d.num) (d.refdiv * 2 ^ 24 * d.outdiv)

/-- N_exp of R176. -/
def Divs.nExp (d : Divs) : Nat := divHE (245760000 * d.num) (d.refdiv * 2 ^ 24 * 480000)

/-- The dividers the device computes from LO_FREQ in kHz (R174): REFDIV 2 and the largest OUTDIV that keeps the VCO in
range. -/
def divsFor (khz : Nat) : Divs :=
  let od := ([16, 8, 4, 2].find? (fun o => decide (khz * o ≤ 14600000) && decide (7000000 ≤ khz * o))).getD 2
  let n := divHE (khz * od * 2 ^ 24) 122880
  ⟨2, n / 2 ^ 24, n % 2 ^ 24, od⟩

/-- The buffered divider objects (R175). -/
def State.divBuf (s : State) (l : Nat) : Divs := ⟨s.o (loIdx l) 4, s.o (loIdx l) 5, s.o (loIdx l) 6, s.o (loIdx l) 7⟩

/-- Writes a divider set into the buffer objects. -/
def State.setBuf (s : State) (l : Nat) (d : Divs) : State :=
  (((s.seto (loIdx l) 4 d.refdiv).seto (loIdx l) 5 d.fbdiv).seto (loIdx l) 6 d.frac).seto (loIdx l) 7 d.outdiv

/-- LO_STATUS of a synthesiser set from its parts (Table 7-5). -/
def State.setLo (s : State) (l : Nat) (valid relock cal locked : Bool) : State :=
  s.seto (loIdx l) 0x0B (loWord valid relock cal locked)

/-- Bits of LO_STATUS. -/
def State.loLocked (s : State) (l : Nat) : Bool := bit (s.loStatus l) 0
def State.loCal (s : State) (l : Nat) : Bool := bit (s.loStatus l) 2
def State.loValid (s : State) (l : Nat) : Bool := bit (s.loStatus l) 4

/-- A synthesiser is powered. -/
def State.loOn (s : State) (l : Nat) : Bool := (s.lo l).on

/-- The RX symbol that starts at T is lost to a tile whose RX LO is not ready: it counts once per enabled path (R151). -/
def State.rxLate (s : State) (T : Int) (k : Nat) : State :=
  let ps := (pathsOf k).filter (s.rxOn T)
  if ps = [] ∨ (k, T) ∈ s.ul.rxLate then s
  else
    let keep := s.ul.rxLate.filter (fun x => decide (T < x.2 + ((2 * tMs : Nat) : Int)))
    (({ s with ul := { s.ul with rxLate := keep ++ [(k, T)] } } : State).bump 0x2130 2 ps.length).slotAlarm Al.lateLo 0

/-- An instant that no span of an LO's absence reaches: it lasts until lock is declared. -/
def noEnd : Int := ((2 ^ 100 : Nat) : Int)

/-- The tiles of an LO that is no longer ready: transmitting sides make a fast stop (R150); receiving sides are out of the receive
state from now on, and lose the RX symbol that is at the RX balls (R151). -/
def State.loLost (s : State) (l : Nat) : State :=
  let s := (s.txTiles l).foldl (fun s k => s.stopTile k true) s
  let old := s.ul.rxGone.filter (fun x => decide (s.time_ < x.2.2 + ((4 * tMs : Nat) : Int)))
  let out := (s.rxTiles l).filter (fun k => old.all (fun x => decide (x.1 ≠ k ∨ x.2.2 ≠ noEnd)))
  let s := ({ s with ul := { s.ul with rxGone := old ++ out.map (fun k => (k, s.time_, noEnd)) } } : State)
  let T := (s.symSpan (s.time_ - s.rxBoard)).1
  if rxCode (s.codeAt T) && decide (s.radioState l = 3 ∨ s.radioState l = 5) then (s.rxTiles l).foldl (fun s k => s.rxLate T k) s else s

/-- An LO is ready again: the spans of its tiles' absence end (R151). -/
def State.loBack (s : State) (l : Nat) : State :=
  { s with ul := { s.ul with rxGone := s.ul.rxGone.map (fun x =>
      if x.2.2 = noEnd ∧ x.1 ∈ s.rxTiles l then (x.1, x.2.1, s.time_) else x) } }

/-- A re-lock begins: the phase is no longer valid and a pending step is discarded; so is a step made at the same instant (R175, R177, R182,
Table 7-4). -/
def State.relock (s : State) (l : Nat) (cal : Bool) : State :=
  let s := if (s.lo l).step.isSome ∨ (s.lo l).stepAt = some s.time_ then s.bump 0x2430 4 1 else s
  let s := (s.setLo l false true cal false).seto (loIdx l) 0x0D 0
  (s.modLo l (fun x => { x with good := 0, step := none, stepAt := none, half := false, slip := false, lockedAt := none })).loLost l

/-- Loads a divider set: a set that differs is a re-lock of a powered synthesiser (R175). -/
def State.loadDivs (s : State) (l : Nat) (d : Divs) : State :=
  if d = (s.lo l).divs then s
  else
    let s := (s.modLo l (fun x => { x with divs := d })).seto (loIdx l) 0x0C d.freq
    if s.loOn l then s.relock l (s.loCal l) else s

/-- LO_LOAD_NOW (R175). -/
def State.loLoadNow (s : State) (l v : Nat) : Nat × State :=
  if v = 0 then acts s
  else if !(s.divBuf l).ok then (St.badValue, s)
  else acts (s.loadDivs l (s.divBuf l))

/-- A write to a divider object: refused while the device computes the dividers (R174). -/
def State.divWrite (s : State) (l sub v : Nat) : Nat × State :=
  if s.o (loIdx l) 3 = 0 then (St.divAuto, s) else acts (s.seto (loIdx l) sub v)

/-- LO_PHASE_STEP: pending until the next symbol of the grid; discarded while the LO is not ready (R181). -/
def State.loStep (s : State) (l v : Nat) : Nat × State :=
  if !s.loReady l then acts (s.bump 0x2430 4 1)
  else acts (s.modLo l (fun x => { x with step := some (x.step.getD 0 + toInt 16 v) }))

/-- A step that the device makes on its own account, from −1,024 to 1,023: exactly −1,024 goes as two steps of −512 in consecutive
symbols (R484). -/
def State.devStep (s : State) (l : Nat) (d : Int) : State :=
  if !s.loReady l then s.bump 0x2430 4 1
  else
    let half := decide (d = -1024)
    s.modLo l (fun x => { x with step := some (x.step.getD 0 + (if half then -512 else d)), half := x.half || half })

/-- LO_PHASE of a synthesiser moves by a step. -/
def State.turnPhase (s : State) (l : Nat) (d : Int) : State :=
  s.seto (loIdx l) 0x0D (((s.o (loIdx l) 0x0D : Int) + d) % 2048).toNat

/-- Pending phase steps are made, at a symbol of the grid (R181). A step of exactly −1,024 leaves the output where it was (A1-04). -/
def State.stepsApply (s : State) : State :=
  (List.range 4).foldl (fun s l =>
    match (s.lo l).step with
    | some d =>
      (s.turnPhase l d).modLo l (fun x => { x with step := if x.half then some (-512) else none, half := false
                                                   stepAt := some s.time_, slip := x.slip != decide (d = -1024) })
    | none => s) s

/-- A step of signed size from a number of 1/2,048 cycle. -/
def signedStep (d : Int) : Int := (d + 1024) % 2048 - 1024

/-- A locked synthesiser loses lock (R177, R180, R182). -/
def State.loUnlock (s : State) (l : Nat) : State :=
  let s := ((s.bump (loIdx l) 0x0E 1).raise Al.loUnlock l).relock l false
  match s.clk.hand with
  | some h => if h.x = l then { s with clk := { s.clk with hand := some { h with urgent := true } } } else s
  | none => s

/-- Lock is declared (R176): the domain leaves Standby for Synth-on. -/
def State.loLockNow (s : State) (l : Nat) : State :=
  let s := (s.setLo l (s.loValid l) false false true).modLo l (fun x => { x with lockedAt := some s.now, band := true, good := 4 })
  let s := (if s.radioState l < 2 then s.setPin .radio l 2 else s).loBack l
  let s := match s.clk.hand with
    | some h => if h.sp = l ∧ h.stage = 1 then { s with clk := { s.clk with hand := some { h with stage := 2 } } } else s
    | none => s
  s.entriesAgain l

/-- LO_COUNT_WINDOW: a window of VCO / 4 counts ended (R176, R177). -/
def State.loWindow (s : State) (l count : Nat) : State :=
  if !s.loOn l ∨ (s.lo l).upAt.isSome = true then s
  else
    let n := (s.lo l).divs.nExp
    let d := if n < count then count - n else n - count
    if s.loLocked l then (if 8 < d then s.loUnlock l else s)
    else if 2 < d then s.modLo l (fun x => { x with good := 0 })
    else
      let s := s.modLo l (fun x => { x with good := x.good + 1 })
      if 4 ≤ (s.lo l).good then s.loLockNow l else s

/-- LO_CYCLE_SLIP (R177). -/
def State.loSlip (s : State) (l : Nat) : State :=
  if !s.loOn l ∨ (s.lo l).upAt.isSome = true then s
  else if s.loLocked l then s.loUnlock l else s.modLo l (fun x => { x with good := 0 })

/-! ### Spare handover (R179, R180, R186) -/

/-- Cost of a powered synthesiser (Table 7-3). -/
def loCost : List Nat := costAdd (costAdd (costOn r18 30) (costOn rRf 12)) (costOn rCore 2)

/-- A synthesiser is powered: its domain leaves Sleep for Standby (R141). -/
def State.loUp (s : State) (l : Nat) : State :=
  ((s.setLo l false false false false).setPin .radio l 0).modLo l (fun x =>
    { x with on := true, upAt := some s.now, good := 0, step := none, half := false, slip := false, lockedAt := none })

/-- All four synthesisers feed tiles: none can be recalibrated in service (R23). -/
def State.noSpare (s : State) : Bool :=
  (List.range 4).all (fun l => (List.range 12).any (fun k => s.txLo s.time_ k == l || s.rxLo s.time_ k == l))

/-- STANDBY_REACHED of a synthesiser: 40 µs with an external reference, 2.0 ms on the crystal (Table 6-3). A full calibration
begins for a spare that takes over and for an LO that has none yet (R179, R453); otherwise the band is retained. -/
def State.loStandby (s : State) (l : Nat) : State :=
  match (s.lo l).upAt with
  | none => s
  | some t =>
    if s.now < t + (if s.o 0x2420 3 = 1 then 40 * tUs else 2 * tMs) then s
    else
      let mine := s.clk.hand.any (fun h => h.sp == l)
      let cal := mine || !(s.lo l).band
      let s := ((s.setPin .radio l 1).setLo l false (!cal) cal false).modLo l (fun x => { x with upAt := none, good := 0 })
      match s.clk.hand with
      | some h => if h.sp = l ∧ h.stage = 0 then { s with clk := { s.clk with hand := some { h with stage := 1 } } } else s
      | none => s

/-- LO_HANDOVER_START from active synthesiser x to spare sp. -/
def State.handStart (s : State) (x sp : Nat) : State :=
  if s.clk.hand.isSome ∨ s.noSpare = true ∨ s.a (loIdx x) 1 ≠ 1 ∨ s.a (loIdx sp) 1 ≠ 2 ∨ x = sp ∨ 4 ≤ x ∨ 4 ≤ sp then s
  else
    let r := s.ask .lo sp loCost Dom.tm
    if !r.1 then r.2.bump 0x2430 3 1
    else
      let s := (r.2.loUp sp).modLo sp (fun y => { y with divs := (s.lo x).divs })
      { s with clk := { s.clk with hand := some ⟨x, sp, 0, !s.loLocked x⟩ } }

/-- LO_HANDOVER_ARMED: the comparator has found the spare a number of steps ahead of X, and the spare has been stepped back by as many
(R179 step 3). -/
def State.handArmed (s : State) (lead : Int) : State :=
  match s.clk.hand with
  | some h => if h.stage = 2 then
      { s.turnPhase h.sp (-lead) with clk := { s.clk with hand := some { h with stage := 3 } } } else s
  | none => s

/-- Powers a synthesiser down and releases its credit; its phase is gone (R182). -/
def State.loDown (s : State) (l : Nat) : State :=
  ((((s.setLo l false false false false).seto (loIdx l) 0x0D 0).modLo l (fun x =>
    { x with on := false, upAt := none, good := 0, step := none, half := false, slip := false, lockedAt := none })).setPin .radio l 0).release
      .lo l

/-- A handover is abandoned (Table 7-4). -/
def State.handAbandon (s : State) : State :=
  match s.clk.hand with
  | some h => ({ s with clk := { s.clk with hand := none } }.loDown h.sp).bump 0x2430 2 1
  | none => s

/-- Exchanges two objects, demand and value in force. -/
def State.swapObj (s : State) (i j sub : Nat) : State :=
  let a := s.o i sub
  let b := s.o j sub
  let c := s.a i sub
  let d := s.a j sub
  (((s.seto i sub b).seto j sub a).seta i sub d).seta j sub c

/-- TILE_LO with one synthesiser's number in place of another's, on either side. -/
def tileSwap (v x sp : Nat) : Nat :=
  let f := fun n => if n = x then sp else if n = sp then x else n
  f (bits v 0 2) + f (bits v 4 2) * 16

/-- The handover: every tile side fed by x moves to sp, the objects are exchanged, x powers down. The code of LO_SWAP
in the event log is not given (assumption 2). -/
def State.handover (s : State) : State :=
  match s.clk.hand with
  | some h =>
    if h.stage ≠ 3 then s
    else
      let i := loIdx h.x
      let j := loIdx h.sp
      let s := [1, 2, 3, 4, 5, 6, 7, 0x0D].foldl (fun s sub => s.swapObj i j sub) s
      let s := (List.range 12).foldl (fun s k =>
        (s.seto 0x2410 (k + 1) (tileSwap (s.o 0x2410 (k + 1)) h.x h.sp)).seta 0x2410 (k + 1)
          (tileSwap (s.a 0x2410 (k + 1)) h.x h.sp)) s
      let st := s.radioState h.x
      let later := (s.rf.edges.filter (fun e => decide (e.kind = .radio ∧ e.n = h.x))).map (fun e => { e with n := h.sp })
      let s := s.setPin .radio h.sp st
      let s := { s with rf := { s.rf with edges := s.rf.edges ++ later } }
      let s := s.setLo h.sp (s.loValid h.x) false false (s.loLocked h.sp)
      let s := s.modLo h.sp (fun y => { y with step := (s.lo h.x).step, half := (s.lo h.x).half, slip := (s.lo h.x).slip })
      let s := (s.seto j 0x0C (s.lo h.sp).divs.freq).bump 0x2430 1 1
      let d := s.draw 16
      let T := s.time_.toNat
      let s := d.2.logAdd ⟨d.1, 1, s.addr, 0, (T / tSec) % 2 ^ 32, (T % tSec) / tNs⟩
      { s with clk := { s.clk with hand := none } }.loDown h.x
  | none => s

/-! ### Reference (R170, R171) -/

/-- Nominal REF frequencies in kHz. -/
def refNominal : List Nat := [30720, 61440, 122880, 245760]

/-- A measured frequency in kHz lies within 100 ppm of a nominal one. -/
def refOk (khz : Nat) : Bool :=
  refNominal.any (fun n => decide (n * 999900 ≤ khz * 1000000) && decide (khz * 1000000 ≤ n * 1000100))

/-- REF_ACCEPT with the measured frequency: not usable, taken at once before any path or LO is enabled, or taken over
with a slew. -/
def State.refAccept (s : State) (khz : Nat) : State :=
  let st := s.o 0x2420 3
  if s.a 0x2420 1 ≠ 0 ∨ st = 1 ∨ st = 2 ∨ s.clk.slewing then s
  else
    let s := s.seto 0x2420 2 khz
    if !refOk khz then s.seto 0x2420 3 3
    else if (List.range 12).any (s.tileOn s.time_) || (List.range 4).any s.loOn then
      { s with clk := { s.clk with slewing := true } }
    else s.seto 0x2420 3 1

/-- REF_LOST: holdover (R171). DESIGN CHOICE (assumption 72): REF_FREQ keeps the last measured value through a holdover. A REF that was
not usable is gone: nothing is present any more (R170). -/
def State.refLost (s : State) : State :=
  if s.o 0x2420 3 = 3 ∧ ¬ s.clk.slewing then (s.seto 0x2420 3 0).seto 0x2420 2 0
  else if s.o 0x2420 3 = 1 ∨ s.clk.slewing then
    { ((s.seto 0x2420 3 2).bump 0x2430 5 1).raise Al.refLost 0 with clk := { s.clk with slewing := false } }
  else s

/-- A commit makes the crystal the source (R170): REF is not used, nor measured, any more. DESIGN CHOICE (assumption 72): REF_FREQ then
reads 0, and a REF_LOST that stood is over. -/
def State.refCrystal (s : State) : State :=
  { ((s.seto 0x2420 3 0).seto 0x2420 2 0).clearAl Al.refLost 0 with clk := { s.clk with slewing := false } }

/-- REF_RESTORE: after 1.0 s of a good REF the slew back begins. -/
def State.refRestore (s : State) : State :=
  if s.o 0x2420 3 = 2 then { s with clk := { s.clk with slewing := true } } else s

/-- REF_SLEW_DONE. -/
def State.refSlewed (s : State) : State :=
  if s.clk.slewing then
    { (s.seto 0x2420 3 1).clearAl Al.refLost 0 with clk := { s.clk with slewing := false } }
  else s

/-! ### FCONV (R183) -/

/-- Distance in millihertz from a band to the nearest multiple of h, from h upward. -/
def multDist (h lo hi : Nat) : Nat :=
  if hi < h then h - hi
  else
    let r := lo % h
    if lo < h ∨ r = 0 ∨ h ≤ r + (hi - lo) then 0 else min r (h - (r + (hi - lo)))

/-- Occupied bands of the enabled carriers at an instant, and the active LOs, in millihertz. -/
def State.bands (s : State) (T : Int) : List (Nat × Nat) :=
  [0, 1].flatMap (fun dir => (List.range 4).filterMap (fun c =>
    if s.carEnabled T dir c then
      let f := s.at_ T (carIdx dir c) 4 * 1000000
      let half := 6 * s.carNrb T dir c * (if s.carScs T dir c = 0 then 15000000 else 30000000)
      some (f - half, f + half)
    else none))

/-- D of R183 for an FCONV, in millihertz; none while nothing is enabled. -/
def State.clearance (s : State) (T : Int) (los : List Nat) (code : Nat) : Option Nat :=
  let h := fconvHz code * 500
  let ds := (s.bands T ++ los.map (fun f => (f, f))).map (fun b => multDist h b.1 b.2)
  match ds with
  | [] => none
  | d :: l => some (l.foldl min d)

/-- 20 MHz in millihertz: the clearance that clears. -/
def clear20 : Nat := 20000000000

/-- An FCONV clears. -/
def clears? (d : Option Nat) : Bool := match d with | none => true | some x => decide (clear20 ≤ x)

/-- The FCONV a commit chooses (R183), from FCONV_SEL, the current code and the clearances. -/
def State.chooseFconv (s : State) (T : Int) (los : List Nat) (sel cur : Nat) : Nat :=
  if sel ≠ 0 then sel
  else if clears? (s.clearance T los cur) then cur
  else
    let d := fun c => (s.clearance T los c).getD 0
    if d 1 ≤ d 2 ∧ d 3 ≤ d 2 then 2 else if d 3 ≤ d 1 then 1 else 3

/-! ### The commands -/

def execRefAccept (t : Tick) (khz : Nat) (s : State) : Host.Outcome State Fault Refusal := s.run t (fun s => s.refAccept khz)

def execRefLost (t : Tick) (s : State) : Host.Outcome State Fault Refusal := s.run t State.refLost

def execRefRestore (t : Tick) (s : State) : Host.Outcome State Fault Refusal := s.run t State.refRestore

def execRefSlewDone (t : Tick) (s : State) : Host.Outcome State Fault Refusal := s.run t State.refSlewed

def execLoCountWindow (t : Tick) (lo count : Nat) (s : State) : Host.Outcome State Fault Refusal :=
  s.run t (fun s => s.loWindow lo count)

def execLoCycleSlip (t : Tick) (lo : Nat) (s : State) : Host.Outcome State Fault Refusal := s.run t (fun s => s.loSlip lo)

def execLoLoadNow (t : Tick) (r : Req) (lo v : Nat) (s : State) : Host.Outcome State Fault Refusal :=
  s.run t (fun s => s.writeBy r (0x2400 + lo % 4) 8 (objBytes 0x2400 8 v) (fun s v => s.loLoadNow (lo % 4) v))

def execLoPhaseStep (t : Tick) (r : Req) (lo v : Nat) (s : State) : Host.Outcome State Fault Refusal :=
  s.run t (fun s => s.writeBy r (0x2400 + lo % 4) 0x0A (objBytes 0x2400 0x0A v) (fun s v => s.loStep (lo % 4) v))

def execLoHandoverStart (t : Tick) (x sp : Nat) (s : State) : Host.Outcome State Fault Refusal :=
  s.run t (fun s => s.handStart x sp)

def execStandbyReached (t : Tick) (lo : Nat) (s : State) : Host.Outcome State Fault Refusal := s.run t (fun s => s.loStandby lo)

def execLoHandoverArmed (m : LoLead) (s : State) : Host.Outcome State Fault Refusal :=
  s.run m.t (fun s => s.handArmed m.lead)

end Sys2Proof.Machine
end

