-- ==== Sys2Proof/Machine/Dpd.lean ====
section
/-!
DEFINITION. Predistortion banks and adaptation, the observation receivers' arbiters, and the DSP cluster
(chapter 08).
-/

namespace Sys2Proof.Machine

/-! ### State of a path and of an observation receiver -/

/-- Adaptation of a path, and it put through a function. -/
def State.dp (s : State) (n : Nat) : DpdPath := smGet DpdPath.init s.dpd.paths n
def State.modDp (s : State) (n : Nat) (f : DpdPath → DpdPath) : State :=
  { s with dpd := { s.dpd with paths := smSet DpdPath.init s.dpd.paths n (f (s.dp n)) } }

/-- The arbiter of OXn, and it put through a function. -/
def State.ox (s : State) (x : Nat) : Orx := smGet Orx.init s.dpd.orx x
def State.modOx (s : State) (x : Nat) (f : Orx → Orx) : State :=
  { s with dpd := { s.dpd with orx := amod 8 Orx.init s.dpd.orx x f } }

/-- DPD_MODE in force. -/
def State.dpdMode (s : State) (n : Nat) : Nat := s.a 0x4001 (n + 1)

/-- A reason for staleness, kept until the next commit (R201). -/
def State.why (s : State) (n b : Nat) : State := s.setBit 0x4102 (n + 1) b true

/-- TX LO frequency of a path's tile in kHz, nearest (Table 8-3). -/
def State.loKhz (s : State) (n : Nat) : Nat := divHE (s.o (loIdx (s.txLo s.time_ (tileOf n))) 0x0C) 1000000

/-- FCONV in force in hertz. -/
def State.fcv (s : State) : Nat := fconvHz (s.o 0x2420 6)

/-! ### Terms and banks (R189 to R198) -/

/-- A header word (Table 8-3). -/
def mkHead (fconv lo : Nat) : Nat := 2 ^ 31 + fconv * 2 ^ 29 + lo % 2 ^ 23

/-- A bank is usable (R196). -/
def State.bankUsable (s : State) (n b : Nat) : Bool :=
  let h := bankHead (s.bank n b)
  let lo := s.loKhz n
  let tag := bits h 0 23
  bit h 31 && decide (bits h 29 2 = s.o 0x2420 6) &&
  decide ((if lo < tag then tag - lo else lo - tag) ≤ s.a 0x4000 6 * 1000)

/-- The band assigned to a path's tile (R196, R411). -/
def State.pathBand (s : State) (n : Nat) : Nat := s.o 0x7102 (tileOf n + 1)

/-- The bank the engine uses for a band: the band's own, or the usable bank nearest to it, the lower on a tie, borrowed;
0xFF for none (R196). -/
def State.chooseBank (s : State) (n : Nat) : Nat :=
  let band := s.pathBand n
  let near := [0, 1, 2, 3, 4, 5].flatMap (fun d => if d = 0 then [band] else (if d ≤ band then [band - d] else []) ++ [band + d])
  match near.find? (fun b => decide (b < 6) && s.bankUsable n b) with
  | some b => if b = band then b else 128 + b
  | none => 0xFF

/-- COEF_AGE in milliseconds (R201); an active bank never exchanged counts from power-up (assumption 12). -/
def State.coefAge (s : State) (n : Nat) : Nat :=
  min ((s.now - smGet 0 (s.dp n).exAt (s.activeBank n % 8)) / tMs) (2 ^ 32 - 1)

/-- DPD_STATE (Table 8-11). -/
def State.dpdState (s : State) (n : Nat) : Nat :=
  if s.dpdMode n = 0 then 0
  else if s.dpdMode n = 2 ∧ (s.dp n).stale = true then 3
  else if !s.engineOn n || s.activeBank n == 0xFF then 1
  else if s.dpdMode n = 1 then 4
  else 2

/-- The exchange of a bank commit (R195). -/
def State.exchange (s : State) (n b : Nat) : State :=
  let sh := s.o 0x4004 (n + 1)
  let old := s.bank n b
  let new := mkHead (s.o 0x2420 6) (s.loKhz n) * 2 ^ 2048 + sh
  let s := (s.seto (0x4010 + b) (n + 1) new).seto 0x4004 (n + 1) (bankCoefs old)
  let s := s.modDp n (fun p => { p with exAt := smSet 0 p.exAt b s.now })
  { s with cal := { s.cal with storeQ := s.cal.storeQ ++ [(key (0x4010 + b) (n + 1), new)] } }

/-- Staleness ends with a successful commit, or with mode 2 (R201). -/
def State.freshen (s : State) (n : Nat) : State :=
  ((s.seto 0x4102 (n + 1) 0).modDp n (fun p => { p with stale := false })).clearAl Al.dpdStale n

/-- A path goes stale (R201). -/
def State.goStale (s : State) (n : Nat) : State :=
  if (s.dp n).stale then s else (s.modDp n (fun p => { p with stale := true })).raise Al.dpdStale n

/-! ### The arbiter of an observation receiver (R203 to R206) -/

/-- Number of the arbiter cycle that holds an instant, and the start of the cycle k later. -/
def State.arbCycle (s : State) (T : Nat) : Nat := T * s.fcv / (8 * tSec)
def State.arbAfter (s : State) (T k : Nat) : Nat := ceilDiv ((s.arbCycle T + k) * (8 * tSec)) s.fcv

/-- ORX_HOLDER of an OX. -/
def State.holder (s : State) (x : Nat) : Nat := s.o 0x4210 (x + 1)
/-- A privileged requester. -/
def isPriv (who : Nat) : Bool := who == 12 || who == 13

/-- Privileged grant time of an OX up to now. -/
def State.privNow (s : State) (x : Nat) : Nat :=
  (s.ox x).privTime + (if isPriv (s.holder x) then s.now - (s.ox x).at_ else 0)

/-- Order of grants: VSWR, calibration, then arrival by arbiter cycle, then path (R203). -/
def State.grantOrder (s : State) (q : List OrxReq) : List OrxReq :=
  q.filter (fun r => r.who == 13) ++ q.filter (fun r => r.who == 12) ++
  sortBy (fun r => s.arbCycle r.since) (sortBy (fun r => r.who) (q.filter (fun r => !isPriv r.who)))

/-- A hint in 0.1 µs, rounded up: remaining time of the grant, limits of the ordinary requesters ahead, two arbiter cycles
for each requester ahead and one more pair (R206). -/
def State.hintOf (s : State) (x : Nat) (ahead : List OrxReq) : Nat :=
  let o := s.ox x
  let rem := if s.holder x < 12 then o.at_ + o.limit - s.now else 0
  let lim := (ahead.filter (fun r => !isPriv r.who)).length * (s.a 0x4200 (x + 1) * tUs)
  ceilDiv (rem + lim + (ahead.length + 1) * 2 * ceilDiv (8 * tSec) s.fcv) (tUs / 10)

/-- Recomputes the hints of an OX: a requester with a privileged one ahead or holding carries PRIV and keeps the value it
has (R206, Table 8-6). -/
def State.rehint (s : State) (x : Nat) : State :=
  let q := s.grantOrder (s.ox x).queue
  let held := isPriv (s.holder x)
  let f := fun (acc : List OrxReq) (r : OrxReq) =>
    let pr := held || acc.any (fun a => isPriv a.who)
    acc ++ [{ r with priv := pr, hint := if pr && decide (r.hint ≠ 0) then r.hint else s.hintOf x acc }]
  s.modOx x (fun o => { o with queue := q.foldl f [] })

/-- Owner word of an ORX lock (Table 14-22). -/
def orxOwner (x who : Nat) : Nat :=
  if who = 12 then ownCal else if who = 13 then ownVswr else 2 ^ 30 + 0x100 + 12 * x + who

/-- An OX works while it is powered (R211). -/
def State.orxOn (s : State) (x : Nat) : Bool := s.granted .orx x

/-- Places a request, with the LO it names for codes 12 to 14. -/
def State.orxAsk (s : State) (x who code : Nat) (lo : Option Nat) : State :=
  let o := s.ox x
  if o.queue.any (fun r => r.who == who) || s.holder x == who then s
  else (s.modOx x (fun o => { o with queue := o.queue ++ [⟨who, s.now, code, 0, false, s.privNow x, lo⟩] })).rehint x

/-- The synthesiser the mixer of an OX takes for a code: that of the tile whose coupler is selected, or the one the requester names
(R139). -/
def State.orxLo (s : State) (x code : Nat) (named : Option Nat) : Option Nat :=
  if code < 12 then some (s.txLo s.time_ (tileOf (12 * x + code))) else named

/-- The switch settle of a grant of OXx: 100 ns more when the new input takes a different LO (R139). -/
def State.settleEnd (s : State) (x code : Nat) (named : Option Nat) : Nat :=
  let old := s.orxLo x (s.ox x).sel (s.ox x).lo
  s.a 0x2050 (x + 1) * tNs + (if old.isSome ∧ old = s.orxLo x code named then 0 else 100 * tNs)

/-- ORX_GRANT: the next requester in order (R203). -/
def State.orxGrant (s : State) (x : Nat) : State :=
  let o := s.ox x
  match s.grantOrder o.queue with
  | r :: _ =>
    if s.holder x ≠ 15 ∨ s.now < o.freeAt ∨ ¬ s.orxOn x then s
    else
      let wait := ceilDiv (s.now - r.since - (s.privNow x - r.privAt)) (tUs / 10)
      let s := if !isPriv r.who ∧ s.o 0x4215 (x + 1) < wait then s.seto 0x4215 (x + 1) wait else s
      let e := s.settleEnd x r.code r.lo
      let s := s.modOx x (fun o => { o with
        queue := o.queue.filter (fun q => q.who != r.who), at_ := s.now, limit := s.a 0x4200 (x + 1) * tUs,
        settled := none, discard := false, sel := r.code, lo := r.lo, freeAt := s.now + e, long := false, limited := none })
      let s := (s.seto 0x4210 (x + 1) r.who).setLock x
        ⟨orxOwner x r.who, if isPriv r.who then some (s.now + s.a 0x4200 0x0A * tUs) else none⟩
      s.rehint x
  | [] => s

/-- A grant ends; the next may be issued k arbiter cycles later. The ADC's elements are selected between two grants (Table 9-1). -/
def State.orxEnd (s : State) (x k : Nat) : State :=
  let pr := isPriv (s.holder x)
  let s := s.modOx x (fun o => { o with
    settled := none, freeAt := s.arbAfter s.now k,
    privTime := if pr then o.privTime + (s.now - o.at_) else o.privTime })
  (((s.seto 0x4210 (x + 1) 15).setLock x lockFree).select 4 x).rehint x

/-- A holder drops its request: after its first capture cycle the grant counts in ORX_GRANTS; before it, it is a withdrawal
that leaves one dead cycle (R204, Table 8-6). A requester that waits leaves the queue. -/
def State.orxDrop (s : State) (x who : Nat) : State :=
  if s.holder x = who ∧ who ≠ 15 then
    if (s.ox x).settled.isSome then (s.bump 0x4211 (x + 1) 1).orxEnd x 1
    else (s.bump 0x4212 (x + 1) 1).orxEnd x 2
  else (s.modOx x (fun o => { o with queue := o.queue.filter (fun r => r.who != who) })).rehint x

/-- A request is dropped in the same arbiter cycle in which the burst limit has expired: it counts as dropped (R204). -/
def State.orxDropLate (s : State) (x : Nat) : State :=
  match (s.ox x).limited with
  | some l => if l.2 = s.arbCycle s.now then (s.bump 0x4213 (x + 1) (2 ^ 32 - 1)).modOx x (fun o => { o with limited := none }) else s
  | none => s

/-- A holder loses its grant: ORXSEL_n parks (R204). -/
def State.orxForce (s : State) (x : Nat) : State :=
  if s.holder x = 15 then s
  else ((s.bump 0x4211 (x + 1) 1).modOx x (fun o => { o with sel := 15, lo := none })).orxEnd x 1

/-- The TX-chain assay in progress on a benched path that an OX serves is discarded (Table 9-6). -/
def State.dropTxAssay (s : State) (x : Nat) : State :=
  match s.cal.bench with
  | some b =>
    (b.paths.filter (fun n => b.running && oxOf n == x && decide (smGet 0 s.cal.prog (2 * n) ∈ [1, 2, 3]))).foldl (fun s n =>
      { s.bump 0x4420 5 1 with cal := { s.cal with
          prog := smSet 0 s.cal.prog (2 * n) (smGet 0 s.cal.prog (2 * n) + 1), progAt := smSet 0 s.cal.progAt (2 * n) (s.now + 1)
          recipOut := if smGet 0 s.cal.prog (2 * n) = 3 then s.cal.recipOut ++ [n] else s.cal.recipOut } }) s
  | none => s

/-- Release of a grant by the reset hook: as the forced release, without its alarm (R204, Table 8-5). DESIGN CHOICE (assumption 73): the
entry in the event log carries the code of ORX_LEASE. -/
def State.orxReset (s : State) (x : Nat) : State :=
  if s.holder x = 15 then s
  else
    let s := if s.holder x = 12 then s.dropTxAssay x else s
    let T := s.time_.toNat
    (((s.orxForce x).bump 0x4214 (x + 1) 1).logAdd ⟨Al.orxLease, 1, s.addr, x, (T / tSec) % 2 ^ 32, (T % tSec) / tNs⟩)

/-! ### Adaptation (R199 to R202) -/

/-- Cost of a DSP core. -/
def coreCost : List Nat := costOn rCore 9

/-- A core's work ends: its credit is released and its span recorded. -/
def State.coreStop (s : State) (c : Nat) : State :=
  let t0 := smGet 0 s.dpd.coreAt c
  { s.release .dcCore c with dpd := { s.dpd with
      coreAt := smErase s.dpd.coreAt c,
      busy := (s.dpd.busy.filter (fun b => decide (s.now < b.2 + tSec))) ++ [(t0, s.now)] } }

/-- A core's program memory is loaded from patch RAM (R209, R434, Table 16-12); 16 KiB at 0x1_0000 of its window. -/
def State.dcLoad (s : State) (core : Nat) : State :=
  let s := s.wrBytes (0x40010000 + core * 0x20000) ((List.range 16384).map (fun i => Config.dcProgram s.sec.run.measure i % 256))
  { s with dpd := { s.dpd with reload := s.dpd.reload.filter (fun c => c != core) } }

/-- A core asks for its credit (R210). After a swap it reloads its program before the task (R434). -/
def State.coreStart (s : State) (c : Nat) : Bool × State :=
  let r := s.ask .dcCore c coreCost Dom.dc
  if r.1 then
    let s := if c ∈ r.2.dpd.reload then r.2.dcLoad c else r.2
    (true, { s with dpd := { s.dpd with coreAt := smInsert s.dpd.coreAt c s.now } })
  else r

/-- An attempt ends; a grant or a request of its task is given back. -/
def State.endAttempt (s : State) (n : Nat) (give : Bool) : State :=
  match (s.dp n).att with
  | some a =>
    let s := (s.modDp n (fun p => { p with att := none })).coreStop a.core
    if give then s.orxDrop (oxOf n) (n % 12) else s
  | none => s

/-- The attempt of a path is abandoned: no commit, and a grant is withdrawn (Table 8-9). -/
def State.abandonDpd (s : State) (n : Nat) : State := (s.endAttempt n true).modDp n (fun p => { p with pend := none })

/-- A path is due: in mode 2, not benched, no attempt, and its last attempt began DPD_PERIOD ago (R199). -/
def State.due (s : State) (n : Nat) : Bool :=
  decide (s.dpdMode n = 2) && !s.benched s.time_ n && (s.dp n).att.isNone && (s.dp n).pend.isNone &&
  (match (s.dp n).last with | some t => decide (t + s.a 0x4000 1 * tMs ≤ s.now) | none => true)

/-- DPD_ATTEMPT_START: a free core takes the next due path in ascending path number, in turn (R199, R210). -/
def State.dpdStart (s : State) : State :=
  if !s.domOn Dom.dc || s.cpAbsent.isSome then
    (allPaths.filter (fun n => decide (s.dpdMode n = 2))).foldl (fun s n => s.why n 5) s
  else
    let turn := (List.range 96).map (fun i => (s.dpd.next + i) % 96)
    match (List.range (s.a 0x4000 5)).find? (fun c => !s.granted .dcCore c), turn.find? s.due with
    | some c, some n =>
      let r := s.coreStart c
      if !r.1 then r.2
      else
        let s := r.2.modDp n (fun p => { p with last := some s.now, mark := s.now, att := some ⟨c, false, 0, 0, 0, 0⟩ })
        { s with dpd := { s.dpd with next := (n + 1) % 96 } }
    | _, _ => s

/-- The driver mute that ends the present TX run: the first pattern symbol that is not a TX symbol (R147, Table 6-5),
within two slots. -/
def State.nextMute (s : State) : Option Int :=
  let scs := s.a 0x2020 2
  let T := s.time_
  let n0 := s.slotOf scs T
  let syms := [n0, n0 + 1, n0 + 2].flatMap (fun n => (List.range 14).map (fun k => (n, k)))
  ((syms.filter (fun x => decide (T < s.tAirEnd scs x.1 x.2))).find? (fun x =>
    !(let c := s.patCode T x.1 x.2; c == 1 || c == 3))).map (fun x => s.tAir scs x.1 x.2 - s.txBoard)

/-- Duration of 4,096 samples at FCONV. -/
def State.capTicks (s : State) : Nat := ceilDiv (4096 * tSec) s.fcv

/-- The path transmits, and a capture that starts after the settle ends 0.5 µs before the mute (R199 step 1). -/
def State.runUsable (s : State) (n : Nat) : Bool :=
  decide (s.pin .driver n = 1) &&
  (match s.nextMute with
   | some m => decide (s.time_ + ((s.settleEnd (oxOf n) (n % 12) none + s.capTicks + tUs / 2 : Nat) : Int) ≤ m)
   | none => true)

/-- ORX_REQUEST of a requester (R203): an adaptation task asks with its attempt waiting and a usable TX run; the
calibration engine and the VSWR monitor name their code and, for codes 12 to 14, their LO (R139). -/
def State.orxRequest (s : State) (x who code lo : Nat) : State :=
  if who < 12 then
    let n := 12 * x + who
    match (s.dp n).att with
    | some a =>
      if a.captured then s
      else if !s.orxOn x then s.why n 1
      else if !s.runUsable n then s.why n 2
      else s.orxAsk x who who none
    | none => s
  else if isPriv who && decide (code < 15) && s.orxOn x then s.orxAsk x who code (if code < 12 then none else some (lo % 4))
  else s

/-- ORX_SETTLE_DONE: the capture starts. A privileged holder may start one after another, and renews its lease at the start of each
(R139, R204). -/
def State.orxSettled (s : State) (x : Nat) : State :=
  let o := s.ox x
  let w := s.holder x
  if w = 15 ∨ (o.settled.isSome ∧ ¬ isPriv w) ∨ s.now < o.freeAt then s
  else
    let s := s.modOx x (fun o => { o with settled := some s.now })
    if isPriv w then s.setLock x ⟨orxOwner x w, some (s.now + s.a 0x4200 0x0A * tUs)⟩
    else
      let n := 12 * x + w
      s.modDp n (fun p => { p with att := p.att.map (fun a =>
        { a with fconv := s.o 0x2420 6, lo := s.loKhz n, tileLo := s.a 0x2410 (tileOf n + 1) }) })

/-- ORX_WITHDRAW: the holder withdraws before its first capture cycle. -/
def State.orxWithdraw (s : State) (x : Nat) : State :=
  if s.holder x ≠ 15 ∧ (s.ox x).settled.isNone then s.orxDrop x (s.holder x) else s

/-- ORX_BURST_LIMIT_EXPIRY of an ordinary grant: the capture is discarded, and the task may ask again. -/
def State.orxLimit (s : State) (x : Nat) : State :=
  let o := s.ox x
  if 12 ≤ s.holder x ∨ s.now < o.at_ + o.limit then s
  else ((((s.bump 0x4213 (x + 1) 1).bump 0x4211 (x + 1) 1).orxEnd x 1)).modOx x (fun o => { o with limited := some (s.holder x, s.arbCycle s.now) })

/-- ORX_LEASE_EXPIRY of a privileged grant. -/
def State.orxLease (s : State) (x : Nat) : State :=
  match (s.lock x).leaseEnd with
  | some e =>
    if isPriv (s.holder x) ∧ e < s.now then
      let s1 := if s.holder x = 12 then s.dropTxAssay x else s
      (((s1.orxForce x).bump 0x4214 (x + 1) 1).bump 0x1013 (x + 1) 1).raise Al.orxLease x
    else s
  | none => s

/-- ORX_PRIV_WD_EXPIRY: once for a privileged grant (R204). -/
def State.orxWd (s : State) (x : Nat) : State :=
  let o := s.ox x
  if isPriv (s.holder x) ∧ ¬ o.long ∧ o.at_ + s.a 0x4200 9 * tUs < s.now then
    (s.modOx x (fun o => { o with long := true })).raise Al.orxPrivLong x
  else s

/-! ### Captures (R199 step 3, R207, R368) -/

/-- I and Q of a DPD_REF word, and of an ORX_IN word (Table 8-7). -/
def refIQ (w : Nat) : Int × Int := (toInt 16 (bits w 16 16), toInt 16 (bits w 0 16))
def orxIQ (w : Nat) : Int × Int := (toInt 12 (bits w 20 12), toInt 12 (bits w 4 12))

/-- More than 4 ORX samples at a rail. -/
def orxClipped (l : List Nat) : Bool :=
  decide (4 < (l.filter (fun w => let v := orxIQ w
    v.1 == -2048 || v.1 == 2047 || v.2 == -2048 || v.2 == 2047)).length)

/-- The RMS of y lies below a level in 0.1 dBFS: mean |y|² / 2^30 < 10^(level / 100), compared exactly. -/
def belowLevel (l : List Nat) (level : Int) : Bool :=
  let e := l.foldl (fun (a : Nat) w => let v := refIQ w; a + (v.1 * v.1 + v.2 * v.2).toNat) 0
  decide (e ^ 100 * 10 ^ (-level).toNat < (l.length * 2 ^ 30) ^ 100)

/-- Base of the captures of OXn. -/
def oxBase (x : Nat) : Nat := 0x20100000 + x * 0x10000

/-- Header and data of a capture (Table 15-3, R368). -/
def State.putCapture (s : State) (x path : Nat) (t0 : Nat) (ref orx : List Nat) : State :=
  let b := oxBase x
  let T := (t0 : Int) + s.timeBase
  let scs := s.a 0x2020 2
  let n := s.slotOf scs T
  let seq := s.rd32 (b + 12) / 2 ^ 16 + 1
  let s := ((s.wr32 b (6 * 2 ^ 24 + 2 ^ 22)).wr32 (b + 4)
    (airFields scs n (symAt scs (T - s.slotStart scs n).toNat) + path)).wr32 (b + 8) (4 * (ref.length + orx.length))
  let s := ((s.wr32 (b + 12) (seq % 2 ^ 16 * 2 ^ 16)).wrBytes (b + 16) (bytesBE 12 (time96 T))).wr32 (b + 28) 0
  (s.wrBytes (b + 0x100) (ref.flatMap (bytesLE 4))).wrBytes (b + 0x4100) (orx.flatMap (bytesLE 4))

/-- The capture of a path from t0 on overlapped a driver mute, a fast stop or a bench entry, or an FCONV, TILE_LO or LO change
(R199 step 3). -/
def State.captureHurt (s : State) (n t0 : Nat) (a : DpdAtt) : Bool :=
  let T0 := (t0 : Int) + s.timeBase
  let T1 := T0 + (s.capTicks : Int)
  decide (s.pinAt T0 .driver n = 0) ||
  s.rf.edges.any (fun e => decide (e.kind = .driver ∧ e.n = n ∧ e.level = 0 ∧ T0 < e.at_ ∧ e.at_ < T1)) ||
  s.benched T0 n || s.benched T1 n || decide (a.fconv ≠ s.o 0x2420 6) || decide (a.lo ≠ s.loKhz n) ||
  decide (a.tileLo ≠ s.a 0x2410 (tileOf n + 1))

/-- DPD_CAPTURE_DONE on OXn with the words of both parts: they are stored, and an adaptation capture, of 4,096 samples each, is
judged. -/
def State.captureDone (s : State) (x : Nat) (ref orx : List Nat) : State :=
  match (s.ox x).settled with
  | some t0 =>
    let w := s.holder x
    if isPriv w then s.putCapture x 127 t0 (List.replicate ref.length 0) orx
    else
      let n := 12 * x + w
      match (s.dp n).att with
      | some a =>
        if ref.length ≠ 4096 ∨ orx.length ≠ 4096 ∨ s.now < t0 + s.capTicks then s
        else
        let s := s.putCapture x n t0 ref orx
        if orxClipped orx || belowLevel ref (s.ai 0x4000 7) || s.captureHurt n t0 a then
          ((s.bump 0x4110 2 1).why n 3).endAttempt n false
        else s.modDp n (fun p => { p with att := some { a with captured := true } })
      | none => s
  | none => s

/-! ### The solve (R199 steps 4 to 7, R200) -/

/-- One part of a coefficient (R200): the rounded value before saturation. -/
def cnewRaw (cold chat mu : Int) : Int := roundHE (cold * 2 ^ 15 + mu * (chat - cold)) 15

/-- Both parts of a coefficient word (Table 8-2). -/
def coefIQ (w : Nat) : Int × Int := (toInt 16 (bits w 16 16), toInt 16 (bits w 0 16))
def mkCoef (i q : Int) : Nat := ofInt 16 i * 2 ^ 16 + ofInt 16 q

/-- The updated coefficient words, and how many stores saturate; words of descriptors that are not valid stay. -/
def dpdUpdate (terms coefs mu : Nat) (chat : List (Int × Int)) : List Nat × Nat :=
  (List.range 64).foldl (fun (a : List Nat × Nat) j =>
    let w := coefOf coefs j
    if !descValid (descOf terms j) then (a.1 ++ [w], a.2)
    else
      let c := coefIQ w
      let h := chat.getD j (0, 0)
      let i := cnewRaw c.1 h.1 mu
      let q := cnewRaw c.2 h.2 mu
      (a.1 ++ [mkCoef (satI 16 i) (satI 16 q)], a.2 + b2n (satI 16 i ≠ i) + b2n (satI 16 q ≠ q))) ([], 0)

/-- Words joined into a DOMAIN value, first word first. -/
def joinWords (l : List Nat) : Nat := l.foldl (fun v w => v * 2 ^ 32 + w) 0

/-- The active coefficients; with no usable bank they are open, and drawn (assumption 2). -/
def State.activeCoefs (s : State) (n : Nat) : Nat × State :=
  if s.activeBank n = 0xFF then s.draw 2048 else (bankCoefs (s.bank n (s.activeBank n % 8)), s)

/-- DPD_SOLVE_DONE of a path: NMSE in 0.1 dB, gain in 0.01 dB, and the fit. -/
def State.solveDone (s : State) (n : Nat) (nmse gain : Int) (chat : List (Int × Int)) : State :=
  match (s.dp n).att with
  | some a =>
    if !a.captured then s
    else
      let e := clampI (-600) 32767 nmse
      let s := (s.setoi 0x4103 (n + 1) e).setoi 0x4105 (n + 1) (satI 16 gain)
      let d := smGet ((0, 0) : Int × Nat) s.cal.paSum n
      let s := { s with cal := { s.cal with paSum := smInsert s.cal.paSum n (d.1 + satI 16 gain, d.2 + 1) } }
      let roll := match (s.dp n).led with | some l => decide (l + s.a 0x4000 4 < e) | none => false
      let mk := fun (b : Nat) (back : Bool) => some (DpdPend.mk b back a.fconv a.lo a.tileLo e)
      if roll then
        let s := (s.modDp n (fun p => { p with led := none, pend := mk p.ledBank true })).endAttempt n false
        (s.bump 0x4110 4 1).raise Al.dpdRollback n
      else
        let (old, s) := s.activeCoefs n
        let r := dpdUpdate (s.a 0x4003 (n + 1)) old (s.a 0x4000 3) chat
        let s := s.bump 0x4300 3 r.2
        if r.2 ≠ 0 then ((s.bump 0x4110 3 1).why n 4).endAttempt n false
        else
          ((s.seto 0x4004 (n + 1) (joinWords r.1)).modDp n (fun p =>
            { p with pend := mk (s.pathBand n) false })).endAttempt n false
  | none => s

/-- DPD_PERIOD_LATE of a path (R202); an attempt that still waits has had no usable TX run. -/
def State.dpdLate (s : State) (n : Nat) : State :=
  let p := s.dp n
  if s.dpdMode n ≠ 2 ∨ s.now < p.mark + s.a 0x4000 1 * tMs then s
  else
    let s := (s.bump 0x4110 5 1).modDp n (fun p => { p with mark := s.now })
    match p.att with
    | some a => if a.captured || s.holder (oxOf n) == n % 12 then s else s.why n 2
    | none => s

/-- DPD_STALE_AGE_EXPIRY of a path (R201). -/
def State.dpdStale (s : State) (n : Nat) : State :=
  if s.dpdMode n = 2 ∧ s.a 0x4000 2 < s.coefAge n then s.goStale n else s

/-- The assay results that cores still work on are discarded (Table 9-6). -/
def State.dropMade (s : State) (p : Nat → Bool) : State :=
  let mine := fun (m : Nat × Nat × Option Nat) => match m.2.2 with | some c => p c | none => false
  let gone := s.cal.made.filter mine
  gone.foldl (fun s m => match m.2.2 with | some c => s.coreStop c | none => s)
    { s.bump 0x4420 5 gone.length with cal := { s.cal with made := s.cal.made.filter (fun m => !mine m) } }

/-- DC_ECC_ERROR on a core (R209): a double-bit error aborts its attempt, or discards the result of an assay core. The core, then free,
reloads its program memory before its next task. -/
def State.dcEcc (s : State) (core : Nat) (double : Bool) : State :=
  if !double then s.bump 0x4300 4 1
  else
    let s := (s.bump 0x4300 5 1).raise Al.dcEcc 0
    let s := match allPaths.find? (fun n => match (s.dp n).att with | some a => a.core == core | none => false) with
      | some n => (s.bump 0x4110 3 1).endAttempt n true
      | none => s.dropMade (fun c => c == core)
    s.dcLoad core

/-! ### What slot boundaries and commits do -/

/-- Cost of an observation receiver (Table 8-8). -/
def orxCost : List Nat := costAdd (costAdd (costOn rConv 18) (costOn rRf 5)) (costOn rCore 2)

/-- An OX is wanted: a path it serves is in mode 2, or the calibration engine or the VSWR monitor, which
works while HK is on, is enabled (R211). -/
def State.orxWanted (s : State) (x : Nat) : Bool :=
  decide (s.a 0x4400 1 = 1) || s.domOn Dom.hk || (List.range 12).any (fun i => s.dpdMode (12 * x + i) == 2)

/-- Credit of the observation receivers (R211): taken while wanted and the DP domain is on, retried at slot boundaries. -/
def State.orxCredit (s : State) : State :=
  (List.range 8).foldl (fun s x =>
    if s.orxWanted x && s.domOn Dom.dp then
      if s.orxOn x then s
      else
        let r := s.ask .orx x orxCost Dom.dp
        if r.1 then r.2
        else ((List.range 12).map (· + 12 * x)).foldl (fun s n => if s.dpdMode n = 2 then s.why n 1 else s) r.2
    else (s.orxForce x).release .orx x) s

/-- Credit of an engine in mode 1 or 2 (R193). -/
def State.engineCredit (s : State) (n : Nat) : State :=
  if s.dpdMode n = 0 ∨ s.engineOn n ∨ ¬ s.domOn Dom.dp then s
  else
    let r := s.ask .dpdEngine n (costOn rCore 15) Dom.dp
    if r.1 then r.2 else r.2.bump 0x4110 7 1

/-- Mutes a path that may no longer transmit, without a fast stop: the edges of Table 6-5 from now. -/
def State.mutePath (s : State) (n : Nat) : State := if s.pathSilent n then s else s.cutPath n

/-- The active bank of a path and its borrowed mark (R193, R196). DESIGN CHOICE (assumption 73): in mode 0, where no bank is applied,
DPD_ACTIVE_BANK reads 0xFF. -/
def State.bankShow (s : State) (n : Nat) : State :=
  let b := if s.dpdMode n = 0 then 0xFF else s.chooseBank n
  let s := s.seto 0x4104 (n + 1) b
  if b ≠ 0xFF ∧ 128 ≤ b then s.why n 6 else s

/-- At a slot boundary: the active bank, and PATH_TX_BLOCK[2] (R193, R196). -/
def State.bankRefresh (s : State) (n : Nat) : State :=
  let s := s.bankShow n
  let b := s.activeBank n
  let blk := decide (s.a 0x4002 (n + 1) = 1) && (!s.engineOn n || b == 0xFF)
  let was := bit (s.block n) 2
  let s := if blk ≠ was then s.setBlock n 2 blk else s
  if blk && !was then s.mutePath n else s

/-- The exchange that adaptation has asked for, at a slot boundary; it is dropped if FCONV, TILE_LO or the LO changed
since its capture (R199, R212). -/
def State.adaptCommit (s : State) (n : Nat) : State :=
  match (s.dp n).pend with
  | some q =>
    let s := s.modDp n (fun p => { p with pend := none })
    if q.fconv ≠ s.o 0x2420 6 ∨ q.lo ≠ s.loKhz n ∨ q.tileLo ≠ s.a 0x2410 (tileOf n + 1) then s.bump 0x4110 3 1
    else
      let s := s.exchange n q.bank
      if q.back then s
      else ((s.bump 0x4110 1 1).freshen n).modDp n (fun p => { p with led := some q.nmse, ledBank := q.bank })
  | none => s

/-- What a slot boundary does here (R193, R195, R196, R201, R211). -/
def State.dpdBoundary (s : State) : State :=
  let s := s.orxCredit
  allPaths.foldl (fun s n =>
    let s := (s.engineCredit n).adaptCommit n
    let s := if s.dpdMode n = 2 ∧ s.benched s.time_ n then s.why n 0 else s
    s.bankRefresh n) s

/-- What an activated commit does here: the modes, the term sets, then the bank commits (R191 to R195, R212). `s0` is the
state before it, `vals` what it sets; `slot` tells whether it activates at a slot boundary. -/
def State.dpdCommit (s s0 : State) (vals : SMap Nat) (slot : Bool) : State :=
  let s := allPaths.foldl (fun s n =>
    let m0 := s0.dpdMode n
    let m1 := s.dpdMode n
    if m0 = m1 then s
    else
      let s := if m0 = 2 then ((s.abandonDpd n).freshen n).modDp n (fun p => { p with led := none }) else s
      let s := if m1 = 0 then s.release .dpdEngine n else s.engineCredit n
      if m1 = 2 then s.modDp n (fun p => { p with mark := s.now, last := none }) else s) s
  let s := allPaths.foldl (fun s n =>
    if (smFind vals (key 0x4003 (n + 1))).isSome then
      (List.range 6).foldl (fun s b => s.setBit (0x4010 + b) (n + 1) (2048 + 31) false) s
    else s) s
  let s := allPaths.foldl (fun s n =>
    match smFind vals (key 0x4005 (n + 1)) with
    | some v => if bit v 7 then (s.exchange n (v % 8)).setBoth 0x4005 (n + 1) (v % 128) else s
    | none => s) s
  allPaths.foldl (fun s n => if slot then s.bankRefresh n else s.bankShow n) s.orxCredit

/-- Cycles of an attempt over K terms (R202). -/
def dpdCycles (k : Nat) : Nat := 4096 * (2 * k * (k + 1)) + 4096 * 8 * k + 2 * k ^ 3 + 400000

/-- The estimated round time exceeds DPD_STALE_AGE (R202), with the values a commit would give. -/
def dpdOver (modes terms : List Nat) (cores staleMs : Nat) : Bool :=
  let on := (modes.zip terms).filter (fun x => x.1 == 2)
  let k := listMax (on.map (fun x => (termList x.2).length))
  decide (on ≠ []) && decide (staleMs * 600000 < ceilDiv on.length (max cores 1) * dpdCycles k)

/-- DC_BUSY: mean occupancy of the 24 cores over the last second, in per cent (Table 8-14). -/
def State.dcBusy (s : State) : Nat :=
  let from_ := s.now - tSec
  let open_ := s.dpd.coreAt.map (fun c => (c.2, s.now))
  listSum ((s.dpd.busy ++ open_).map (fun b => b.2 - max b.1 from_)) * 100 / (24 * tSec)

/-! ### The commands -/

def execDpdAttemptStart (t : Tick) (s : State) : Host.Outcome State Fault Refusal := s.run t State.dpdStart

def execDpdCaptureDone (t : Tick) (x : Nat) (ref orx : List Nat) (s : State) : Host.Outcome State Fault Refusal :=
  s.run t (fun s => s.captureDone x ref orx)

def execDpdSolveDone (t : Tick) (path : Nat) (nmse gain : Int) (chat : List (Int × Int)) (s : State) :
    Host.Outcome State Fault Refusal :=
  s.run t (fun s => s.solveDone path nmse gain chat)

def execDpdPeriodLate (t : Tick) (path : Nat) (s : State) : Host.Outcome State Fault Refusal :=
  s.run t (fun s => s.dpdLate path)

def execDpdStaleAgeExpiry (t : Tick) (path : Nat) (s : State) : Host.Outcome State Fault Refusal :=
  s.run t (fun s => s.dpdStale path)

def execOrxRequest (t : Tick) (x who : Nat) (want : OrxWant) (s : State) : Host.Outcome State Fault Refusal :=
  s.run t (fun s => s.orxRequest x who want.code want.lo)

def execOrxGrant (t : Tick) (x : Nat) (s : State) : Host.Outcome State Fault Refusal := s.run t (fun s => s.orxGrant x)

def execOrxSettleDone (t : Tick) (x : Nat) (s : State) : Host.Outcome State Fault Refusal := s.run t (fun s => s.orxSettled x)

def execOrxDrop (t : Tick) (x : Nat) (s : State) : Host.Outcome State Fault Refusal :=
  s.run t (fun s => if s.holder x = 15 then s.orxDropLate x else s.orxDrop x (s.holder x))

def execOrxWithdraw (t : Tick) (x : Nat) (s : State) : Host.Outcome State Fault Refusal := s.run t (fun s => s.orxWithdraw x)

def execOrxBurstLimitExpiry (t : Tick) (x : Nat) (s : State) : Host.Outcome State Fault Refusal := s.run t (fun s => s.orxLimit x)

def execOrxLeaseExpiry (t : Tick) (x : Nat) (s : State) : Host.Outcome State Fault Refusal := s.run t (fun s => s.orxLease x)

def execOrxPrivWdExpiry (t : Tick) (x : Nat) (s : State) : Host.Outcome State Fault Refusal := s.run t (fun s => s.orxWd x)

def execDcEccError (t : Tick) (core : Nat) (double : Bool) (s : State) : Host.Outcome State Fault Refusal :=
  s.run t (fun s => s.dcEcc core double)

end Sys2Proof.Machine
end

