-- ==== Sys2Proof/Machine/Cal.lean ====
section
/-!
DEFINITION. Calibration on live traffic and ageing (chapter 09). Assays are numbered as the bits of CAL_STALE:
0 DAC_CELL, 1 ADC_SPARE, 2 TX_LOL, 3 TX_IQ, 4 RX_IQ, 5 RECIP, 6 CHF_LOAD.
-/

namespace Sys2Proof.Machine

/-- Calibration state put through a function. -/
def State.modCal (s : State) (f : Cal → Cal) : State := { s with cal := f s.cal }

/-- a / b to nearest, ties to even, for a positive divisor. -/
def divHEi (a b : Int) : Int :=
  let q := a / b
  let r := a % b
  if b < 2 * r ∨ (2 * r = b ∧ q % 2 ≠ 0) then q + 1 else q

/-! ### Results and their acceptance (R227, R228, Table 9-5) -/

/-- The cells of an in-use list without the i-th. -/
def pick (l : List Nat) (i : Nat) : Nat × List Nat :=
  let x := l.getD (i % max l.length 1) 0
  (x, l.filter (fun y => y != x))

/-- DAC_RETIRED of three cells, the lowest in the low bits (R163). -/
def retiredWord (l : List Nat) : Nat :=
  let m := sortBy (fun x => x) l
  m.getD 0 0 + m.getD 1 0 * 2 ^ 8 + m.getD 2 0 * 2 ^ 16

/-- The retired cells a word names. -/
def retiredOf (w : Nat) : List Nat := [bits w 0 7, bits w 8 7, bits w 16 7]

/-- The three cells a DAC retires, from the deviations of its 66 cells in 0.001 LSB: those that deviate most, or, with none
beyond the tolerance, the three in use with the most on-time, which the spec does not let software see (assumption 2). -/
def State.retire (s : State) (dev : List Int) (now : Nat) : List Nat × State :=
  let cells := List.range 66
  let mag := fun c => (dev.getD c 0).natAbs
  if cells.any (fun c => decide (s.a 0x4400 7 < mag c)) then
    (((sortBy (fun c => 2 ^ 64 - mag c) cells).take 3), s)
  else
    let use := cells.filter (fun c => decide (c ∉ retiredOf now))
    let d := s.draw 32
    let a := pick use d.1
    let e := d.2.draw 32
    let b := pick a.2 e.1
    let f := e.2.draw 32
    let c := pick b.2 f.1
    ([a.1, b.1, c.1], f.2)

/-- The spare after a rotation: the oldest calibration is that of the sub-ADC after the spare in the cyclic order. -/
def nextSpare (w : Nat) : Nat := (bits w 0 4 + 1) % 9 + (bits w 4 4 + 1) % 9 * 16

/-- Product and quotient of complex integers; the quotient times 2^14, rounded half to even (R208, R228). -/
def cmul (a b : Int × Int) : Int × Int := (a.1 * b.1 - a.2 * b.2, a.1 * b.2 + a.2 * b.1)
def cdiv14 (a b : Int × Int) : Option (Int × Int) :=
  let d := b.1 * b.1 + b.2 * b.2
  if d = 0 then none
  else
    let p := cmul a (b.1, -b.2)
    some (divHEi (p.1 * 2 ^ 14) d, divHEi (p.2 * 2 ^ 14) d)

/-- CAL_NET of a path. -/
def State.calNet (s : State) (n : Nat) : Int × Int := coefIQ (s.o 0x4403 (n + 1))

/-- A Q2.14 correction below 2.0 in magnitude. -/
def below2 (a : Int × Int) : Bool := decide (a.1 * a.1 + a.2 * a.2 < 2 ^ 30)

/-- The i-th complex number of a list of parts. -/
def cAt (l : List Int) (i : Nat) : Int × Int := (l.getD (2 * i) 0, l.getD (2 * i + 1) 0)

/-- The reference path of the LO domain that feeds a path's receive side: its lowest-numbered enabled path (R228). -/
def State.refPath (s : State) (n : Nat) : Nat :=
  let l := s.rxLo s.time_ (tileOf n)
  (allPaths.find? (fun p => (s.rxOn s.time_ p || s.txOn s.time_ p) && s.rxLo s.time_ (tileOf p) == l)).getD n

/-- One carrier of RECIP (R228), from T_n, T_ref, R_n and R_ref: both corrections. -/
def State.recipCar (s : State) (n ref : Nat) (m : List Int) : Option (List Int) :=
  match cdiv14 (cmul (cAt m 1) (s.calNet n)) (cmul (cAt m 0) (s.calNet ref)),
        cdiv14 (cmul (cAt m 3) (s.calNet n)) (cmul (cAt m 2) (s.calNet ref)) with
  | some a, some b => if below2 a && below2 b then some [a.1, a.2, b.1, b.2] else none
  | _, _ => none

/-- Pieces of eight. -/
def chunks8 : Nat → List Int → List (List Int)
  | 0, _ => []
  | k + 1, l => if l.length < 8 then [] else l.take 8 :: chunks8 k (l.drop 8)

/-- The phase of a complex number in 1/2,048 cycle, to the nearest: the one whose direction it has most of. -/
def argOf (v : Int × Int) : Nat :=
  ((List.range 2048).foldl (fun (b : Nat × Int) k =>
    let e := cis (k * 2 ^ 21)
    let x := v.1 * e.1 + v.2 * e.2
    if b.2 < x then (k, x) else b) (0, 0)).1

/-- RECIP over its carriers; the last value of the result is the phase step, or -1 for a path that is not the reference (R228). DESIGN
CHOICE (assumption 74): R_ref is that of the first carrier measured. The phase of an R_ref of zero is open, and drawn (assumption 2). -/
def State.recip (s : State) (n : Nat) (m : List Int) : Option (List Int) × State :=
  let ref := s.refPath n
  let cs := (chunks8 4 m).map (s.recipCar n ref)
  if cs.any (fun c => c.isNone) then (none, s)
  else
    let r := cAt m 2
    let a := if n ≠ ref ∨ r ≠ (0, 0) then (argOf r, s) else s.draw 11
    let step := if n = ref then ((s.a 0x4401 1 : Int) - a.1) % 2048 else -1
    (some (cs.flatMap (fun c => c.getD []) ++ [step]), a.2)

/-- Judges a measurement against Table 9-5: the result, if it is accepted. The measurement of an assay is: DAC_CELL, the
deviations of 66 cells of I, then of Q, from the median in 0.001 LSB, then the full-scale legs; ADC_SPARE, offset in LSB, gain in
0.01 % and skew in 0.1 ps of I, then of Q; TX_LOL, TX_IQ and RX_IQ, the residual in 0.1 dBc, then the trims it leads to; RECIP, T_n,
T_ref, R_n and R_ref of each carrier; CHF_LOAD, 1 for a load read back equal. -/
def State.judgeAssay (s : State) (n assay : Nat) (m : List Int) : Option (List Int) × State :=
  match assay with
  | 0 =>
    let di := m.take 66
    let dq := (m.drop 66).take 66
    let a := s.retire di (s.o 0x2110 (n + 1))
    let b := a.2.retire dq (s.o 0x2111 (n + 1))
    let ok := fun (l : List Int) (r : List Nat) => (List.range 66).all (fun c => decide (c ∈ r) || decide ((l.getD c 0).natAbs ≤ 2000))
    (if ok di a.1 && ok dq b.1 then some ([(retiredWord a.1 : Int), (retiredWord b.1 : Int)] ++ m.drop 132) else none, b.2)
  | 1 =>
    let ok := fun (l : List Int) => decide ((l.getD 0 0).natAbs ≤ 16) && decide ((l.getD 1 0).natAbs ≤ 300) &&
      decide ((l.getD 2 0).natAbs ≤ 5)
    (if ok m && ok (m.drop 3) then some ((nextSpare (s.o 0x2112 (n + 1)) : Int) :: m) else none, s)
  | 2 => (if m.getD 0 0 ≤ -600 then some (m.drop 1) else none, s)
  | 3 => (if m.getD 0 0 ≤ -500 then some (m.drop 1) else none, s)
  | 4 => (if m.getD 0 0 ≤ -500 then some (m.drop 1) else none, s)
  | 5 => s.recip n m
  | _ => (if m = [1] then some [] else none, s)

/-- A bit of CAL_STALE or CAL_OVERDUE of a path. -/
def State.stale (s : State) (n b : Nat) (v : Bool) : State := s.setBit 0x4410 (n + 1) b v

/-- A result list as a number in the calibration store. -/
def packInts (l : List Int) : Nat := l.foldl (fun v x => v * 2 ^ 64 + ofInt 64 x) 1

/-- The integers of a packed list, last first. -/
def unpackInts : Nat → Nat → List Int
  | 0, _ => []
  | f + 1, v => if v ≤ 1 then [] else toInt 64 (v % 2 ^ 64) :: unpackInts f (v / 2 ^ 64)

/-- A result is in force: the correction, and the objects that show it (R227). -/
def State.useResult (s : State) (r : CalRes) : State :=
  let k := 8 * r.path + r.assay
  let s := s.modCal (fun c => { c with
    corr := c.corr.filter (fun x => x.1 != k) ++ [(k, r.vals)],
    had := smSet 0 c.had r.path (smGet 0 c.had r.path ||| 2 ^ r.assay) })
  if r.assay = 0 then (s.seto 0x2110 (r.path + 1) (r.vals.getD 0 0).toNat).seto 0x2111 (r.path + 1) (r.vals.getD 1 0).toNat
  else if r.assay = 1 then s.seto 0x2112 (r.path + 1) (r.vals.getD 0 0).toNat
  else s

/-- The result that the calibration store holds stands in for one that a path lacks (R218). -/
def State.fromStore (s : State) (n a : Nat) : State :=
  let v := smGet 0 s.cal.store (s.assayKey n a)
  if s.hadAssay n a ∨ v = 0 then s else s.useResult ⟨n, a, (unpackInts 8192 v).reverse⟩

/-- FCONV has changed: each converter takes its corrections for the new one from the calibration store (R184). DESIGN CHOICE (assumption
74): a converter for which the store holds none keeps those it has. -/
def State.loadConv (s : State) : State :=
  allPaths.foldl (fun s n => [0, 1].foldl (fun s a =>
    let v := smGet 0 s.cal.store (s.assayKey n a)
    if v = 0 then s else s.useResult ⟨n, a, (unpackInts 8192 v).reverse⟩) s) s

/-- The LO phase step of the reference path's RECIP: issued by the device, then LO_STATUS[4] is set; the slip of A1-04, if there was one,
is corrected with it (R182, R228, R484). -/
def State.refStep (s : State) (n : Nat) (step : Int) : State :=
  if step < 0 then s
  else
    let l := s.rxLo s.time_ (tileOf n)
    let x := (s.devStep l (signedStep step)).modLo l (fun q => { q with slip := false })
    if x.loReady l then x.setLo l true false false true else x

/-- An accepted result: in force, its age, the store (R227, R230). -/
def State.applyResult (s : State) (r : CalRes) : State :=
  let k := 8 * r.path + r.assay
  let s := (s.useResult r).modCal (fun c => { c with
    resAt := smInsert c.resAt k (s.now + 1),
    storeQ := c.storeQ ++ [(s.assayKey r.path r.assay, packInts r.vals)] })
  let s := s.setBit 0x4411 (r.path + 1) r.assay false
  let s := if s.o 0x4411 (r.path + 1) = 0 then
      { (s.clearAl Al.calOverdue r.path).clearAl Al.benchStarved r.path with
        cal := { s.cal with starved := s.cal.starved.filter (fun n => n != r.path), overSince := smErase s.cal.overSince r.path } } else s
  if r.assay = 5 then s.refStep r.path (r.vals.getD (r.vals.length - 1) (-1))
  else if r.assay = 6 then
    ((s.chfDrop 0 (fun x => x.path == r.path)).chfDrop 1 (fun x => x.path == r.path)).stale r.path 6 false
  else s

/-- CHF_PENDING and UL_CHF_PENDING follow the paths that hold old coefficients (R101, R113). -/
def State.chfCount (s : State) : State :=
  let n := (allPaths.filter (fun p => s.dl.chfOld.any (fun x => x.path == p))).length
  let m := (allPaths.filter (fun p => s.ul.chfOld.any (fun x => x.path == p))).length
  let s := (s.seto 0x3030 9 n).seto 0x3034 9 m
  let s := if n = 0 then { s.clearAl Al.chfPending 0 with dl := { s.dl with chfSince := none } }
    else if s.dl.chfSince.isNone then { s with dl := { s.dl with chfSince := some s.now } } else s
  if m = 0 then { s.clearAl Al.ulChfPending 0 with ul := { s.ul with chfSince := none } }
  else if s.ul.chfSince.isNone then { s with ul := { s.ul with chfSince := some s.now } } else s

/-- A rejected result (R227): the old correction holds, its stale bit stands, the alarm is raised once per rotation. -/
def State.rejectResult (s : State) (n assay : Nat) : State :=
  let s := (s.bump 0x4420 4 1).stale n assay true
  if n ∈ s.cal.alarmed then s
  else (s.modCal (fun c => { c with alarmed := c.alarmed ++ [n] })).raise Al.calReject n

/-! ### Parking (R218) -/

/-- A path is enabled for transmit or receive, and not shed. -/
def State.pathOn (s : State) (n : Nat) : Bool := s.txOn s.time_ n || s.rxOn s.time_ n

/-- An enabled path that lacks one of the assays takes it from the store, and is parked if the store has none. -/
def State.parkIf (s : State) (n : Nat) (need : List Nat) : State :=
  let s := if s.pathOn n then need.foldl (fun s a => s.fromStore n a) s else s
  if n ∉ s.cal.parked ∧ s.pathOn n ∧ need.any (fun a => !s.hadAssay n a) then
    ((s.modCal (fun c => { c with parked := sortBy (fun x => x) (c.parked ++ [n]) })).bump 0x4420 7 1).stale n 8 true
  else s

/-- Every assay of a path has been accepted. -/
def State.allHad (s : State) (n : Nat) : Bool := [0, 1, 2, 3, 4, 5].all (s.hadAssay n)

/-- Leaves parking when every assay has been accepted. -/
def State.unpark (s : State) (n : Nat) : State :=
  if n ∈ s.cal.parked ∧ s.allHad n then
    (s.modCal (fun c => { c with parked := c.parked.filter (fun x => x != n) })).stale n 8 false
  else s

/-! ### REXT and the element selections (R214, R215) -/

/-- Keys of the calibration store beside assay results and objects: the last good REXT deviation, the daily records of a path and its
first ones, and the sum behind TJ_MEAN. -/
def rextKey : Nat := 0x3000000
def daysKey (n : Nat) : Nat := 0x4000000 + n
def firstKey (n : Nat) : Nat := 0x4100000 + n
def tjKey : Nat := 0x4200000

/-- REXT_MEASURE with the deviation from nominal in 0.01 % (R215). -/
def State.rext (s : State) (dev : Int) : State :=
  let s := (s.setoi 0x4400 0x0C dev).modCal (fun c => { c with rextAt := s.now })
  if dev.natAbs ≤ 200 then
    ((s.seto 0x4400 0x0B 1).modCal (fun c => { c with trim := some dev, storeQ := c.storeQ ++ [(rextKey, packInts [dev])] })).clearAl
      Al.rextFault 0
  else (s.seto 0x4400 0x0B 2).raise Al.rextFault 0

/-- Step 1 of start-up calibration: every element of Table 9-1 but those of the lanes is selected (Table 9-2). -/
def State.selectAll (s : State) : State :=
  let s := allPaths.foldl (fun s n => (s.select 1 n).select 3 n) s
  let s := (List.range 32).foldl (fun s x => s.select 2 x) s
  ((List.range 8).foldl (fun s x => s.select 4 x) s).select 5 0

/-! ### Start-up calibration (R216 to R218) -/

/-- Cost of the calibration engine, and of the assay circuits of n paths (Table 9-3). -/
def benchCost (n : Nat) : List Nat := costAdd (costOn rCore 3) (costAdd (costOn rConv n) (costOn rRf n))

/-- Phase B may begin: time is locked, the radio schedule has a symbol that is not OFF, a carrier is enabled (R216). -/
def State.phaseBReady (s : State) : Bool :=
  s.timeLocked && decide (s.a 0x2020 4 ≠ 0) && s.anyCar s.time_

/-- The step of Table 9-2 in turn begins if its credit is granted and, in phase B, the conditions hold; a device woken
from Dormant runs steps 1, 2 and 6 only (R400). -/
def State.stepBegin (s : State) : State :=
  if s.cal.step = 0 ∨ 8 < s.cal.step ∨ s.cal.stepAt.isSome then s
  else if 7 ≤ s.cal.step ∧ ¬ s.phaseBReady then s
  else
    let r := s.ask .bench 0 (costOn rCore 3) Dom.cp
    if r.1 then r.2.modCal (fun c => { c with stepAt := some s.now }) else r.2

/-- The assays of a step: path results of Table 9-2. -/
def stepAssays (k : Nat) : List Nat :=
  if k = 3 then [0] else if k = 4 then [1] else if k = 5 then [4] else if k = 7 then [2, 3] else if k = 8 then [5] else []

/-- The paths a step covers: all in phase A, the enabled ones in phase B. -/
def State.stepPaths (s : State) (k : Nat) : List Nat := if k < 7 then allPaths else allPaths.filter s.pathOn

/-- One start-up result: accepted and in force at once, or rejected (R216, R218). -/
def State.startResult (s : State) (n assay : Nat) (m : List Int) : State :=
  let j := s.judgeAssay n assay m
  match j.1 with
  | some v => j.2.applyResult ⟨n, assay, v⟩
  | none => j.2.rejectResult n assay

/-- Moves on to the next step; after the last, the bench may begin. -/
def State.stepNext (s : State) (brief : Bool) : State :=
  let k := if brief then (if s.cal.step = 1 then 2 else if s.cal.step = 2 then 6 else 9) else s.cal.step + 1
  let s := (s.release .bench 0).modCal (fun c => { c with step := k, stepAt := none })
  if k = 9 then ((s.seto 0x4400 0x0D (s.cal.spent / tMs)).modCal (fun c => { c with last := none })).wakeSettled else s.stepBegin

/-- START_CAL_STEP_DONE with the measurements of the step: path, assay, values. -/
def State.stepDone (s : State) (meas : List (Nat × Nat × List Int)) : State :=
  match s.cal.stepAt with
  | none => s.stepBegin
  | some t0 =>
    let k := s.cal.step
    let use := meas.filter (fun x => decide (x.2.1 ∈ stepAssays k) && decide (x.1 ∈ s.stepPaths k))
    let s := use.foldl (fun s x => s.startResult x.1 x.2.1 x.2.2) (if k = 1 then s.selectAll else s)
    let before := s.cal.parked.length
    let s := if stepAssays k = [] then s else (s.stepPaths k).foldl (fun s n => s.parkIf n (stepAssays k)) s
    let s := if before < s.cal.parked.length ∧ ¬ s.raised Al.calStartFail 0 then s.raise Al.calStartFail 0 else s
    (s.modCal (fun c => { c with spent := c.spent + (s.now - t0) })).stepNext s.power.brief

/-! ### The planner (R219 to R222) -/

/-- Groups of the rotation. -/
def State.groups (s : State) : Nat := 96 / max (s.a 0x4400 2) 1
/-- The enabled paths of a group. -/
def State.groupPaths (s : State) (g : Nat) : List Nat :=
  ((List.range (s.a 0x4400 2)).map (fun j => g + j * s.groups)).filter (fun n => decide (n < 96) && s.pathOn n)

/-- The first group from g on that holds an enabled path. -/
def State.nextGroup (s : State) (g : Nat) : Option Nat :=
  ((List.range s.groups).map (fun i => (g + i) % s.groups)).find? (fun g => s.groupPaths g != [])

/-- Numerology of bench slots, their number and their duration (R220). -/
def State.benchScs (s : State) : Nat := if s.any15 s.time_ 2 then 0 else 1
def State.benchDur (s : State) : Nat :=
  let d := slotDur s.benchScs
  ceilDiv (s.a 0x4400 3 * tUs) d * d

/-- Interval of bench slots of the device band (R220). -/
def State.benchInterval (s : State) : Int := ((s.a 0x4402 (s.o 0x7103 1 + 1) * tMs : Nat) : Int)

/-- The pattern symbols of a window, with two slots before it: start, duration, code (4 in a nap slot). -/
def State.winSyms (s : State) (B : Int) (L : Nat) : List (Int × Nat × Nat) :=
  let scs := s.at_ B 0x2020 2
  let n0 := s.slotOf scs B
  (List.range (L / slotDur scs + 4)).flatMap (fun (i : Nat) =>
    let n := n0 - 2 + (i : Int)
    let nap := s.napAt B n
    (List.range 14).map (fun k => (s.tAir scs n k, symSamples scs k * tSample, if nap then 4 else s.patCode B n k)))

/-- The longest run of injection symbols in a window, each run after TX shorter by the 2.0 µs of Table 6-5. -/
def injRun : Nat → Nat → List (Bool × Nat) → Nat
  | best, cur, [] => max best cur
  | best, cur, (b, d) :: l => if b then injRun best (if cur = 0 then d - 2 * tUs else cur + d) l else injRun (max best cur) 0 l

/-- The LO domain of every tile side of a group feeds an enabled transmit path, so that it transmits (R220). -/
def State.sidesTx (s : State) (B : Int) (paths : List Nat) : Bool :=
  paths.all (fun n => (List.range 12).any (fun k => s.txLo B k == s.txLo B (tileOf n) && s.tileTx B k))

/-- A bench window that starts at B is eligible for a group's paths (R220): it meets no nap slot (R403), and holds the TX symbols and the
run of injection symbols, by the pattern and the configuration in force for the window. -/
def State.eligible (s : State) (B : Int) (paths : List Nat) : Bool :=
  let L := s.benchDur
  let syms := s.winSyms B L
  let all := syms.zip (markOff false (syms.map (fun x => x.2.2)))
  let win := all.filter (fun x => decide (B ≤ x.1.1) && decide (x.1.1 < B + (L : Int)))
  let dl := (List.range 4).any (fun c => s.carActive B 0 c)
  let tx := if dl && s.sidesTx B paths then listSum ((win.filter (fun x => txCode x.1.2.2)).map (fun x => x.1.2.1)) else 0
  let off := s.offMode B
  win.all (fun x => x.1.2.2 != 4) && decide (310 * tUs ≤ tx) &&
    decide (65 * tUs ≤ injRun 0 0 (win.map (fun x => (if off then x.2 else rxCode x.1.2.2, if off then x.1.2.1 else x.1.2.1 + (2 * tUs)))))

/-- The boundary the planner takes from B0 on: the first eligible of 40 whose window holds no accepted reconfiguration, else the first of
those (R20, R22, R220). -/
def State.chooseStart (s : State) (B0 : Int) (paths : List Nat) : Int :=
  let d : Int := (slotDur s.benchScs : Int)
  let L : Int := (s.benchDur : Int)
  let ok := fun (B : Int) => !(s.reconfs.any (fun a => decide (B ≤ a) && decide (a < B + L)))
  let cand := (List.range 40).map (fun (i : Nat) => B0 + (i : Int) * d)
  match cand.find? (fun B => ok B && s.eligible B paths) with
  | some B => B
  | none => (cand.find? ok).getD B0

/-- BENCH_STATE. -/
def State.benchState (s : State) (v : Nat) : State := s.seto 0x4400 9 v

/-- A bench slot is planned from boundary T1 on. -/
def State.planAt (s : State) (T1 : Int) (kind : BenchKind) (g : Nat) (ps : List Nat) : State :=
  let B := s.chooseStart T1 ps
  s.modCal (fun c => { c with bench := some ⟨g, ps, B, B + (s.benchDur : Int), false, kind, false⟩ })

/-- Plans the next bench slot, at a boundary that T1 follows: a demand at once; when the interval is over, a group that goes ahead of
the rotation, parked paths, or the rotation's next group (R218 to R220, R231). -/
def State.benchPlan (s : State) (T1 : Int) : State :=
  match s.cal.demand with
  | p :: l =>
    let g := p % s.groups
    if s.pathOn p then s.planAt T1 .demand g (s.groupPaths g) else s.modCal (fun c => { c with demand := l })
  | [] =>
    if T1 < s.cal.last.getD T1 + s.benchInterval then s
    else
      match s.cal.displaced.find? (fun g => decide (s.groupPaths g ≠ [])) with
      | some g => s.planAt T1 .displaced g (s.groupPaths g)
      | none =>
        let park := (s.cal.parked.filter s.pathOn).take (s.a 0x4400 2)
        if park ≠ [] then s.planAt T1 .parked 255 park
        else match s.nextGroup (s.o 0x4400 0x0A) with
          | some g => s.planAt T1 .rotation g (s.groupPaths g)
          | none => s.benchState 0

/-- A planned bench slot is given up: its credit is released. -/
def State.unplan (s : State) : State := (s.release .bench 1).modCal (fun c => { c with bench := none })

/-- A bench slot that is not used (R221): it counts, the next is counted from it, and its group stays next in line. -/
def State.benchSkip (s : State) (refused : Bool) : State :=
  match s.cal.bench with
  | some b =>
    let s := (s.bump 0x4420 2 1).bump 0x4420 3 (b2n refused)
    (s.unplan.modCal (fun c => { c with
      last := some b.start, demand := if b.kind = .demand then c.demand.drop 1 else c.demand,
      displaced := if b.kind = .demand then b.group :: c.displaced else c.displaced })).benchState (if s.a 0x4400 1 = 0 then 3 else 0)
  | none => s

/-- A planned bench slot whose window would hold an accepted reconfiguration moves behind it (R22). -/
def State.benchMove (s : State) (b : Bench) : State :=
  let B := s.chooseStart b.start b.paths
  (s.release .bench 1).modCal (fun c => { c with bench := some { b with start := B, end_ := B + (b.end_ - b.start) } })

/-- The rotation's next group is the one after g; at the wrap CAL_REJECT may be raised again for every path (R219, R227). -/
def State.rotate (s : State) (g : Nat) : State :=
  let n := (g + 1) % s.groups
  let s := s.seto 0x4400 0x0A n
  if n = 0 ∨ (s.nextGroup n).any (fun h => decide (h ≤ g)) = true then s.modCal (fun c => { c with alarmed := [] }) else s

/-- What the use of a slot does to the order of the groups: the rotation moves on with its own group; parked paths displace it to the
following slot; a group that went ahead has had its turn (R218, R219, R231). -/
def State.benchOrder (s : State) (b : Bench) : State :=
  let next := s.nextGroup (s.o 0x4400 0x0A)
  match b.kind with
  | .demand => s.modCal (fun c => { c with demand := c.demand.drop 1 })
  | .rotation => s.rotate b.group
  | .displaced =>
    let s := s.modCal (fun c => { c with displaced := c.displaced.filter (fun g => g != b.group) })
    if next = some b.group then s.rotate b.group else s
  | .parked => s.modCal (fun c => { c with displaced := c.displaced ++ (match next with | some g => [g] | none => []) })

/-- The bench begins (R223). -/
def State.benchStart (s : State) (b : Bench) : State :=
  let s := (s.bump 0x4420 1 1).benchOrder b
  let s := b.paths.foldl (fun s n => s.stale n 7 true) s
  let s := (b.paths.filter (fun n => decide (s.pin .driver n = 1))).foldl (fun s n => s.benchSilence (b.start - s.txBoard) n) s
  let s := s.setLock 8 ⟨ownCal, some (s.now + (b.end_ - b.start).toNat + tMs)⟩
  (s.modCal (fun c => { c with bench := some { b with running := true }, last := some b.start, prog := [], progAt := [],
                               recipOut := [] })).benchState 2

/-- A planned bench slot has come: it begins if its set is fixed or nothing stands against it, moves behind an accepted reconfiguration,
or is not used (R20 to R22, R221). -/
def State.benchBegin (s : State) (b : Bench) : State :=
  if b.fixed then s.benchStart b
  else if s.a 0x4400 1 = 0 ∨ s.cpLost = true ∨ s.cal.reconfAt = some b.start ∨ b.start ∈ s.reconfs ∨ s.granted .bench 1 = false ∨
      s.cal.sets.any (fun x => decide (x.1 = b.start)) = true then s.benchSkip false
  else if s.reconfs.any (fun a => decide (b.start < a) && decide (a < b.end_)) then s.benchMove b
  else s.benchStart b

/-- The assays of a benched path that its bench slot did not hold (Table 9-6): those of the sides it is enabled for, RECIP once.
DESIGN CHOICE (assumption 74): the assays of a side that is not enabled are not due. -/
def State.unrun (s : State) (n : Nat) : Nat :=
  let T := s.time_
  let i := smGet 0 s.cal.prog (2 * n)
  let j := smGet 0 s.cal.prog (2 * n + 1)
  (if s.txOn T n then 3 - min i 3 else 0) + (if s.rxOn T n then 2 - min j 2 else 0) +
  (if s.txOn T n ∧ s.rxOn T n ∧ n ∉ s.cal.recipOut ∧ (i ≤ 3 ∨ j ≤ 2) then 1 else 0) + (if i ≤ 4 then 1 else 0)

/-- The path returns (R87, R113, R223, R227): accepted results are applied, with the elements selected for REXT, and the filters are
suppressed. After the loss of the control processor it returns with its old corrections, and every result is discarded (Table 9-6). -/
def State.benchReturn (s : State) (n : Nat) : State :=
  let s := (s.select 1 n).select 3 n
  let mine := s.cal.ready.filter (fun r => r.path == n)
  let s := s.modCal (fun c => { c with ready := c.ready.filter (fun r => r.path != n) })
  let lost := (s.cal.made.filter (fun m => m.1 == n && m.2.1 < 7)).length
  let s := if s.cpLost then
      { s.bump 0x4420 5 (lost + mine.length) with cal := { s.cal with made := s.cal.made.filter (fun m => m.1 != n) } }
    else mine.foldl State.applyResult s
  let late := s.unrun n
  let s := (s.bump 0x4420 6 late).modCal (fun c => { c with
    made := c.made.filter (fun m => !(m.1 == n && 7 ≤ m.2.1)),
    retAt := if late = 0 ∧ n ∉ c.recipOut then smInsert c.retAt n (s.now + 1) else c.retAt })
  let s := (s.stale n 7 false).unpark n
  let s := if s.txOn s.time_ n then s.suppress 0 n 255 (s.spanPath 0) else s
  if s.rxOn s.time_ n then s.suppress 1 n 255 (s.spanPath 1) else s

/-- The bench slot ends. -/
def State.benchEnd (s : State) (b : Bench) : State :=
  let s := { s with cal := { s.cal with bench := none } }
  let s := b.paths.foldl State.benchReturn s
  ((((s.release .bench 1).setLock 8 lockFree).modCal (fun c => { c with prog := [], progAt := [], recipOut := [] })).chfCount).benchState
    (if s.a 0x4400 1 = 0 then 3 else 0)

/-- A planned bench slot before its start, at a boundary that T1 follows: it moves behind an accepted reconfiguration, or asks for its
credit at the first boundary of the slot before it (R22, R222). -/
def State.benchAsk (s : State) (b : Bench) (T1 : Int) : State :=
  if s.reconfs.any (fun a => decide (b.start < a) && decide (a < b.end_)) then s.benchMove b
  else if b.start ≠ T1 ∨ s.granted .bench 1 = true ∨ s.a 0x4400 1 = 0 ∨ s.cpLost = true then s
  else
    let r := s.ask .bench 1 (benchCost b.paths.length) Dom.cp
    if r.1 then r.2.benchState 1 else r.2.benchSkip true

/-- A demand takes the place of a slot that is planned for something else and has no credit yet (R231). -/
def State.benchYield (s : State) : State :=
  match s.cal.bench with
  | some b => if b.running || b.fixed || b.kind = .demand || s.cal.demand = [] || s.granted .bench 1 then s else s.unplan
  | none => s

/-- The planner at a boundary that T1 follows. -/
def State.planner (s : State) (T1 : Int) : State :=
  let s := s.benchYield
  let s := if s.cal.bench.isNone then s.benchPlan T1 else s
  match s.cal.bench with
  | some b => if b.running then s else s.benchAsk b T1
  | none => s

/-- What a slot boundary of the bench numerology does here. -/
def State.benchBoundary (s : State) (T : Int) : State :=
  let s := match s.cal.bench with
    | some b => if b.running && decide (b.end_ ≤ T) then s.benchEnd b else s
    | none => s
  let s := match s.cal.bench with
    | some b => if !b.running && decide (b.start ≤ T) then s.benchBegin b else s
    | none => s
  let s := s.fixSet T
  if s.cal.step ≠ 9 then s.stepBegin
  else
    let s := if s.cal.last.isNone then s.modCal (fun c => { c with last := some T }) else s
    s.planner (T + (slotDur s.benchScs : Int))

/-! ### Assays (R224, R229) -/

/-- The assays of a chain in order: 0 TX, 1 RX. -/
def chain (k : Nat) : List Nat := if k = 0 then [0, 2, 3, 5, 6] else [1, 4, 5, 6]

/-- A benched path's assays lose their LO, or the path has been stopped (Table 9-6). -/
def State.assayHurt (s : State) (n k : Nat) : Bool :=
  if k = 0 then !s.loReady (s.txLo s.time_ (tileOf n)) || bit (s.block n) 0 || bit (s.block n) 3
  else !s.loReady (s.rxLo s.time_ (tileOf n))

/-- A measurement goes to a DSP core that serves assays; with none free or granted it waits (R210). -/
def State.toCore (s : State) (n assay : Nat) : State :=
  match (List.range 24).find? (fun c => decide (s.a 0x4000 5 ≤ c) && !s.granted .dcCore c) with
  | some c =>
    let r := if s.domOn Dom.dc then s.coreStart c else (false, s)
    r.2.modCal (fun q => { q with made := q.made ++ [(n, assay, if r.1 then some c else none)] })
  | none => s.modCal (fun q => { q with made := q.made ++ [(n, assay, none)] })

/-- The span of a benched path's transmit assays begins or ends when the assay in progress on its TX chain changes (R223).
The first stimulus sample leaves at an instant that the spec does not state (assumption 2), not before the edges of
Table 6-4 have run. -/
def State.assaySpan (s : State) (n : Nat) : State :=
  if s.txAssay n then
    if s.pathSilent n && s.mayTx s.time_ n && bit s.rf.txRun (tileOf n) then
      let d := s.draw 14
      let O := s.time_ + ns (3000 + (d.1 : Int))
      (d.2.edge (O - ns 3000 + s.skew 0x2004 (n + 1)) .txon n 1).edge (O - ns 500) .driver n 1
    else s
  else if s.pin .driver n = 1 then s.benchSilence s.time_ n
  else s

/-- Engine time of an assay of a chain, by its place (Table 9-4), in µs. -/
def assayTime (k i : Nat) : Nat := (if k = 0 then [240, 100, 150, 60, 20] else [200, 150, 60, 20]).getD i 0

/-- The observation receiver's grant that an assay needs: it is the engine's, with the path's code, or with that of the sense port for
RECIP, and the capture runs (Table 9-4). -/
def State.assayOrx (s : State) (n i : Nat) : Bool :=
  let x := oxOf n
  s.holder x == 12 && (s.ox x).settled.isSome && (s.ox x).sel == (if i = 3 then 12 else n % 12)

/-- The assay in progress on a chain has had its engine time in symbols of its kind, under the grant it needs (R224, Table 9-4). -/
def State.assayRan (s : State) (b : Bench) (n k i : Nat) : Bool :=
  let T1 := s.time_
  let T0 := T1 - ((assayTime k i * tUs : Nat) : Int)
  let start := match smGet 0 s.cal.progAt (2 * n + k) with
    | 0 => b.start
    | v + 1 => (v : Int) + s.timeBase
  let last := i + 1 = (chain k).length
  let kind :=
    if last then decide (b.end_ - ((symSamples s.benchScs 13 * tSample : Nat) : Int) ≤ T0) && decide (T1 ≤ b.end_)
    else if k = 0 then i == 0 || (s.allSyms (fun T => txCode (s.codeAt T)) 20 (T0 + s.txBoard) (T1 + s.txBoard) && s.assayOrx n i)
    else s.allSyms (fun T => s.injAt (T + s.rxBoard) n == (i == 2)) 20 (T0 - s.rxBoard) (T1 - s.rxBoard)
  decide (start ≤ T0) && kind

/-- RECIP of a benched path is not made in this bench slot; it counts once (Table 9-6): 5 discarded, 6 deferred. -/
def State.recipLost (s : State) (n why : Nat) : State :=
  if n ∈ s.cal.recipOut then s
  else (s.bump 0x4420 why 1).modCal (fun c => { c with
    recipOut := c.recipOut ++ [n], made := c.made.filter (fun m => !(m.1 == n && 7 ≤ m.2.1)) })

/-- The next assay of a chain starts. -/
def State.assayNext (s : State) (n k i : Nat) : State :=
  let s := s.modCal (fun c => { c with prog := smSet 0 c.prog (2 * n + k) (i + 1), progAt := smSet 0 c.progAt (2 * n + k) (s.now + 1) })
  if k = 0 then s.assaySpan n else s

/-- A half of RECIP is made: with the other half it goes to a core. -/
def State.recipHalf (s : State) (n k : Nat) : State :=
  if s.cal.made.any (fun m => m.1 == n && m.2.1 == 8 - k) then
    (s.modCal (fun c => { c with made := c.made.filter (fun m => !(m.1 == n && m.2.1 == 8 - k)) })).toCore n 5
  else s.modCal (fun c => { c with made := c.made ++ [(n, 7 + k, none)] })

/-- ASSAY_DONE: the assay in progress on a chain (0 TX, 1 RX) of a benched path ends, and the next starts: discarded when its LO is not
ready or the path has been stopped, deferred when it is RECIP without its grant (Table 9-6). -/
def State.assayDone (s : State) (n k : Nat) : State :=
  match s.cal.bench with
  | none => s
  | some b =>
    let i := smGet 0 s.cal.prog (2 * n + k)
    match (chain k)[i]? with
    | none => s
    | some a =>
      if !b.running || decide (n ∉ b.paths) || decide (2 ≤ k) then s
      else if a = 5 ∧ n ∈ s.cal.recipOut then s.assayNext n k i
      else if a ≠ 6 ∧ s.assayHurt n k = true then
        if a = 5 then (s.assayNext n k i).recipLost n 5 else (s.assayNext n k i).bump 0x4420 5 1
      else if a = 5 ∧ ¬ (s.rf.cx.use = 1 ∧ s.rf.cx.inUse = true ∧ (k = 0 ∨ s.granted .inj 0 = true)) then
        (s.assayNext n k i).recipLost n 6
      else if !s.assayRan b n k i then s
      else
        let s := s.assayNext n k i
        if a = 6 then (if k = 0 then s.toCore n 6 else s)
        else if a = 5 then s.recipHalf n k
        else s.toCore n a

/-- ASSAY_RESULT_READY: a DSP core has finished an assay of a path. -/
def State.assayResult (s : State) (n assay : Nat) (m : List Int) : State :=
  match s.cal.made.find? (fun x => x.1 == n && x.2.1 == assay && decide (assay < 7)) with
  | none => s
  | some x =>
    let again := ((s.modCal (fun c => { c with made := c.made.filter (fun y => decide (y ≠ x)) })).toCore n assay)
    let r := match x.2.2 with
      | some _ => (true, s)
      | none => (again.cal.made.any (fun y => y.1 == n && y.2.1 == assay && y.2.2.isSome), again)
    let s := r.2
    if !r.1 ∨ s.cpLost = true then s
    else
      let c := (s.cal.made.find? (fun y => y.1 == n && y.2.1 == assay)).bind (fun y => y.2.2)
      let s := match c with | some c => s.coreStop c | none => s
      let s := s.modCal (fun q => { q with made := q.made.filter (fun y => !(y.1 == n && y.2.1 == assay)) })
      let j := s.judgeAssay n assay m
      match j.1 with
      | some v =>
        (j.2.modCal (fun q => { q with ready := q.ready.filter (fun r => !(r.path == n && r.assay == assay)) ++ [⟨n, assay, v⟩] })).stale
          n assay false
      | none => j.2.rejectResult n assay

/-- The chain an assay belongs to: 0 TX, 1 RX, 2 both; 7 and 8 are the halves of RECIP. -/
def assaySide (a : Nat) : Nat := if a ∈ [0, 2, 3, 7] then 0 else if a ∈ [1, 4, 8] then 1 else 2

/-- A spare handover inside a bench slot: completed assays of benched paths on the moving tile sides are discarded and
deferred (R221). -/
def State.assayMoved (s : State) (x : Nat) : State :=
  match s.cal.bench with
  | some b =>
    if !b.running then s
    else
      let hit := fun (n a : Nat) => decide (n ∈ b.paths) && ((assaySide a != 1 && s.txLo s.time_ (tileOf n) == x) ||
        (assaySide a != 0 && s.rxLo s.time_ (tileOf n) == x))
      let k := (s.cal.ready.filter (fun r => hit r.path r.assay)).length + (s.cal.made.filter (fun m => hit m.1 m.2.1)).length
      let cores := (s.cal.made.filter (fun m => hit m.1 m.2.1)).filterMap (fun m => m.2.2)
      let s := ((s.bump 0x4420 5 k).bump 0x4420 6 k).modCal (fun c => { c with
        ready := c.ready.filter (fun r => !hit r.path r.assay), made := c.made.filter (fun m => !hit m.1 m.2.1) })
      cores.foldl State.coreStop s
  | none => s

/-- CAL_STORE_WRITE: the oldest write that is due reaches the store. -/
def State.storeWrite (s : State) : State :=
  match s.cal.storeQ with
  | (k, v) :: l => s.modCal (fun c => { c with storeQ := l, store := smSet 0 c.store k v })
  | [] => s

/-- CAL_BENCH_NOW (R231). -/
def State.benchNow (s : State) (v : Nat) : Nat × State :=
  if s.a 0x4400 1 = 0 then (St.benchOff, s)
  else if 95 < v ∨ ¬ s.pathOn v then (St.badPath, s)
  else acts (s.modCal (fun c => { c with demand := c.demand ++ [v] }))

/-- CAL_OVERDUE_EXPIRY of a path (R230). -/
def State.calOverdue (s : State) (n : Nat) : State :=
  let age := s.a 0x4400 6 * tSec
  let old := [0, 1, 2, 3, 4, 5].filter (fun a => let r := smGet 0 s.cal.resAt (8 * n + a); decide (r ≠ 0) && decide (r - 1 + age < s.now))
  let was := s.o 0x4411 (n + 1)
  let s := old.foldl (fun s a => s.setBit 0x4411 (n + 1) a true) s
  let s := if was = 0 ∧ old ≠ [] then
      (s.modCal (fun c => { c with overSince := smInsert c.overSince n (s.now + 1) })).raise Al.calOverdue n else s
  if was ≠ 0 ∧ n ∉ s.cal.starved ∧ smGet 0 s.cal.overSince n - 1 + 4 * age ≤ s.now then
    (s.modCal (fun c => { c with starved := c.starved ++ [n] })).raise Al.benchStarved n
  else s

/-! ### Ageing (R233 to R237) -/

/-- The domains of an ageing monitor (R233). -/
def monDoms (m : Nat) : List Nat :=
  if m < 24 then [m / 2] else if m < 30 then [Dom.bf] else if m < 32 then [Dom.dp] else if m = 32 then [Dom.cp]
  else if m = 33 then [Dom.dc] else if m = 34 then [Dom.lu] else [Dom.ld1, Dom.ld2]

/-- Mean of a list, to nearest. -/
def meanHE (l : List Int) : Int := if l = [] then 0 else divHEi (l.foldl (· + ·) 0) l.length

/-- One monitor counted over 1 ms: protected and stressed counts. -/
def State.ageOne (s : State) (m fp fs : Nat) : State :=
  if fp = 0 ∨ ¬ (monDoms m).all s.domOn then s
  else
    let d := divHEi (((fp : Int) - (fs : Int)) * 1000000) fp
    let s := s.modCal (fun c => { c with ageHist := amod 36 [] c.ageHist m (fun l => (l ++ [d]).drop (l.length + 1 - 16)) })
    s.setoi 0x4801 (m + 1) (meanHE (smGet [] s.cal.ageHist m))

/-- Age tier of a port's lanes (R276). -/
def State.ageTier (s : State) (p : Nat) : Nat :=
  let d := s.oi 0x4801 (if p = 0 then 35 else 36)
  if d < 10000 then 0 else if d < 20000 then 1 else if d < 30000 then 2 else 3

/-- AGE_MEASURE with both counts of each monitor; a change of a port's age tier clears its lanes' demotions (R277). -/
def State.ageMeasure (s : State) (c : List (Nat × Nat)) : State :=
  let s0 := s
  let s := (List.range 36).foldl (fun s m => let x := c.getD m (0, 0); s.ageOne m x.1 x.2) s
  let s := [0, 1, 2].foldl (fun s p => if s.ageTier p = s0.ageTier p then s else s.zeroRange 0x6107 (8 * p + 1) 8) s
  let ds := (List.range 36).map (fun m => (s.oi 0x4801 (m + 1), m))
  let w := ds.foldl (fun (a : Int × Nat) d => if a.1 < d.1 then d else a) (s.oi 0x4801 1, 0)
  (s.seto 0x4800 4 w.1.toNat).seto 0x4800 5 w.2

/-- The model of R236: t_end ≥ t + y / 10 years, compared exactly. -/
def lastsTo (h w e y : Nat) : Bool := decide (w ^ 1000 * (10 * h + 8766 * y) ^ e ≤ 44000 ^ 1000 * (10 * h) ^ e)

/-- The largest y below 2^bits for which the margin lasts. -/
def lastsSearch (h w e : Nat) : Nat → Nat → Nat
  | 0, y => y
  | b + 1, y => lastsSearch h w e b (if lastsTo h w e (y + 2 ^ b) then y + 2 ^ b else y)

/-- AGE_YEARS_LEFT (R236). -/
def yearsLeft (h w e : Nat) : Nat :=
  if h < 720 then 0xFFFF else if w = 0 then 9999 else min 9999 (lastsSearch h w e 14 0)

/-- AGE_HOURLY: an hour with VDD_CORE good. TJ_MEAN takes one sample an hour, the mean of the sensors (assumption 13). Values go to the
store one up, since it lists no zero. -/
def State.ageHourly (s : State) : State :=
  let s := s.bump 0x4800 7 1
  let ts := ((List.range 30).filter (fun k => !bit (s.o 0x7101 1) k)).map (fun k => s.oi 0x7100 (k + 1)) |>.filter (fun x => decide (x ≠ -32768))
  let s := if ts = [] then s else s.modCal (fun c => { c with tjSum := c.tjSum + meanHE ts, tjN := c.tjN + 1 })
  let s := if s.cal.tjN = 0 then s else s.setoi 0x4800 8 (divHEi s.cal.tjSum s.cal.tjN)
  let s := s.seto 0x4800 6 (yearsLeft (s.o 0x4800 7) (s.o 0x4800 4) (s.a 0x4800 9))
  let keys := [4, 5, 6, 7, 8].map (key 0x4800) ++ (List.range 36).map (fun m => key 0x4801 (m + 1))
  let tj := [(tjKey, packInts [s.cal.tjSum, (s.cal.tjN : Int)])]
  let offs := (List.range 30).map (fun i => (0x2000000 + i, 2 ^ 64 + ofInt 64 (smGet Sensor.init s.hk.sens i).off))
  s.modCal (fun c => { c with storeQ := c.storeQ ++ keys.map (fun k => (k, s.o (k / 256) (k % 256) + 1)) ++ tj ++ offs })

/-- The AVS code of R234 before its ceiling. -/
def avsWant (worst : Nat) : Nat := ceilDiv (worst - 8000) 2000

/-- AVS_STEP: one step of the code after its credit, judged at the new factor (R234, R385). -/
def State.avsStep (s : State) : State :=
  let want := avsWant (s.o 0x4800 4)
  let s := s.alarmIf Al.avsMax 0 (decide (18 < want))
  let code := s.o 0x4800 2
  if s.a 0x4800 1 = 0 ∨ min 18 want ≤ code then s
  else if (match s.cal.avsAt with | some t => decide (s.now < t + 20 * tMs) | none => false) then s
  else if bookedOf (s.base rCore) (s.factorAt (code + 1) rCore) ≤ s.cap rCore then
    let s := ((s.seto 0x4800 2 (code + 1)).seto 0x4800 3 (900 + 5 * (code + 1))).clearAl Al.ageMargin 0
    let s := { s with start := { s.start with vid := code + 1 } }
    s.modCal (fun c => { c with avsAt := some s.now, avsRefused := none, storeQ := c.storeQ ++ [(key 0x4800 2, code + 2)] })
  else
    let s := (s.bump 0x4800 0x0B 1).bump 0x5005 (Dom.ao + 1) 1
    match s.cal.avsRefused with
    | none => s.modCal (fun c => { c with avsRefused := some s.now })
    | some t => if t + 24 * 3600 * tSec ≤ s.now ∧ ¬ s.raised Al.ageMargin 0 then s.raise Al.ageMargin 0 else s

/-- Records of a path. -/
def daysOf (l : List (Nat × List Int)) (n : Nat) : List Int := ((l.find? (fun x => x.1 == n)).map (fun x => x.2)).getD []
def putDays (l : List (Nat × List Int)) (n : Nat) (v : List Int) : List (Nat × List Int) := l.filter (fun x => x.1 != n) ++ [(n, v)]

/-- The least-squares slope of daily records in 0.01 dB, in 0.001 dB per year of 365.25 days (R237). -/
def trendOf (l : List Int) : Int :=
  let n : Int := l.length
  let idx := (List.range l.length).map (fun (i : Nat) => (i : Int))
  let si := idx.foldl (· + ·) 0
  let sr := l.foldl (· + ·) 0
  let sir := ((idx.zip l).map (fun x => x.1 * x.2)).foldl (· + ·) 0
  let sii := (idx.map (fun i => i * i)).foldl (· + ·) 0
  let den := n * sii - si * si
  if den ≤ 0 then 0 else divHEi ((n * sir - si * sr) * 14610) (4 * den)

/-- PA_GAIN_TREND of a path's records: 0 with fewer than 30 (R237). -/
def paTrend (l : List Int) : Int := if l.length < 30 then 0 else satI 16 (trendOf l)

/-- PA_GAIN_DAILY (R237). -/
def State.paDaily (s : State) : State :=
  allPaths.foldl (fun s n =>
    if s.dpdMode n ≠ 2 then s.setoi 0x4802 (n + 1) 0
    else
      let d := smGet ((0, 0) : Int × Nat) s.cal.paSum n
      if d.2 = 0 then s
      else
        let m := divHEi d.1 d.2
        let days := (daysOf s.cal.paDays n ++ [m]).drop ((daysOf s.cal.paDays n).length + 1 - 90)
        let first := (daysOf s.cal.paFirst n ++ [m]).take 30
        let s := s.modCal (fun c => { c with
          paDays := putDays c.paDays n days, paFirst := putDays c.paFirst n first, paSum := smErase c.paSum n,
          storeQ := c.storeQ ++ [(daysKey n, packInts days), (firstKey n, packInts first)] })
        let s := s.setoi 0x4802 (n + 1) (paTrend days)
        if first.length = 30 ∧ m * 30 < first.foldl (· + ·) 0 - 30 * (s.a 0x4800 0x0A : Int) ∧ n ∉ s.cal.paAlarmed then
          (s.modCal (fun c => { c with paAlarmed := c.paAlarmed ++ [n] })).raise Al.paAgeing n
        else s) s

/-- A new BENCH_PAR: the rotation restarts at group 0 from the next bench slot (R238). -/
def State.rotationRestart (s : State) : State :=
  let s := (s.seto 0x4400 0x0A 0).modCal (fun c => { c with displaced := [] })
  match s.cal.bench with
  | some b => if b.running || b.fixed then s else s.unplan
  | none => s

/-- What an activated commit does here: newly enabled paths that lack a phase-B assay are parked (R218); a new BENCH_PAR
restarts the rotation (R238); reconfigurations are noted (R22). -/
def State.calCommit (s s0 : State) (vals : SMap Nat) : State :=
  let s := if isReconf vals then s.modCal (fun c => { c with reconfAt := some s.time_ }) else s
  let s := if s.a 0x4400 2 ≠ s0.a 0x4400 2 then s.rotationRestart else s
  let s := if s.a 0x4400 1 = 0 ∧ s.cal.bench.isNone then s.benchState 3
    else if s.a 0x4400 1 = 1 ∧ s.o 0x4400 9 = 3 then s.benchState 0 else s
  if s.cal.step ≠ 9 then s
  else allPaths.foldl (fun s n => if s.pathOn n && !s0.pathOn n then s.parkIf n phaseB else s) s

/-- CHF_PENDING above zero for 60 s (R107, R132). -/
def State.chfTimeout (s : State) : State :=
  match s.dl.chfSince with
  | some t => if t + 60 * tSec ≤ s.now ∧ ¬ s.raised Al.chfPending 0 then s.raise Al.chfPending 0 else s
  | none => s
def State.ulChfTimeout (s : State) : State :=
  match s.ul.chfSince with
  | some t => if t + 60 * tSec ≤ s.now ∧ ¬ s.raised Al.ulChfPending 0 then s.raise Al.ulChfPending 0 else s
  | none => s

/-! ### The commands -/

def execRextMeasure (t : Tick) (dev : Int) (s : State) : Host.Outcome State Fault Refusal := s.run t (fun s => s.rext dev)

def execStartCalStepDone (t : Tick) (meas : List (Nat × Nat × List Int)) (s : State) : Host.Outcome State Fault Refusal :=
  s.run t (fun s => s.stepDone meas)

def execAssayDone (t : Tick) (path chain : Nat) (s : State) : Host.Outcome State Fault Refusal :=
  s.run t (fun s => s.assayDone path chain)

def execAssayResultReady (t : Tick) (path assay : Nat) (meas : List Int) (s : State) : Host.Outcome State Fault Refusal :=
  s.run t (fun s => s.assayResult path assay meas)

def execCalStoreWrite (t : Tick) (s : State) : Host.Outcome State Fault Refusal := s.run t State.storeWrite

def execCalBenchNow (t : Tick) (r : Req) (v : Nat) (s : State) : Host.Outcome State Fault Refusal :=
  s.run t (fun s => s.writeBy r 0x4400 8 (objBytes 0x4400 8 v) (fun s v => s.benchNow v))

def execCalOverdueExpiry (t : Tick) (path : Nat) (s : State) : Host.Outcome State Fault Refusal :=
  s.run t (fun s => s.calOverdue path)

def execAgeMeasure (t : Tick) (counts : List (Nat × Nat)) (s : State) : Host.Outcome State Fault Refusal :=
  s.run t (fun s => s.ageMeasure counts)

def execAgeHourly (t : Tick) (s : State) : Host.Outcome State Fault Refusal := s.run t State.ageHourly

def execAvsStep (t : Tick) (s : State) : Host.Outcome State Fault Refusal := s.run t State.avsStep

def execPaGainDaily (t : Tick) (s : State) : Host.Outcome State Fault Refusal := s.run t State.paDaily

def execChfPendingTimeout (t : Tick) (s : State) : Host.Outcome State Fault Refusal := s.run t State.chfTimeout

def execUlChfPendingTimeout (t : Tick) (s : State) : Host.Outcome State Fault Refusal := s.run t State.ulChfTimeout

end Sys2Proof.Machine
end

