-- ==== Sys2Proof/Machine/Locks.lean ====
section
/-!
DEFINITION. What frees a lock besides its owner: the reset hook (R345), and the routes that tell on which port a remote
node's requests arrive (R321).
-/

namespace Sys2Proof.Machine

/-! ### Routes (R321, Table 13-2) -/

/-- Heap child of node a towards address b: 1 for D1, 2 for D2 (R321, automatic mode). -/
def heapPort (a b : Nat) : Option Nat :=
  if a = 0 ∨ b < 2 * a then none
  else
    let k := bitLen 18 b - bitLen 18 a - 1
    if b >>> k = 2 * a then some 1 else if b >>> k = 2 * a + 1 then some 2 else none

/-- A route entry that is valid holds an address. -/
def inRoute (w b : Nat) : Bool := bit w 63 && decide (bits w 32 18 ≤ b) && decide (b ≤ bits w 0 18)

/-- A route in force at an instant: back past the commits that activated after it. -/
def State.routeBefore (s : State) (T : Int) (i j : Nat) : Nat :=
  s.past.foldl (fun v c => if T < c.at_ then (smFind c.vals (key i j)).getD v else v) (s.a i j)

/-- The instant before the present TIME cycle. -/
def State.cycleBefore (s : State) : Int := timeCycle s.time_ * ((2 * tNs : Nat) : Int) - 1

/-- The child port whose routes hold an address. A packet that meets an activation in one cycle follows the routes in force
before it (Table 13-7). -/
def State.childRoute (s : State) (b : Nat) : Option Nat :=
  let r := fun i => [6, 7, 8, 9].any (fun j => inRoute (s.routeBefore s.cycleBefore i j) b)
  if s.a 0x1100 3 = 1 then heapPort s.addr b
  else if r 0x1101 then some 1
  else if r 0x1102 then some 2
  else none

/-- The port on which a node's requests arrive: that of its route, otherwise port U (Table 13-3). -/
def State.portOf (s : State) (b : Nat) : Nat := (s.childRoute b).getD 0

/-! ### Owners -/

/-- The kind and the identity of an owner word (Table 14-6). -/
def ownKind (w : Nat) : Nat := bits w 30 2
def ownId (w : Nat) : Nat := bits w 0 18

/-- A session ends (R440): the lock is free and the level falls back. -/
def State.sessionEnd (s : State) : State := (s.setLock 26 lockFree).seto 0x8023 2 0

/-- A DMA channel. -/
def State.ch (s : State) (n : Nat) : Chan := smGet Chan.init s.dma.ch n
/-- A DMA channel put through a function. -/
def State.modChan (s : State) (n : Nat) (f : Chan → Chan) : State := { s with dma := { s.dma with ch := amod 16 Chan.init s.dma.ch n f } }

/-- The address a run has not yet reached: in the source, or for FILL in the destination. -/
def DmaRun.next (x : DmaRun) : Nat :=
  let o := if x.down then x.len - x.done - 4 else x.done
  if x.op = 1 then x.dst + o else x.src + o

/-- Writes CODE and DONE_BYTES back into a channel's descriptor, and RESULT where Table 15-5 gives it a meaning. -/
def State.descBack (s : State) (n code done : Nat) (result : Option Nat) : State :=
  let D := s.o (0x9001 + n) 0x0A
  let s1 := s.wr32 (D + 20) (code * 2 ^ 28 + done % 2 ^ 24)
  match result with
  | some a => s1.wr32 (D + 24) a
  | none => s1

/-- A channel that no longer runs: its state, its credit, its accesses. -/
def State.chanRest (s : State) (n st : Nat) : State :=
  let s1 := ((s.seto (0x9001 + n) 9 st).release .dmaChan n).modChan n (fun c =>
    { c with run := none, fetch := false, stop := false, retryAt := none })
  { s1 with power := { s1.power with stalls := s1.power.stalls.filter (fun x => decide (x.chan ≠ some n)) } }

/-- CH_STATE of a channel that is neither IDLE, END, FAULT nor STOPPED. -/
def State.chanBusy (s : State) (n : Nat) : Bool := decide (s.o (0x9001 + n) 9 ∈ [1, 2, 3])

/-- A channel stops at a burst boundary: its descriptor ends with STOPPED (R370, R378). A burst that waits for an uplink
symbol end completes first. -/
def State.chanStop (s : State) (n : Nat) : State :=
  if !s.chanBusy n then s
  else if (s.ch n).held then s.modChan n (fun c => { c with stop := true })
  else
    let D := s.o (0x9001 + n) 0x0A
    let x := match (s.ch n).run with
      | some x => (x.done, x.next)
      | none => (0, s.rd32 (if s.rd32 D / 2 ^ 28 = 1 then D + 8 else D + 4))
    (s.descBack n 9 x.1 (some x.2)).chanRest n 6

/-- A channel's owner is gone: it stops at the next burst boundary (R370). -/
def State.chanFree (s : State) (n : Nat) : State := ((s.setLock (10 + n) lockFree).seto (0x9001 + n) 1 0).chanStop n

/-- A lock goes to its safe state (Table 14-4). -/
def State.safeState (s : State) (n : Nat) : State :=
  if n < 8 then s.orxReset n
  else if n = 8 then (match s.cal.bench with | some b => if b.running then s.benchEnd b else s | none => s).setLock 8 lockFree
  else if n = 9 then s.cxDrop
  else if n < 26 then s.chanFree (n - 10)
  else if n = 26 then s.sessionEnd
  else s.loseStage

/-- The reset hook: every lock whose owner satisfies a condition goes to its safe state (R345). -/
def State.resetHook (s : State) (own : Nat → Bool) : State :=
  (List.range 28).foldl (fun s n => let w := (s.lock n).owner
    if w ≠ 0 ∧ own w then s.safeState n else s) s

/-- The reset hook of the remote nodes whose requests arrive on a port that leaves ACTIVE. -/
def State.hookPort (s : State) (p : Nat) : State :=
  s.resetHook (fun w => ownKind w == 2 && s.portOf (ownId w) == p)

end Sys2Proof.Machine
end

