-- ==== Sys2Proof/Machine/Wake.lean ====
section
/-!
DEFINITION. Domain base costs (Table 16-2), waking a domain that is off, and what stalls on it (R364, R402).
-/

namespace Sys2Proof.Machine

/-- Base cost of a domain (Table 16-2); the link domains take theirs on entry to DETECT. -/
def domCost (d : Nat) : List Nat :=
  if d < 12 then costAdd (costOn rCore 7) (costOn rIo 2)
  else if d = 12 then costOn rCore 60
  else if d = 13 then costOn rCore 4
  else if d = 14 then costOn rCore 6
  else if d = 18 then costAdd (costOn rCore 40) (costOn rIo 12)
  else if d = 19 then costAdd (costOn rCore 6) (costOn r18 12)
  else if d = 20 then costOn rCore 4
  else if d = 21 then costAdd (costOn rAon 3) (costOn rIo 10)
  else noCost

/-- Time from credit to readiness (Table 16-12); 0 where the table gives none. DC is ready before its cores have loaded their
programs (DESIGN CHOICE, assumption 17). -/
def domReady (d : Nat) : Nat :=
  if d < 12 then 20 * tUs
  else if d = 12 then 200 * tUs
  else if d = 13 then 150 * tUs
  else if d = 14 then 50 * tUs
  else if d < 18 then 10 * tUs
  else if d = 19 then 50 * tUs
  else 0

/-- Power control put through a function. -/
def State.modPower (s : State) (f : Power → Power) : State := { s with power := f s.power }

/-- Credit is granted: the domain is WAKING from now on. -/
def State.domWaking (s : State) (d : Nat) : State :=
  (s.setDom d 4).modPower (fun p => { p with
    waking := smInsert p.waking d s.now, pend := p.pend.filter (fun x => decide (x.1 ≠ d)) })

/-- A domain that is OFF asks for its base cost and wakes (R402, R389); refused, it asks again every 100 µs (Table 1-7). No
tile, BF, DP or DC asks until VID is restored (R451). -/
def State.wakeDomain (s : State) (d : Nat) : State :=
  if s.domState d ≠ 0 ∨ s.power.dormant = true then s
  else if d ≤ Dom.dc ∧ s.start.vidGoal.isSome = true then
    (if s.power.pend.any (fun x => x.1 == d) then s else s.modPower (fun p => { p with pend := p.pend ++ [(d, s.now)] }))
  else
    let r := s.ask .dom d (domCost d) d
    if r.1 then (r.2.domWaking d).bump 0x5050 4 1
    else if s.power.pend.any (fun x => x.1 == d) then
      r.2.modPower (fun p => { p with pend := p.pend.map (fun x => if x.1 = d then (d, s.now) else x) })
    else r.2.modPower (fun p => { p with pend := p.pend ++ [(d, s.now)] })

/-- An access waits for a domain that is not ON, and wakes it if it is OFF (R364, R402). -/
def State.stallOn (s : State) (d : Nat) (m : Option MReq) (ch : Option Nat) : State :=
  (s.modPower (fun p => { p with stalls := p.stalls ++ [⟨d, s.now, m, ch⟩] })).wakeDomain d

/-- FIRST_ACCESS_WAKE: a firmware demand for a domain that is OFF. -/
def State.firstAccess (s : State) (d : Nat) : State :=
  if 22 ≤ d ∨ s.domState d ≠ 0 ∨ s.power.dormant = true then s else s.stallOn d none none

def execFirstAccessWake (t : Tick) (d : Nat) (s : State) : Host.Outcome State Fault Refusal := s.run t (fun s => s.firstAccess d)

end Sys2Proof.Machine
end

