-- ==== Sys2Proof/Machine/Mem.lean ====
section
/-!
DEFINITION. The device address map (Table 15-1), memory-window requests (R364), and memory errors (R366).
-/

namespace Sys2Proof.Machine

/-- A region of Table 15-1: its row counted from 0, first and last address, domain, level to read, and level to write
(none: not writable). -/
structure Region where
  row : Nat
  lo : Nat
  hi : Nat
  dom : Nat
  rd : Nat
  wr : Option Nat
deriving DecidableEq, Repr

/-- Table 15-1. -/
def regions : List Region := [
  ⟨0, 0x10000000, 0x100BFFFF, Dom.bf, 0, some 1⟩, ⟨1, 0x100C0000, 0x100EFFFF, Dom.bf, 0, some 1⟩,
  ⟨2, 0x10200000, 0x102BFFFF, Dom.bf, 0, some 1⟩, ⟨3, 0x102C0000, 0x102EFFFF, Dom.bf, 0, some 1⟩,
  ⟨4, 0x10400000, 0x10407FFF, Dom.bf, 0, some 1⟩, ⟨5, 0x20000000, 0x200FFFFF, Dom.cp, 0, none⟩,
  ⟨6, 0x20100000, 0x2017FFFF, Dom.dp, 0, none⟩, ⟨7, 0x30000000, 0x30007FFF, Dom.hk, 0, none⟩,
  ⟨8, 0x40000000, 0x402FFFFF, Dom.dc, 2, some 3⟩, ⟨9, 0x50000000, 0x5000FFFF, Dom.cp, 0, some 1⟩,
  ⟨10, 0x70000000, 0x700FFFFF, Dom.ao, 2, some 2⟩]

/-- A core's 128 KiB: what lies above its program memory is unmapped (R363). -/
def coreMapped (a n : Nat) : Bool := decide ((a - 0x40000000) % 0x20000 + n ≤ 0x14000)

/-- The region a range of at least one byte lies in whole; none if part of it is unmapped or it spans two. -/
def regionOf (a n : Nat) : Option Region :=
  (regions.find? (fun r => decide (r.lo ≤ a) && decide (a + n ≤ r.hi + 1))).filter (fun r => r.row != 8 || coreMapped a n)

/-- A range of the capture buffers includes one tagged SPEC (R43, R369). -/
def State.specHit (s : State) (a n : Nat) : Bool :=
  (List.range 4).any (fun b => decide (a < capBase b + 0x40000) && decide (capBase b < a + n) && bit (s.rd32 (capBase b)) 23)

/-- Level needed to read a range (Table 15-1). -/
def State.readLevel (s : State) (g : Region) (a n : Nat) : Nat := if g.row = 5 ∧ s.specHit a n = true then 2 else g.rd

/-- Level needed to write it: that of the Read column where the Write column reads "none" (R364). -/
def State.memWriteLevel (s : State) (g : Region) (a n : Nat) : Nat := g.wr.getD (s.readLevel g a n)

/-- Direction of a table region (0 to 3). -/
def tblDir (g : Region) : Nat := g.row / 2

/-- A word as it reads: dynamic indices of a weight table read the dynamic store (R57). -/
def State.mapWord (s : State) (a : Nat) : Nat :=
  match (regions.find? (fun r => decide (r.lo ≤ a) && decide (a ≤ r.hi))) with
  | some g =>
    let v := (a - g.lo) / 384
    if (g.row = 0 ∨ g.row = 2) ∧ s.isDyn (tblDir g) s.time_ v = true then
      smGet 0 (s.tb (tblDir g)).dyn ((v - 1792) * 96 + (a - g.lo) % 384 / 4)
    else s.rd32 a
  | none => s.rd32 a

/-- n words as they read. -/
def State.mapWords (s : State) (a n : Nat) : List Nat := (List.range n).map (fun i => s.mapWord (a + 4 * i))

/-- Words written to descriptor memory from an address on: reserved bits [27:24] of word 5 read 0 (R4, Table 15-5); a
reserved bit of words 0 and 3 is kept, for the engine to judge (R373). -/
def descWords (a : Nat) (ws : List Nat) : List Nat :=
  (List.range ws.length).map (fun j =>
    let w := ws.getD j 0
    if (a + 4 * j) % 32 = 20 then w / 2 ^ 28 * 2 ^ 28 + w % 2 ^ 24 else w)

/-- A write of words under the rules of the region's own chapter: its status, and the state after. -/
def State.mapWrite (s : State) (g : Region) (a : Nat) (ws : List Nat) (m : Option MReq) (ch : Option Nat) : Nat × State :=
  if g.row = 0 ∨ g.row = 2 then s.wtWrite (tblDir g) a ws m ch
  else if g.row = 1 ∨ g.row = 3 then s.stagingWrite (tblDir g) a (ws.flatMap (bytesLE 4))
  else if g.row = 4 then s.schedWrite a (ws.flatMap (bytesLE 4))
  else (St.ok, s.wrBytes a ((if g.row = 9 then descWords a ws else ws).flatMap (bytesLE 4)))

/-- Words of a request's data; the data of a class M request holds memory as it lies, byte by byte (R3). -/
def wordsLE : List Nat → List Nat
  | a :: b :: c :: d :: l => ofBytesLE [a, b, c, d] :: wordsLE l
  | _ => []

/-- The judgement of R364 up to the region's own rules: a status, and the region. A request of COUNT 0 needs none. -/
def State.judgeMem (s : State) (m : MReq) : Nat × Option Region :=
  if m.w1 % 4 ≠ 0 ∨ m.count % 4 ≠ 0 ∨ 8184 < m.count then (St.badAlign, none)
  else if m.count = 0 then (St.ok, none)
  else match regionOf m.w1 m.count with
    | none => (St.badAddr, none)
    | some g =>
      let need := if m.op = 3 then s.readLevel g m.w1 m.count else s.memWriteLevel g m.w1 m.count
      if s.recovery ∧ ¬ (m.op = 4 ∧ g.row = 10) then (St.recovery, none)
      else if s.level m.req < (if s.recovery then 1 else need) then (St.noAccess, none)
      else if m.op = 4 ∧ g.wr = none then (St.readOnly, none)
      else if m.op = 4 ∧ m.data.length ≠ m.count then (St.badLength, none)
      else (St.ok, some g)

/-- A memory port that waits for a held vector serves nothing behind it (R70). -/
def State.portHeld (s : State) (g : Region) : Bool := (g.row == 0 || g.row == 2) && (s.tb (tblDir g)).held.isSome

/-- The request remains in service (R255). -/
def State.keep (s : State) (m : MReq) : State :=
  if m ∈ s.inService then s else { s with inService := s.inService ++ [m] }

/-- A memory-window request is judged and served, stalls on a domain that is not ON, or waits its turn at the port. -/
def State.memRequest (s : State) (m : MReq) : State :=
  if s.cpLost then s.answer m.req m.op m.w1 St.cpAbsent []
  else if s.cpAbsent.isSome then s.wait m
  else
    let s := s.renew m.req
    match s.judgeMem m with
    | (0, some g) =>
      if !s.domOn g.dom then (s.keep m).stallOn g.dom (some m) none
      else if s.portHeld g then { s with mq := s.mq ++ [m] }
      else if m.op = 3 then
        if s.eccHit m.w1 m.count then s.answer m.req m.op m.w1 St.eccUncorr []
        else s.answer m.req m.op m.w1 St.ok ((s.mapWords m.w1 (m.count / 4)).flatMap (bytesLE 4))
          (g.row == 5 && s.specHit m.w1 m.count)
      else
        let x := s.mapWrite g m.w1 (wordsLE m.data) (some m) none
        if x.1 = St.ok ∧ x.2.portHeld g = true then x.2.keep m else x.2.answer m.req m.op m.w1 x.1 []
    | (e, _) => s.answer m.req m.op m.w1 e []

/-! ### Memory errors (R366) -/

/-- SCRUB_READ of the word at an address: 0 whole, 1 corrected, otherwise uncorrectable. DSP memories follow R209. -/
def State.scrub (s : State) (a err : Nat) : State :=
  let a := a - a % 4
  match regionOf a 4 with
  | some g =>
    if !s.domOn g.dom ∨ err = 0 then s
    else if g.row = 8 then s.dcEcc ((a - 0x40000000) / 0x20000) (decide (err ≠ 1))
    else if err = 1 then s.bump 0x9000 2 1
    else if a ∈ s.dma.uncorr then s
    else { s.bump 0x9000 3 1 with dma := { s.dma with uncorr := s.dma.uncorr ++ [a] } }.raise Al.memEcc g.row
  | none => s

/-! ### The commands -/

def execMemRead (t : Tick) (r : Req) (addr count : Nat) (s : State) : Host.Outcome State Fault Refusal :=
  s.run t (fun s => s.memRequest ⟨r, 3, addr, count, [], s.now, false⟩)

def execMemWrite (t : Tick) (r : Req) (addr : Nat) (data : List Nat) (s : State) : Host.Outcome State Fault Refusal :=
  s.run t (fun s => s.memRequest ⟨r, 4, addr, data.length, data, s.now, false⟩)

def execScrubRead (t : Tick) (addr err : Nat) (s : State) : Host.Outcome State Fault Refusal :=
  s.run t (fun s => s.scrub addr err)

end Sys2Proof.Machine
end

