-- ==== Sys2Proof/Machine/Dma.lean ====
section
/-!
DEFINITION. The DMA engine (R370 to R378): channels, descriptors, bursts, triggers.
-/

namespace Sys2Proof.Machine

/-! ### Channels (R370, R371) -/

/-- CH15 belongs to the housekeeping block whenever HK is powered. -/
def State.hkOwns (s : State) (n : Nat) : Bool := decide (n = 15) && s.domOn Dom.hk

/-- CH_CLAIM of channel n: 1 claims the lock, 0 releases it (R344, R370). -/
def State.chClaim (s : State) (r : Req) (n v : Nat) : Nat × State :=
  let own := (s.lock (10 + n)).owner
  if v = 1 then
    if s.hkOwns n ∨ (own ≠ 0 ∧ own ≠ reqWord r) then (St.lockHeld, s)
    else acts (((s.setLock (10 + n) ⟨reqWord r, some (s.now + s.o (chIdx9 n) 0x0D * tMs)⟩).seto (chIdx9 n) 1 1).modChan n
      (fun c => { c with req := r }))
  else if own = reqWord r ∧ own ≠ 0 then acts (s.chanFree n) else (St.notOwner, s)

/-- A write by the owner renews the lease; everyone else's is refused (R370). -/
def State.chOwned (s : State) (r : Req) (n : Nat) (f : State → Nat × State) : Nat × State :=
  if (s.lock (10 + n)).owner = reqWord r ∧ reqWord r ≠ 0 then
    f (s.setLock (10 + n) ⟨reqWord r, some (s.now + s.o (chIdx9 n) 0x0D * tMs)⟩)
  else (St.notOwner, s)

/-- A channel asks for its unit of credit and goes on, or waits for it (R371). CH15's cost lies with HK. -/
def State.chCredit (s : State) (n : Nat) : State :=
  let r := if n = 15 then (true, s) else s.ask .dmaChan n (costOn rCore 1) Dom.cp
  if r.1 then (r.2.seto (chIdx9 n) 9 3).modChan n (fun c => { c with fetch := true, retryAt := none })
  else (r.2.seto (chIdx9 n) 9 1).modChan n (fun c => { c with fetch := true, retryAt := some (s.now + 100 * tUs) })

/-- A 32-byte-aligned address in descriptor memory (R372). -/
def isDesc (a : Nat) : Bool := decide (a % 32 = 0) && decide (0x50000000 ≤ a) && decide (a < 0x50010000)

/-- CH_START (R372). -/
def State.chStart (s : State) (r : Req) (n v : Nat) : Nat × State :=
  if !isDesc v then (St.badValue, s)
  else s.chOwned r n (fun s =>
    if s.chanBusy n then (St.dmaBusy, s)
    else acts (((s.seto (chIdx9 n) 0x0A v).modChan n (fun c => { c with bell := false, stop := false })).chCredit n))

/-- At END the engine re-reads EOC and NEXT of the tail: it goes on at NEXT if EOC has been cleared (R378). -/
def State.chTail (s : State) (n : Nat) : State :=
  let D := s.o (chIdx9 n) 0x0A
  if bit (s.rd32 D) 27 ∨ isDesc (s.rd32 (D + 16)) = false then s
  else (s.seto (chIdx9 n) 0x0A (s.rd32 (D + 16))).chCredit n

/-- CH_DOORBELL: acted on in END, held while the channel runs; an occurrence of trigger source 0x19 (R377, R378). -/
def State.chDoorbell (s : State) (r : Req) (n v : Nat) : Nat × State :=
  s.chOwned r n (fun s =>
    if v = 0 then acts s
    else
      let s1 := s.trigger 0x19
      acts (if s1.o (chIdx9 n) 9 = 4 then s1.chTail n
        else if s1.chanBusy n then s1.modChan n (fun c => { c with bell := true }) else s1))

/-- CH_STOP (R378). -/
def State.chStop (s : State) (r : Req) (n v : Nat) : Nat × State :=
  s.chOwned r n (fun s => acts (if v = 1 then s.chanStop n else s))

/-- CH_TRIG (R377). -/
def State.chTrig (s : State) (r : Req) (n v : Nat) : Nat × State :=
  if 0x1E < v then (St.badValue, s)
  else s.chOwned r n (fun s =>
    acts (((s.seto (chIdx9 n) 3 v).seto (chIdx9 n) 0x0B 0).modChan n (fun c => { c with trigAt := s.now, fired := 0 })))

/-- DMA_TRIGGER of a channel whose source is its own: the air time in CH_AT, once, or a period of CH_TIMER (Table 15-6). The
other sources occur with the events that cause them. -/
def State.dmaTrigger (s : State) (n : Nat) : State :=
  let c := s.ch n
  let i := chIdx9 n
  let count := fun (s : State) => (s.chTrigger n).modChan n (fun c => { c with fired := c.fired + 1 })
  if 16 ≤ n then s
  else if s.o i 3 = 0x17 then
    match s.wordAt (s.o i 5) ((c.trigAt : Int) + s.timeBase) with
    | some T => if c.fired = 0 ∧ T ≤ s.time_ then count s else s
    | none => s
  else if s.o i 3 = 0x18 then
    if c.trigAt + (c.fired + 1) * s.o i 4 * tUs ≤ s.now then count s else s
  else s

/-! ### Descriptors (R372, R373, R375) -/

/-- After a descriptor with a completion: EOC and NEXT are read again; END, or the next descriptor (R378). -/
def State.chOn (s : State) (n : Nat) : State :=
  let D := s.o (chIdx9 n) 0x0A
  if (s.ch n).stop then s.chanRest n 6
  else if bit (s.rd32 D) 27 then
    let bell := (s.ch n).bell
    let s1 := (s.chanRest n 4).modChan n (fun c => { c with bell := false })
    if bell then s1.chTail n else s1
  else if isDesc (s.rd32 (D + 16)) then
    ((s.seto (chIdx9 n) 0x0A (s.rd32 (D + 16))).seto (chIdx9 n) 9 3).modChan n (fun c => { c with run := none, fetch := true })
  else (s.chanRest n 5).raise Al.dmaFault n

/-- A descriptor ends with DONE, EMPTY or MISMATCH: it is counted, and its event occurs. -/
def State.chDone (s : State) (n code done : Nat) (result : Option Nat) : State :=
  (((s.descBack n code done result).bump (chIdx9 n) 0x0C 1).trigger (1 + n)).chOn n

/-- A fault: the channel stops, and no completion event occurs (R373). -/
def State.chFault (s : State) (n code done result : Nat) : State :=
  ((s.descBack n code done (some result)).chanRest n 5).raise Al.dmaFault n

/-- Two ranges of len bytes overlap so that a copy must run descending (R374). -/
def mustDescend (src dst len : Nat) : Bool := decide (src < dst) && decide (dst < src + len)

/-- The judgement of a descriptor: OK, or a code of Table 15-5 and RESULT (R373). -/
def State.judgeDesc (s : State) (n D : Nat) : Nat × Nat :=
  let w0 := s.rd32 D
  let op := w0 / 2 ^ 28
  let src := s.rd32 (D + 4)
  let dst := s.rd32 (D + 8)
  let w3 := s.rd32 (D + 12)
  let len := w3 % 2 ^ 24
  if 2 < op ∨ w0 % 2 ^ 26 ≠ 0 ∨ w3 / 2 ^ 24 ≠ 0 ∨ len % 4 ≠ 0 ∨ (bit w0 27 = false ∧ isDesc (s.rd32 (D + 16)) = false) then (4, D)
  else if len = 0 then (0, 0)
  else
    let gs := regionOf src len
    let gd := regionOf dst len
    let badS := decide (op ≠ 1) && (decide (src % 4 ≠ 0) || gs.isNone)
    let badD := decide (dst % 4 ≠ 0) || gd.isNone
    match gd with
    | none => (5, if badS then src else dst)
    | some d =>
      if badS then (5, src)
      else if badD ∨ (op = 0 ∧ mustDescend src dst len = true ∧ (d.row = 0 ∨ d.row = 2)) then (5, dst)
      else
        let lvl := s.level (s.ch n).req
        let noS := match gs with
          | some g => decide (op ≠ 1) && (decide (lvl < s.readLevel g src len) || (g.row == 5 && s.specHit src len))
          | none => false
        let noD := if op = 2 then decide (lvl < s.readLevel d dst len) || (d.row == 5 && s.specHit dst len)
          else d.wr.isNone || decide (lvl < s.memWriteLevel d dst len)
        if noS then (6, src) else if noD then (6, dst) else (0, 0)

/-- The channel's descriptor takes its trigger, is judged, and starts (R373, R375, R377). -/
def State.chFetch (s : State) (n : Nat) : State :=
  let i := chIdx9 n
  let D := s.o i 0x0A
  if s.eccHit D 20 then s.chFault n 7 0 D
  else
    let w0 := s.rd32 D
    let trig := s.o i 3
    if bit w0 26 ∧ trig ≠ 0 ∧ s.o i 0x0B = 0 then s.seto i 9 2
    else
      let s1 := (if bit w0 26 ∧ trig ≠ 0 then s.seto i 0x0B (s.o i 0x0B - 1) else s).seto i 9 3
      match s1.judgeDesc n D with
      | (0, _) =>
        let op := w0 / 2 ^ 28
        let src := s.rd32 (D + 4)
        let dst := s.rd32 (D + 8)
        let len := s.rd32 (D + 12) % 2 ^ 24
        if len = 0 then s1.chDone n 2 0 none
        else s1.modChan n (fun c => { c with fetch := false, run := some ⟨op, src, dst, len, 0, op == 0 && mustDescend src dst len⟩ })
      | (code, res) => s1.chFault n code 0 res

/-- DMA_COPY, DMA_FILL, DMA_COMPARE of a channel: its descriptor, of that operation, is read and started. A descriptor of an
invalid operation is judged by whichever of the three finds it. -/
def State.chRun (s : State) (n op : Nat) : State :=
  let w := s.rd32 (s.o (chIdx9 n) 0x0A) / 2 ^ 28
  if n < 16 ∧ (s.ch n).fetch = true ∧ s.o (chIdx9 n) 9 ∈ [2, 3] ∧ s.domOn Dom.cp = true ∧ (w = op ∨ 2 < w) then s.chFetch n else s

/-! ### Bursts (R374, R376) -/

/-- The weight table a run writes, if any. -/
def DmaRun.table (x : DmaRun) : Option Nat :=
  if x.op = 2 then none
  else match regionOf x.dst x.len with
    | some g => if g.row = 0 then some 0 else if g.row = 2 then some 1 else none
    | none => none

/-- A range's memory port serves accesses: it holds no vector (R70). -/
def State.portFree (s : State) (a n : Nat) : Bool := match regionOf a n with | some g => !s.portHeld g | none => true

/-- A channel with a burst to move: running, no access of its own waiting, and no other descriptor under way into the same
weight table. -/
def State.chReady (s : State) (n : Nat) : Bool :=
  let c := s.ch n
  match c.run with
  | some x =>
    decide (s.o (chIdx9 n) 9 = 3) && !c.held && (decide (x.op = 1) || s.portFree x.src x.len) && s.portFree x.dst x.len &&
    !(s.power.stalls.any (fun y => y.chan == some n)) &&
    (match x.table with
     | some t => !((List.range 16).any (fun m => decide (m ≠ n) &&
        (match (s.ch m).run with | some y => decide (0 < y.done) && decide (y.table = some t) | none => false)))
     | none => true)
  | none => false

/-- CH_PRIO as it counts: CH15 runs at 3 (R376). -/
def State.chPrio (s : State) (n : Nat) : Nat := if n = 15 then 3 else s.o (chIdx9 n) 2

/-- The channel the engine serves: the highest CH_PRIO, in turn after the one served last. -/
def State.chPick (s : State) : Option Nat :=
  let ready := (List.range 16).filter s.chReady
  let top := listMax (ready.map s.chPrio)
  let l := ready.filter (fun n => s.chPrio n == top)
  match l.find? (fun n => decide (s.dma.last < n)) with
  | some n => some n
  | none => l.head?

/-- Position in two lists of the first words that differ. -/
def firstDiff : List Nat → List Nat → Option Nat
  | a :: l, b :: r => if a = b then (firstDiff l r).map (· + 1) else some 0
  | _, _ => none

/-- The domain a range lies in. -/
def domOf (a n : Nat) : Nat := match regionOf a n with | some g => g.dom | none => Dom.ao

/-- One burst of a channel's run. A source word that is uncorrectable, or a write its target refuses, ends the descriptor
with the burst unmoved. -/
def State.burst (s : State) (n : Nat) (x : DmaRun) : State :=
  let m := min 256 (x.len - x.done)
  let o := if x.down then x.len - x.done - m else x.done
  let src := x.src + o
  let dst := x.dst + o
  let off := (if x.op = 1 then [] else [domOf src m]) ++ [domOf dst m]
  match off.find? (fun d => !s.domOn d) with
  | some d => s.stallOn d none (some n)
  | none =>
    let errS := decide (x.op ≠ 1) && s.eccHit src m
    let errD := decide (x.op = 2) && s.eccHit dst m
    let ecc := fun a => (s.dma.uncorr.filter (fun w => decide (a ≤ w) && decide (w < a + m))).headD a
    if errS then s.chFault n 7 x.done (ecc src)
    else if errD then s.chFault n 7 x.done (ecc dst)
    else
      let done := x.done + m
      let step := fun (s : State) => s.modChan n (fun c => { c with run := some { x with done := done } })
      let fin := fun (s : State) => if done = x.len ∧ (s.ch n).held = false then s.chDone n 1 done none else s
      if x.op = 2 then
        match firstDiff (s.mapWords src (m / 4)) (s.mapWords dst (m / 4)) with
        -- A1-03: 4 bytes high when the word is the last of its burst
        | some i => s.chDone n 3 done (some (src + 4 * i + (if 4 * (i + 1) = m then 4 else 0)))
        | none => fin (step s)
      else
        let ws := if x.op = 1 then List.replicate (m / 4) x.src else s.mapWords src (m / 4)
        match regionOf dst m with
        | none => s
        | some g =>
          let w := s.mapWrite g dst ws none (some n)
          if w.1 ≠ St.ok then w.2.chFault n 8 x.done dst
          else
            let held := match (w.2.tb (tblDir g)).held with
              | some h => (g.row == 0 || g.row == 2) && h.ch == some n
              | none => false
            fin ((step w.2).modChan n (fun c => { c with held := held }))

/-- DMA_BURST: channels that were to stop do; a descriptor whose last burst has been released ends; otherwise the engine
serves the channel it picks. -/
def State.dmaBurst (s : State) : State :=
  let s := (List.range 16).foldl (fun s n =>
    let c := s.ch n
    match c.run with
    | some x =>
      if c.held then s
      else if x.done = x.len then s.chDone n 1 x.len none
      else if c.stop then s.chanStop n else s
    | none => s) s
  match s.chPick with
  | some n =>
    match (s.ch n).run with
    | some x => { s with dma := { s.dma with last := n } }.burst n x
    | none => s
  | none => s

/-- A channel's stalled access has failed (R402): its descriptor ends with REFUSED. -/
def State.chStallFail (s : State) (n : Nat) : State :=
  match (s.ch n).run with
  | some x => s.chFault n 8 x.done x.next
  | none => s

/-! ### The commands -/

/-- Channel and buffer numbers of the commands. -/
def chN (n : Nat) : Nat := n % 16

def execChClaim (t : Tick) (r : Req) (n : Nat) (s : State) : Host.Outcome State Fault Refusal :=
  s.run t (fun s => s.writeBy r (chIdx9 (chN n)) 1 [1] (fun s v => s.chClaim r (chN n) v))

def execChRelease (t : Tick) (r : Req) (n : Nat) (s : State) : Host.Outcome State Fault Refusal :=
  s.run t (fun s => s.writeBy r (chIdx9 (chN n)) 1 [0] (fun s v => s.chClaim r (chN n) v))

def execChStart (t : Tick) (r : Req) (n v : Nat) (s : State) : Host.Outcome State Fault Refusal :=
  s.run t (fun s => s.writeBy r (chIdx9 (chN n)) 6 (objBytes 0x9001 6 v) (fun s v => s.chStart r (chN n) v))

def execChDoorbell (t : Tick) (r : Req) (n v : Nat) (s : State) : Host.Outcome State Fault Refusal :=
  s.run t (fun s => s.writeBy r (chIdx9 (chN n)) 7 (objBytes 0x9001 7 v) (fun s v => s.chDoorbell r (chN n) v))

def execChStop (t : Tick) (r : Req) (n v : Nat) (s : State) : Host.Outcome State Fault Refusal :=
  s.run t (fun s => s.writeBy r (chIdx9 (chN n)) 8 (objBytes 0x9001 8 v) (fun s v => s.chStop r (chN n) v))

def execChTrig (t : Tick) (r : Req) (n v : Nat) (s : State) : Host.Outcome State Fault Refusal :=
  s.run t (fun s => s.writeBy r (chIdx9 (chN n)) 3 (objBytes 0x9001 3 v) (fun s v => s.chTrig r (chN n) v))

def execDmaTrigger (t : Tick) (n : Nat) (s : State) : Host.Outcome State Fault Refusal := s.run t (fun s => s.dmaTrigger n)

def execDmaCopy (t : Tick) (n : Nat) (s : State) : Host.Outcome State Fault Refusal := s.run t (fun s => s.chRun n 0)

def execDmaFill (t : Tick) (n : Nat) (s : State) : Host.Outcome State Fault Refusal := s.run t (fun s => s.chRun n 1)

def execDmaCompare (t : Tick) (n : Nat) (s : State) : Host.Outcome State Fault Refusal := s.run t (fun s => s.chRun n 2)

def execDmaBurst (t : Tick) (s : State) : Host.Outcome State Fault Refusal := s.run t State.dmaBurst

def execCapArm (t : Tick) (r : Req) (b v : Nat) (s : State) : Host.Outcome State Fault Refusal :=
  s.run t (fun s => s.writeBy r (capIdx (b % 4)) 7 (objBytes 0x9020 7 v) (fun s v => s.capArm (b % 4) v))

end Sys2Proof.Machine
end

