-- ==== Sys2Proof/Machine/Link.lean ====
section
/-!
DEFINITION. Port training, lane management, restripe and epoch markers (R240 to R245, R260 to R267).
-/

namespace Sys2Proof.Machine

/-! ### Lanes and their credit -/

/-- Subindex of lane x of port p (R271). -/
def laneSub (p x : Nat) : Nat := 8 * p + x + 1
/-- LANE_STATE (Table 11-8). -/
def State.laneSt (s : State) (p x : Nat) : Nat := s.o 0x6100 (laneSub p x)
def State.setLaneSt (s : State) (p x v : Nat) : State := s.seto 0x6100 (laneSub p x) v

/-- Lanes of a port. -/
def lanes8 : List Nat := List.range 8
/-- The lanes of a mask. -/
def lanesOf (m : Nat) : List Nat := lanes8.filter (fun x => m.testBit x)
/-- The mask of a list of lanes. -/
def maskOfLanes (l : List Nat) : Nat := l.foldl (fun m x => withBit m x true) 0

/-- Power domain of a port (R388). -/
def portDom (p : Nat) : Nat := Dom.lu + p

/-- Base costs of a port, digital and analogue (Tables 10-17, 11-7). -/
def portDigital : List Nat := costOn rCore 15
def portAnalogue : List Nat := costAdd (costOn rLane 5) (costOn rLaneA 2)

/-- Costs of a lane by rate, digital and analogue (Tables 10-17, 11-7). -/
def laneDigital (r : Nat) : List Nat := costOn rCore ([4, 6, 7, 9, 11].getD r 4)
def laneAnalogue (r : Nat) : List Nat :=
  costAdd (costOn rLane ([6, 9, 11, 13, 16].getD r 6)) (costOn rLaneA ([4, 5, 5, 6, 6].getD r 4))

/-- Asks credit for a lane at a rate, in place of what it holds (R267, R287). -/
def State.laneAsk (s : State) (p x r : Nat) : Bool × State :=
  s.ask .lane (8 * p + x) (costAdd (laneDigital r) (laneAnalogue r)) (portDom p)

/-! ### Equaliser presets (R275 to R278) -/

/-- Word j of the preset table. -/
def presetWord (v j : Nat) : Nat := bits v (32 * (63 - j)) 32

/-- Entry j may be used on a lane at a rate (R277). -/
def State.presetFits (s : State) (p x r j : Nat) : Bool :=
  let w := presetWord (s.o 0x6110 1) (2 * j)
  bit w 13 && (decide (bits w 30 2 = 3) || decide (bits w 30 2 = p)) && bit w (22 + x) &&
    (decide (bits w 19 3 = 7) || decide (bits w 19 3 = r)) &&
    (decide (bits w 16 3 = 7) || decide (bits w 16 3 = s.o 0x7102 14)) &&
    !bit (s.o 0x6107 (laneSub p x)) j && decide (bits w 14 2 ≤ s.ageTier p)

/-- The selection of R277: the highest age, then the lowest number; 0xFE for the fallback. -/
def State.selectPreset (s : State) (p x r : Nat) : Nat :=
  let age := fun j => bits (presetWord (s.o 0x6110 1) (2 * j)) 14 2
  match ((List.range 32).filter (s.presetFits p x r)).foldl (fun (a : Option Nat) j =>
    match a with | none => some j | some i => if age i < age j then some j else some i) none with
  | some j => j
  | none => 0xFE

/-- The settings of the fallback in the layout of word 1: the transmitter from LANE_FB_TX, a CTLE of LANE_FB_PEAK, gain 6 dB and
no DFE (R278). -/
def State.fallback (s : State) : Nat :=
  s.a 0x6111 4 / 2 ^ 20 * 2 ^ 20 + s.a 0x6111 3 % 32 * 2 ^ 15 + 6 * 2 ^ 11

/-- The settings that a selection applies to a lane (R277, R278). -/
def State.settingsOf (s : State) (j : Nat) : Nat :=
  if j < 32 then presetWord (s.o 0x6110 1) (2 * j + 1) / 2 ^ 10 * 2 ^ 10 else s.fallback

/-- Electrical training of a lane begins: its termination legs and its preset are selected, and the preset's settings are
applied (R214, R277, R280). They hold until the lane trains again, whatever becomes of the table (R279). -/
def State.trainLane (s : State) (p x r : Nat) : State :=
  let j := s.selectPreset p x r
  (((s.select 6 (8 * p + x)).setLaneSt p x 2).seto 0x6101 (laneSub p x) j).modLane p x
    (fun l => { l with training := true, locked := false, clean := none, preset := some j, settings := s.settingsOf j })

/-- Loss of lock asserts on a lane and is counted (Table 11-1, LANE_LOL). -/
def State.lockGone (s : State) (p x : Nat) : State :=
  (s.bump 0x6105 (laneSub p x) 1).modLane p x (fun l => { l with locked := false })

/-- The preset in use on a lane is demoted for its next training (R274). -/
def State.demote (s : State) (p x : Nat) : State :=
  match (s.lane p x).preset with
  | some j => if j < 32 then s.setBit 0x6107 (laneSub p x) j true else s
  | none => s

/-! ### LMG messages (Tables 10-3, 10-4) -/

/-- An LMG sequence. -/
def lmg (op a1 a2 a3 a4 a5 : Nat) : List Nat :=
  [0xF7, op, a1, a2, a3, a4, a5, op ^^^ a1 ^^^ a2 ^^^ a3 ^^^ a4 ^^^ a5]

/-- Arguments A3 to A5 as the low 24 bits of a count. -/
def low24 (n : Nat) : Nat × Nat × Nat := ((n / 65536) % 256, (n / 256) % 256, n % 256)

/-- The role a port announces: 0 worker, 1 manager, 2 root. -/
def State.roleCode (s : State) : Nat := if s.role = 1 ∨ s.role = 2 then s.role else 0

/-- TS1 or TS2 on each lane of a mask. -/
def State.sendTs (s : State) (p op lanes rate width : Nat) : State :=
  (lanesOf lanes).foldl (fun s x => s.sendCtl p (lmg op x rate width s.roleCode 0)) s

/-- A received message: kept if its CHK is right and it is no copy of the one acted on within the last 8 columns; the
second part is false for a copy or a bad CHK (R245). -/
def State.lmgTake (s : State) (p : Nat) (m : List Nat) : Bool × State :=
  let b := fun i => m.getD i 0 % 256
  if b 6 ≠ b 0 ^^^ b 1 ^^^ b 2 ^^^ b 3 ^^^ b 4 ^^^ b 5 then (false, s)
  else
    let copy := match (s.port p).lastLmg with
      | some (l, at_) => decide (l = m.take 7) && decide (s.now ≤ at_ + 8 * colTicks (s.o (0x6000 + p) 6))
      | none => false
    if copy then (false, s) else (true, s.modPort p (fun q => { q with lastLmg := some (m.take 7, s.now) }))

/-- Operations of Table 10-4. -/
def lmgOps : List Nat := [0x01, 0x02, 0x10, 0x11, 0x12, 0x13, 0x20]

/-- A message that is acted on only if its OP is the one expected; an unknown OP counts in CODE_ERR (R245). -/
def State.onLmg (s : State) (p op : Nat) (m : List Nat) (f : State → State) : State :=
  if m.getD 0 0 % 256 ∉ lmgOps then (if (s.lmgTake p m).1 then (s.lmgTake p m).2.bump (0x6010 + p) 2 1 else s)
  else if m.getD 0 0 % 256 ≠ op then s
  else
    let x := s.lmgTake p m
    if x.1 then f x.2 else s

/-! ### Leaving ACTIVE, and going DOWN -/

/-- The peer's role is known anew: ROLE_CONFLICT of R316. -/
def State.roleConflict (s : State) : Bool :=
  decide (s.role = 2 ∧ s.a 0x1200 1 ≠ 1 ∧ s.active 0 ∧ (s.o 0x6000 9 = 1 ∨ s.o 0x6000 9 = 2))

/-- ROLE_CONFLICT is raised when its condition begins; the instant at which it ends is kept for its clearing 1 s later
(R331). -/
def State.judgeRole (s : State) : State :=
  if s.roleConflict then
    let s := s.modPort 0 (fun q => { q with mismatchGone := none })
    if s.raised Al.roleConflict 0 then s else s.raise Al.roleConflict 0
  else if s.raised Al.roleConflict 0 ∧ (s.port 0).mismatchGone.isNone then
    s.modPort 0 (fun q => { q with mismatchGone := some s.now })
  else s

/-- A transaction of this node as requester ends with a link status (R255, Table 10-18). -/
def State.endTag (s : State) (m : MTag) (status : Nat) : State :=
  let s1 := { s with mTags := s.mTags.filter (fun x => decide (x ≠ m)) }
  if m.lhp then
    s1.lhpPush (lhpFrame 2 m.prio m.tag m.dest
      (bytesBE 4 (mWord0 (bits m.w0 28 4) status 0) ++ bytesBE 4 m.w1))
  else s1

/-- Management toward a port that is no longer usable is answered NO_ROUTE (Tables 10-18, 13-7). -/
def State.noRouteOn (s : State) (p : Nat) : State :=
  let q := s.port p
  let s := s.modPort p (fun q => { q with proxies := [], proxyQ := [] })
  let s := q.proxies.foldl (fun s r => s.answer r.req (bits r.w0 28 4) r.w1 St.noRoute []) s
  let s := q.proxyQ.foldl (fun s m => s.answer m.req m.op m.w1 St.noRoute []) s
  (s.mTags.filter (fun m => decide (m.port = p))).foldl (fun s m => s.endTag m St.noRoute) s

/-- A port leaves ACTIVE (R249, R270, R345, Tables 5-6, 10-11, 10-18, 13-6). -/
def State.leaveActive (s : State) (p : Nat) : State :=
  let s := s.modPort p (fun q => { q with
    egress := [], replay := [], replayGone := [], pendReplay := [], flush := [], lastSeq := [],
    carried := [], fluWait := [], rx := [], tx := [], dropRx := none, dropTx := none, lostRx := none, lostTx := none,
    shed := [], addrAt := none, epmSeen := false })
  let s := (s.noRouteOn p).raise Al.portDown p
  let s := if p = 0 then s else
    let s := if s.chState p = 1 then s.modCh p (fun c => { c with removeNow := true }) else s
    ((s.seto (0x1100 + p) 3 0).seto (0x1100 + p) 4 0).seto (0x1100 + p) 5 0
  (s.judgeRole).hookPort p

/-- A port goes DOWN and releases its credit (R267, Table 10-2); a training failure starts the 10 ms back-off. -/
def State.portDown (s : State) (p : Nat) (failed : Bool) : State :=
  let was := s.active p
  let s := if (s.port p).deep then s.setDom (portDom p) 1 else s
  let s := s.release .portBase p
  let s := lanes8.foldl (fun s x =>
    let s := s.release .lane (8 * p + x)
    if s.laneSt p x = 6 then s
    else (s.setLaneSt p x 0).modLane p x (fun l => { l with training := false, locked := false, clean := none })) s
  let s := (((s.seto (0x6000 + p) 5 0).seto (0x6000 + p) 7 0).seto (0x6000 + p) 8 0)
  let s := s.modPort p (fun q => { q with
    since := s.now, failedAt := if failed then some s.now else q.failedAt, credited := 0, trained := 0, failedLanes := 0,
    aligned := 0, ts1 := 0, ts2 := 0, peerRate := 0, peerWidth := 0, peerLanes := 0, agreedRate := 0, agreedWidth := 0,
    agreedLanes := 0, rateTrained := 0, ready := false, deep := false, deepWake := none, lastLmg := none })
  if was then s.leaveActive p else s

/-- Enters a training state. -/
def State.portGo (s : State) (p st : Nat) : State := (s.seto (0x6000 + p) 5 st).modPort p (fun q => { q with since := s.now })

/-! ### Training (R244, Table 10-2) -/

/-- Lane credit in DETECT, lane by lane; a refusal ends the ladder (R267). -/
def State.ladder (s : State) (p : Nat) (lanes : List Nat) (r : Nat) : Nat × State :=
  (lanes.foldl (fun (a : Bool × Nat × State) x =>
    if !a.1 then a
    else
      let g := a.2.2.laneAsk p x r
      if g.1 then (true, withBit a.2.1 x true, g.2) else (false, a.2.1, g.2)) (true, 0, s)).2

/-- The envelope detectors of a port work: they are off until it is enabled (R288); in the deep state and in a lane test they
work too (R282, R284). -/
def State.detecting (s : State) (p : Nat) : Bool :=
  decide (s.a (0x6000 + p) 1 = 1) || (s.port p).deep || lanes8.any (fun x => decide (s.laneSt p x = 6))

/-- All lanes report LOS. -/
def State.allLos (s : State) (p : Nat) : Bool := lanes8.all (fun x => (s.lane p x).los)

/-- The deep lane state (R282): lanes off, their credit released, the analogue base kept (R287). -/
def State.goDeep (s : State) (p : Nat) : State :=
  let s := (s.portDown p false).book .portBase p portAnalogue
  let s := (lanes8.foldl (fun s x => s.setLaneSt p x 1) s).setDom (portDom p) 5
  s.modPort p (fun q => { q with deep := true })

/-- A wake of a port was detected in the present cycle. -/
def State.wokeNow (s : State) (p : Nat) : Bool :=
  match (s.port p).wokeAt with | some t => decide (timeCycle (t : Int) = timeCycle (s.now : Int)) | none => false

/-- The deep lane state is left: the lanes start again (R283). -/
def State.deepLeave (s : State) (p : Nat) : State :=
  (s.setDom (portDom p) 4).modPort p (fun q => { q with deepWake := some s.now })

/-- A port enters the deep state of its own accord; a wake detected in the same cycle wins (R282, Table 11-9). -/
def State.ownDeep (s : State) (p : Nat) : State :=
  if s.wokeNow p then (s.goDeep p).deepLeave p else s.goDeep p

/-- DETECT begins: base credit, then the ladder (R267, R280, R282). -/
def State.enterDetect (s : State) (p : Nat) : State :=
  let g := s.ask .portBase p (costAdd portDigital portAnalogue) (portDom p)
  if !g.1 then g.2
  else
    let l := g.2.ladder p (List.range (s.a (0x6000 + p) 3)) 0
    if l.1 = 0 then l.2.release .portBase p
    else
      let s := (lanesOf l.1).foldl (fun s x => s.trainLane p x 0) l.2
      (s.portGo p 1).modPort p (fun q => { q with credited := l.1, trained := 0, failedLanes := 0, deep := false, deepWake := none })

/-- A port may leave DOWN: enabled, not deep, its domain on, no lane in a test, the lane clocks on the LINK PLL and not on
the AON clock, where every lane reports loss of lock (R168, R271), and 10 ms after the last failure. -/
def State.mayDetect (s : State) (p : Nat) : Bool :=
  decide (s.a (0x6000 + p) 1 = 1) && decide (s.portState p = 0) && !(s.port p).deep && s.domOn (portDom p) &&
    !bit (s.o 0x2420 8) 7 &&
    lanes8.all (fun x => decide (s.laneSt p x ≠ 6)) && decide (p = 0 ∨ s.role ≠ 0) &&
    (match (s.port p).failedAt with | some f => decide (f + 10 * tMs ≤ s.now) | none => true)

/-- PORT_DETECT. -/
def State.portDetect (s : State) (p : Nat) : State :=
  if !s.mayDetect p then s else if s.allLos p then s.ownDeep p else s.enterDetect p

/-- The widths of R240 in descending order. -/
def widths : List Nat := [8, 7, 4, 2, 1]

/-- The agreed width (R244): two maxima, the lanes trained at both ends, the lanes credited. -/
def agreedWidthOf (own peer lanes : Nat) : Nat :=
  (widths.find? (fun w => decide (w ≤ lanes) &&
    (if w = 7 then decide (own = 8 ∧ peer = 8) else decide (w ≤ own ∧ w ≤ peer)))).getD 0

/-- The lowest n lanes of a mask. -/
def lowLanes (m n : Nat) : Nat := maskOfLanes ((lanesOf m).take n)

/-- The state after lanes have ended their training in DETECT: ALIGN once every credited lane has ended and one at
least is trained (DEDUCED, assumption 20). -/
def State.detectJudge (s : State) (p : Nat) : State :=
  let q := s.port p
  if q.trained ≠ 0 ∧ (lanesOf q.credited).all (fun x => q.trained.testBit x || q.failedLanes.testBit x) then s.portGo p 2 else s

/-- LANE_TRAIN_DONE: 0 untrained, 1 trained on the selection, 2 trained on the fallback (R278, R280, R281). -/
def State.laneTrained (s : State) (p x res : Nat) : State :=
  if !(s.lane p x).training then s
  else
    let ok := decide (res = 1 ∨ res = 2)
    let s := s.modLane p x (fun l => { l with
      training := false, locked := ok, preset := if res = 1 then l.preset else some 0xFE
      settings := if res = 1 then l.settings else s.fallback })
    let s := if res = 1 then s else s.seto 0x6101 (laneSub p x) 0xFE
    let s := if ok then s else s.bump 0x6106 (laneSub p x) 1
    if s.laneSt p x = 6 then s
    else if s.active p ∧ (s.port p).lostRx = some x then
      (s.setLaneSt p x 5).modLane p x (fun l => { l with clean := if ok then some s.now else none, training := !ok })
    else if s.portState p = 1 then
      let s := if ok then (s.setLaneSt p x 3).modPort p (fun q => { q with trained := withBit q.trained x true })
        else ((s.setLaneSt p x 0).release .lane (8 * p + x)).modPort p (fun q => { q with failedLanes := withBit q.failedLanes x true })
      s.detectJudge p
    else if s.portState p = 5 then
      if ok then (s.setLaneSt p x 3).modPort p (fun q => { q with rateTrained := withBit q.rateTrained x true })
      else (s.setLaneSt p x 0).release .lane (8 * p + x)
    else s

/-- PORT_ALIGN_DONE: COM lock on every trained lane; TS1 is sent. -/
def State.alignDone (s : State) (p : Nat) : State :=
  if s.portState p ≠ 2 then s
  else ((s.portGo p 3).modPort p (fun q => { q with aligned := q.trained })).sendTs p 1 (s.port p).trained
    (s.a (0x6000 + p) 2) (s.a (0x6000 + p) 3)

/-- LMG_TS1, received on a lane, with the skew now measured between the lanes in ps: when TS1 is seen on every trained
lane with a skew of at most 20 ns, the ends negotiate (R244). -/
def State.ts1 (s : State) (p x skew : Nat) (m : List Nat) : State :=
  s.onLmg p 1 m (fun s =>
    if s.portState p ≠ 3 then s
    else
      let s := s.modPort p (fun q => { q with ts1 := withBit q.ts1 x true, peerRate := m.getD 2 0, peerWidth := m.getD 3 0,
                                              peerLanes := withBit q.peerLanes (m.getD 1 0 % 8) true })
      let q := s.port p
      if !(lanesOf q.trained).all (fun y => q.ts1.testBit y) ∨ 20000 < skew then s
      else
        let both := q.trained &&& q.peerLanes
        let rate := min (s.a (0x6000 + p) 2) q.peerRate
        let w := agreedWidthOf (s.a (0x6000 + p) 3) q.peerWidth (lanesOf both).length
        let lanes := lowLanes both w
        let s := (s.portGo p 4).modPort p (fun q => { q with agreedRate := rate, agreedWidth := w, agreedLanes := lanes, ts2 := 0 })
        s.sendTs p 2 lanes rate w)

/-- The credit at the agreed rate; a refusal narrows the port (R267). -/
def State.rateCredit (s : State) (p : Nat) : State :=
  let q := s.port p
  let keep := lanesOf q.agreedLanes
  let s := ((lanesOf q.credited).filter (fun x => decide (x ∉ keep))).foldl
    (fun s x => (s.release .lane (8 * p + x)).setLaneSt p x 0) s
  let l := s.ladder p keep q.agreedRate
  let w := if l.1 = q.agreedLanes then q.agreedWidth else agreedWidthOf (s.a (0x6000 + p) 3) q.peerWidth (lanesOf l.1).length
  let lanes := lowLanes l.1 w
  let s := ((keep.filter (fun x => !lanes.testBit x)).foldl (fun s x => (s.release .lane (8 * p + x)).setLaneSt p x 0) l.2)
  s.modPort p (fun q => { q with credited := lanes, agreedWidth := w, agreedLanes := lanes })

/-- LMG_TS2: sixteen consecutive messages that match lead from NEGOTIATE to RATE, and are exchanged again in RATE; there a
message that names a narrower width narrows this end too (DEDUCED, assumption 20). -/
def State.ts2 (s : State) (p x : Nat) (m : List Nat) : State :=
  s.onLmg p 2 m (fun s =>
    let q := s.port p
    let rate := m.getD 2 0
    let w := m.getD 3 0
    let same := decide (rate = q.agreedRate ∧ w = q.agreedWidth ∧ m.getD 1 0 = x) && q.agreedLanes.testBit x
    if s.portState p = 4 then
      if !same then s.modPort p (fun q => { q with ts2 := 0 })
      else if q.ts2 + 1 < 16 then s.modPort p (fun q => { q with ts2 := q.ts2 + 1 })
      else
        let s := ((s.seto (0x6000 + p) 9 (m.getD 4 0 % 4)).seto (0x6000 + p) 6 q.agreedRate).rateCredit p
        if (s.port p).agreedLanes = 0 then s.portDown p true
        else
          let s := (lanesOf (s.port p).agreedLanes).foldl (fun s y => s.trainLane p y q.agreedRate) s
          let s := (s.portGo p 5).modPort p (fun q => { q with ts2 := 0, rateTrained := 0, ready := false })
          s.sendTs p 2 (s.port p).agreedLanes q.agreedRate (s.port p).agreedWidth
    else if s.portState p = 5 then
      if same then s.modPort p (fun q => { q with ts2 := q.ts2 + 1 })
      else if rate = q.agreedRate ∧ w < q.agreedWidth ∧ w ∈ widths then
        let lanes := lowLanes q.agreedLanes w
        let s := ((lanesOf q.agreedLanes).filter (fun y => !lanes.testBit y)).foldl
          (fun s y => (s.release .lane (8 * p + y)).setLaneSt p y 0) s
        s.modPort p (fun q => { q with ts2 := 0, agreedWidth := w, agreedLanes := lanes, credited := lanes })
      else s.modPort p (fun q => { q with ts2 := 0 })
    else s)

/-- PORT_RATE_DONE: trained at the agreed rate, COM lock, sixteen TS2: ACTIVE at the next marker either end sends. -/
def State.rateDone (s : State) (p : Nat) : State :=
  let q := s.port p
  if s.portState p = 5 ∧ 16 ≤ q.ts2 ∧ (lanesOf q.agreedLanes).all (fun x => q.rateTrained.testBit x) then
    s.modPort p (fun q => { q with ready := true })
  else s

/-- PORT_TRAIN_TIMEOUT: 2 ms in a training state; every one counts a failed attempt (Table 10-2, 0x6010.0F, A1-01). -/
def State.trainTimeout (s : State) (p : Nat) : State :=
  if 1 ≤ s.portState p ∧ s.portState p ≤ 5 ∧ (s.port p).since + 2 * tMs ≤ s.now then
    (s.portDown p true).bump (0x6010 + p) 0x0F 1
  else s

/-- Cost of a child's adder (R129). -/
def adderCost : List Nat := costOn rCore 10

/-- A child port becomes a combining child (Table 5-6, first row). -/
def State.childAsk (s : State) (p : Nat) : State :=
  if p = 0 ∨ !s.active p ∨ s.chState p ≠ 0 ∨ s.o (0x6000 + p) 9 = 3 ∨ s.role = 0 then s
  else
    let g := s.ask .childAdder p adderCost (portDom p)
    if g.1 then (g.2.seto (chIdx p) 1 2).modCh p (fun _ => ChSt.init) else g.2

/-- A port enters ACTIVE. -/
def State.goActive (s : State) (p : Nat) : State :=
  let q := s.port p
  let s := (((s.portGo p 6).seto (0x6000 + p) 7 (q.agreedWidth * 17)).seto (0x6000 + p) 8 (q.agreedLanes * 257))
  let s := (lanesOf q.agreedLanes).foldl (fun s x => s.setLaneSt p x 4) s
  let s := s.modPort p (fun q => { q with ready := false, epmSeen := false, lostRx := none, lostTx := none })
  (s.judgeRole).childAsk p

/-! ### Lane drop, restripe, restore (R261 to R266) -/

/-- The marker an ACK names: the next, or the one after if that is less than 10 µs away (R261). -/
def State.nameEpm (s : State) : Nat :=
  let T := s.time_
  let n := T / (tMs : Int) + 1
  let n := if n * (tMs : Int) - T < ((10 * tUs : Nat) : Int) then n + 1 else n
  (n % ((2 ^ 24 : Nat) : Int)).toNat

/-- Sends a REQ, naming the last marker count received intact for a drop. -/
def State.sendReq (s : State) (p : Nat) (w : Switch) : State :=
  let e := low24 w.lastEpm
  s.sendCtl p (if w.drop then lmg 0x10 w.lane w.reason e.1 e.2.1 e.2.2 else lmg 0x12 w.lane 0 0 0 0)

/-- LANE_LOST: a receive lane of an ACTIVE port is lost (0 error trend, 1 LOS, 2 loss of lock) (R261, Table 10-18). -/
def State.laneLost (s : State) (p x reason : Nat) : State :=
  let q := s.port p
  let rx := s.o (0x6000 + p) 8 % 256
  if !s.active p ∨ !rx.testBit x then s
  else if q.dropRx.any (fun w => w.drop && w.lane == x) then s
  else if s.a (0x6000 + p) 4 = 0 ∨ s.rxWidth p ≠ 8 ∨ (q.dropRx.any (fun w => w.drop)) ∨ q.lostRx.isSome then
    (s.portDown p false)
  else
    let w : Switch := ⟨x, none, reason, true, s.o (0x6000 + p) 0x0A, s.now⟩
    (s.modPort p (fun q => { q with dropRx := some w })).sendReq p w

/-- LMG_DROP_REQ: the sender names the switching marker and answers. -/
def State.dropReq (s : State) (p : Nat) (m : List Nat) : State :=
  s.onLmg p 0x10 m (fun s =>
    let x := m.getD 1 0
    let q := s.port p
    if !s.active p then s
    else if q.dropTx.any (fun w => w.drop && w.lane == x) ∨ q.lostTx = some x then
      match q.dropTx with   -- a repeat of the same request gets the same answer
      | some w => let e := low24 (w.epm.getD 0); s.sendCtl p (lmg 0x11 x 0 e.1 e.2.1 e.2.2)
      | none => s
    else if q.dropTx.any (fun w => w.drop) ∨ s.txWidth p ≠ 8 then s.portDown p false
    else
      let e := s.nameEpm
      let last := m.getD 3 0 * 65536 + m.getD 4 0 * 256 + m.getD 5 0
      let e3 := low24 e
      (s.modPort p (fun q => { q with dropTx := some ⟨x, some e, m.getD 2 0, true, last, s.now⟩ })).sendCtl p
        (lmg 0x11 x 0 e3.1 e3.2.1 e3.2.2))

/-- The count an ACK carries. -/
def ackEpm (m : List Nat) : Nat := m.getD 3 0 * 65536 + m.getD 4 0 * 256 + m.getD 5 0

/-- LMG_DROP_ACK or LMG_RESTORE_ACK: the receiver awaits the named marker; repeats stop. -/
def State.switchAck (s : State) (p : Nat) (drop : Bool) (m : List Nat) : State :=
  s.onLmg p (if drop then 0x11 else 0x13) m (fun s => s.modPort p (fun q => { q with
    dropRx := q.dropRx.map (fun w => if w.drop == drop && w.lane == m.getD 1 0 then { w with epm := some (ackEpm m) } else w) }))

/-- LMG_RESTORE_REQ: the sender takes back the lane's digital credit and names the marker (R266, R267); a refusal defers
the answer until a repeat finds credit. -/
def State.restoreReq (s : State) (p : Nat) (m : List Nat) : State :=
  s.onLmg p 0x12 m (fun s =>
    let x := m.getD 1 0
    let q := s.port p
    if !s.active p ∨ q.lostTx ≠ some x then s
    else
      match q.dropTx with
      | some w => let e := low24 (w.epm.getD 0); s.sendCtl p (lmg 0x13 x 0 e.1 e.2.1 e.2.2)
      | none =>
        let g := s.laneAsk p x (s.o (0x6000 + p) 6)
        if !g.1 then g.2
        else
          let e := s.nameEpm
          let e3 := low24 e
          (g.2.modPort p (fun q => { q with dropTx := some ⟨x, some e, 0, false, 0, s.now⟩ })).sendCtl p
            (lmg 0x13 x 0 e3.1 e3.2.1 e3.2.2))

/-- LANE_RESTORE_READY: the dropped lane has run free of errors for 1.0 s (R266, R267): its credit is taken, then
RESTORE_REQ is sent; a refusal defers it to the next marker. -/
def State.restoreReady (s : State) (p x : Nat) : State :=
  let q := s.port p
  let clean := match (s.lane p x).clean with | some c => decide (c + tSec ≤ s.now) | none => false
  if !s.active p ∨ q.lostRx ≠ some x ∨ !clean ∨ q.dropRx.isSome then s
  else
    let g := s.laneAsk p x (s.o (0x6000 + p) 6)
    if !g.1 then g.2
    else
      let w : Switch := ⟨x, none, 0, false, 0, s.now⟩
      (g.2.modPort p (fun q => { q with dropRx := some w })).sendReq p w

/-- LMG_REQ_REPEAT: an unanswered REQ is sent again 10 µs after the last (R245). -/
def State.reqRepeat (s : State) (p : Nat) : State :=
  match (s.port p).dropRx with
  | some w =>
    if w.epm.isNone ∧ w.reqAt + 10 * tUs ≤ s.now then
      (s.modPort p (fun q => { q with dropRx := some { w with reqAt := s.now } })).sendReq p { w with reqAt := s.now }
    else s
  | none => s

/-- Lane masks and widths after a lane leaves or rejoins one direction. -/
def State.setLanes (s : State) (p x : Nat) (tx inUse : Bool) : State :=
  let v := s.o (0x6000 + p) 8
  let w := s.o (0x6000 + p) 7
  let n := if inUse then 8 else 7
  (s.seto (0x6000 + p) 8 (withBit v (if tx then 8 + x else x) inUse)).seto (0x6000 + p) 7
    (if tx then (w / 16) * 16 + n else n * 16 + w % 16)

/-- A dropped lane's digital credit is released, its analogue credit kept, unless the other direction uses it (R267,
R281). -/
def State.dropCredit (s : State) (p x : Nat) : State :=
  s.book .lane (8 * p + x) (laneAnalogue (s.o (0x6000 + p) 6))

/-- The packets to replay: every T, M and C packet sent after the marker that DROP_REQ names; those the store no longer
holds count in REPLAY_LOST (R263). -/
def State.startReplay (s : State) (p last : Nat) : State :=
  let q := s.port p
  let after := fun n => let d := (n % 2 ^ 24 + 2 ^ 24 - last % 2 ^ 24) % 2 ^ 24; decide (d < 2 ^ 23)
  let s := s.bump (0x6010 + p) 0x11 (q.replayGone.filter after).length
  s.modPort p (fun q => { q with pendReplay := q.pendReplay ++
    (q.replay.filter (fun r => after r.epm)).map (fun r => { r.pkt with replay := true }) })

/-- The sender's switch at the marker it has just sent (R261, R263, R264, R266). RESTRIPES and LANE_DROP are the
sender's (Table 10-16). -/
def State.txSwitch (s : State) (p : Nat) (w : Switch) : State :=
  let s := s.modPort p (fun q => { q with dropTx := none, lostTx := if w.drop then some w.lane else none })
  let s := (s.setLanes p w.lane true !w.drop).bump (0x6010 + p) 0x10 1
  if w.drop then
    let s := (s.dropCredit p w.lane).raise Al.laneDrop (8 * p + w.lane)
    if w.reason = 1 ∨ w.reason = 2 then s.startReplay p w.lastEpm else s
  else s.modPort p (fun q => { q with shed := [] })

/-- The receiver's switch at the marker received; the dropped lane trains alone (R261, R281). -/
def State.rxSwitch (s : State) (p : Nat) (w : Switch) : State :=
  let s := s.modPort p (fun q => { q with dropRx := none, lostRx := if w.drop then some w.lane else none })
  let s := s.setLanes p w.lane false !w.drop
  if w.drop then
    ((s.dropCredit p w.lane).trainLane p w.lane (s.o (0x6000 + p) 6)).setLaneSt p w.lane 5
  else (s.setLaneSt p w.lane 4).modLane p w.lane (fun l => { l with clean := none })

/-- Streams shed on a port at seven transmit lanes (R264): class D towards a child, class U on port U. -/
def State.reShed (s : State) (p : Nat) : State :=
  let q := s.port p
  if q.lostTx.isNone then s
  else
    let l := if p = 0 then s.ulShed 0 q.oPrev
      else shedList (s.budget7 p q.oPrev) ((List.range 4).flatMap (fun c => (List.range 16).filterMap (fun k =>
        let w := s.a (0x3010 + c) (k + 1)
        if bit w 16 then some (16 * c + k, s.a 0x6210 (16 * c + k + 1), smGet 0 q.dPrev (w % 2 ^ 16)) else none)))
    s.modPort p (fun q => { q with shed := l })

/-! ### Epoch markers (R260) -/

/-- The count of a marker sent at an instant. -/
def epmCount (T : Int) : Nat := ((T / (tMs : Int)) % ((2 ^ 32 : Nat) : Int)).toNat

/-- The trim between REF and TIME, updated at a marker from y over the last epoch (R14, R292). -/
def State.trimUpdate (s : State) : State :=
  let span : Int := ((s.now - s.time.epochAt : Nat) : Int)
  let sum := s.time.yAcc + s.time.y * ((s.now - s.time.ySince : Nat) : Int)
  let y := if span = 0 then s.time.y else sum / span
  let s := { s with time := { s.time with yAcc := 0, ySince := s.now, epochAt := s.now } }
  let mppb := y
  let s := s.setoi 0x2420 4 (mppb / 1000)
  let s := { s with clk := { s.clk with
    trim := clampI (-1000000) 1000000 mppb
    refBlank := if 1000000 < mppb ∨ mppb < -1000000 then true
      else if -500000 ≤ mppb ∧ mppb ≤ 500000 then false else s.clk.refBlank } }
  (s.alarmIf Al.refDrift 0 (decide (50000 < mppb ∨ mppb < -50000))).alarmIf Al.refUnlockedTime 0 s.clk.refBlank

/-- Clears that wait for the next marker (R269, R290, R313). -/
def State.epmClears (s : State) : State :=
  let s := [0x6010, 0x6011, 0x6012].foldl (fun s i => if i ∈ s.clears then s.zeroRange i 1 18 else s) s
  let s := if 0x6111 ∈ s.clears then
      [0x6103, 0x6104, 0x6105, 0x6106, 0x6121, 0x6122, 0x6123].foldl (fun s i => s.zeroRange i 1 24) s else s
  let s := if 0x1204 ∈ s.clears then s.zeroRange 0x1204 1 5 else s
  { s with clears := s.clears.filter (fun i => decide (i ∉ [0x6010, 0x6011, 0x6012, 0x6111, 0x1204])) }

/-- Port U follows no parent's markers, so this node's own pace its trim (DEDUCED, assumption 21). -/
def State.ownTrim (s : State) : Bool := !s.active 0 || (decide (s.role = 2) && decide (s.a 0x1200 1 ≠ 1))

/-- One port's marker. The loads that shedding goes by stay those of the epoch before the switch (R264). On stepping A1, D2 sends a
wrong count with the marker at which it restripes from 8 to 7 lanes (A1-07): the value is free. -/
def State.epmOut (s : State) (p : Nat) : State :=
  let q := s.port p
  if !s.active p ∧ !q.ready then s
  else
    let n := epmCount s.time_
    let hit := q.dropTx.filter (fun w => w.epm == some (n % 2 ^ 24))
    let wrong := decide (p = 2) && hit.any (fun w => w.drop)
    let d := if wrong then s.draw 32 else (n, s)
    let s := (d.2.sendCtl p (0xFB :: bytesBE 4 d.1)).modPort p (fun q => { q with
      epmTx := n, dPrev := if q.lostTx.isSome then q.dPrev else q.dUsed, dUsed := [],
      oPrev := if q.lostTx.isSome then q.oPrev else q.oUsed, oUsed := 0 })
    let s := match hit with | some w => s.txSwitch p w | none => s
    let s := s.reShed p
    if q.ready then s.goActive p else s

/-- EPM_SEND: the counter passes a whole millisecond. -/
def State.epmSend (s : State) : State :=
  let s := [0, 1, 2].foldl State.epmOut s
  let s := if s.ownTrim then s.trimUpdate else s
  s.epmClears

/-- EPM_RECEIVE on a port with its count (R260, R261, A1-07). -/
def State.epmReceive (s : State) (p n : Nat) : State :=
  let q := s.port p
  if !s.active p ∧ !q.ready then s
  else
    let s := if q.ready then s.goActive p else s
    let q := s.port p
    let last := s.o (0x6000 + p) 0x0A
    let next := (last + 1) % 2 ^ 32
    let due := q.dropRx.filter (fun w => decide (w.epm = some (n % 2 ^ 24)) || (q.epmSeen && decide (w.epm = some (next % 2 ^ 24))))
    let lost := q.epmSeen && decide (n ≠ next) && due.any (fun w => w.drop && decide (w.epm ≠ some (n % 2 ^ 24)))
    let miss := q.epmSeen && decide (n ≠ next) && !lost
    let s := if lost then s else (s.seto (0x6000 + p) 0x0A n).modPort p (fun q => { q with epmSeen := true })
    let s := if miss then (s.bump (0x6010 + p) 0x0E 1).slotAlarm Al.epmMiss p else s
    let s := s.modPort p (fun q => { q with oRxPrev := if q.lostRx.isSome then q.oRxPrev else q.oRx, oRx := 0 })
    let s := match due with | some w => s.rxSwitch p w | none => s
    if p = 0 ∧ !s.ownTrim ∧ !lost then s.trimUpdate else s

/-! ### The commands -/

def execPortDetect (t : Tick) (p : Nat) (s : State) : Host.Outcome State Fault Refusal := s.run t (fun s => s.portDetect p)
def execLaneTrainDone (t : Tick) (p x res : Nat) (s : State) : Host.Outcome State Fault Refusal :=
  s.run t (fun s => s.laneTrained p x res)
def execPortAlignDone (t : Tick) (p : Nat) (s : State) : Host.Outcome State Fault Refusal := s.run t (fun s => s.alignDone p)
def execLmgTs1 (t : Tick) (p x skew : Nat) (m : List Nat) (s : State) : Host.Outcome State Fault Refusal :=
  s.run t (fun s => s.ts1 p x skew m)
def execLmgTs2 (t : Tick) (p x : Nat) (m : List Nat) (s : State) : Host.Outcome State Fault Refusal := s.run t (fun s => s.ts2 p x m)
def execPortRateDone (t : Tick) (p : Nat) (s : State) : Host.Outcome State Fault Refusal := s.run t (fun s => s.rateDone p)
def execPortTrainTimeout (t : Tick) (p : Nat) (s : State) : Host.Outcome State Fault Refusal := s.run t (fun s => s.trainTimeout p)
def execLmgDropReq (t : Tick) (p : Nat) (m : List Nat) (s : State) : Host.Outcome State Fault Refusal := s.run t (fun s => s.dropReq p m)
def execLmgDropAck (t : Tick) (p : Nat) (m : List Nat) (s : State) : Host.Outcome State Fault Refusal :=
  s.run t (fun s => s.switchAck p true m)
def execLmgRestoreReq (t : Tick) (p : Nat) (m : List Nat) (s : State) : Host.Outcome State Fault Refusal :=
  s.run t (fun s => s.restoreReq p m)
def execLmgRestoreAck (t : Tick) (p : Nat) (m : List Nat) (s : State) : Host.Outcome State Fault Refusal :=
  s.run t (fun s => s.switchAck p false m)
def execLmgReqRepeat (t : Tick) (p : Nat) (s : State) : Host.Outcome State Fault Refusal := s.run t (fun s => s.reqRepeat p)
def execLaneLost (t : Tick) (p x reason : Nat) (s : State) : Host.Outcome State Fault Refusal :=
  s.run t (fun s => s.laneLost p x reason)
def execLaneRestoreReady (t : Tick) (p x : Nat) (s : State) : Host.Outcome State Fault Refusal :=
  s.run t (fun s => s.restoreReady p x)
def execEpmSend (t : Tick) (s : State) : Host.Outcome State Fault Refusal := s.run t State.epmSend
def execEpmReceive (t : Tick) (p n : Nat) (s : State) : Host.Outcome State Fault Refusal := s.run t (fun s => s.epmReceive p n)

end Sys2Proof.Machine
end

