-- ==== Sys2Proof/Machine/Time.lean ====
section
/-!
DEFINITION. Network time: class T messages, the exchange, lock and servo, the root's sources, pulse outputs and capture
inputs (chapter 12). Stamps are in units of 2^-16 ns on the node's own counter.
-/

namespace Sys2Proof.Machine

/-! ### Stamps and messages -/

/-- The counter in units of 2^-16 ns. -/
def State.stamp (s : State) : Int := s.time_ / (tFrac : Int)

/-- The stamp of a packet that leaves on a port now: whole unit intervals at the port's rate, rounded down (R294; the
rounding DESIGN CHOICE, assumption 22). -/
def State.stampOut (s : State) (p : Nat) : Int :=
  let ui : Int := ((colTicks (s.o (0x6000 + p) 6) / 10 : Nat) : Int)
  s.time_ / ui * ui / (tFrac : Int)

def syncT := 0
def delayReqT := 1
def followUpT := 8
def delayRespT := 9
def announceT := 11

/-- messageLength by messageType (Table 12-1); 0 for a type the device does not know. -/
def ptpLen (mt : Nat) : Nat :=
  if mt = 0 ∨ mt = 1 ∨ mt = 8 then 44 else if mt = 9 then 54 else if mt = 11 then 64 else 0

/-- SYS_OFFSET's digest (R306). -/
def State.digest (s : State) : Nat := crc16 (bytesBE 8 (s.a 0x1201 1))

/-- The seconds and nanoseconds of a stamp, as a PTP timestamp of 10 bytes, and its fraction. -/
def ptpStamp (u : Int) : List Nat × Nat :=
  let n := u.toNat
  (bytesBE 6 (n / 65536000000000) ++ bytesBE 4 ((n / 65536) % 1000000000), n % 65536)

/-- A stamp from a PTP timestamp. -/
def ofPtp (l : List Nat) : Int := (((ofBytesBE (l.take 6)) * 1000000000 + ofBytesBE ((l.drop 6).take 4)) * 65536 : Nat)

/-- The port identity of this node on a port (Table 12-2). -/
def portIdentity (p : Nat) : List Nat := bytesBE 8 (Config.uniqueId % 2 ^ 64) ++ bytesBE 2 (p + 1)

/-- A message as sent by the device (Table 12-2), padded to whole words. -/
def State.ptpMsg (s : State) (p mt seq flags : Nat) (corr : Int) (spec : Nat) (body : List Nat) : List Nat :=
  let ctl := if mt = 0 then 0 else if mt = 1 then 1 else if mt = 9 then 3 else 5
  let logi := if mt = 0 ∨ mt = 1 then 0xF9 else if mt = 11 then 0 else 0x7F
  pad4 ([mt, 0x12] ++ bytesBE 2 (ptpLen mt) ++ [s.a 0x1200 2, 0] ++ bytesBE 2 flags ++ bytesBE 8 (ofInt 64 corr) ++
    bytesBE 4 spec ++ portIdentity p ++ bytesBE 2 seq ++ [ctl, logi] ++ body)

/-- Queues a class T message on a port; SEQ equals sequenceId. -/
def State.sendPtp (s : State) (p mt seq : Nat) (payload : List Nat) : State :=
  s.send p ⟨0x3FFFF, Cls.t, 0, s.addr, mt * 4096, seq % 65536, false, false, false, false, false, payload⟩ true none

/-- The next sequenceId of a message type on a port. -/
def State.nextSeq (s : State) (p mt : Nat) : Nat × State :=
  let k := 16 * p + mt
  let n := smGet 0 s.time.seqs k
  (n, { s with time := { s.time with seqs := smSet 0 s.time.seqs k ((n + 1) % 65536) } })

/-- A class T packet as it departs: Sync and Delay_Req carry the stamp of their departure (R297). -/
def stampPtp (u : Int) (l : List Nat) : List Nat :=
  let mt := l.getD 0 0 % 16
  if mt = syncT ∨ mt = delayReqT then
    let x := ptpStamp u
    l.take 8 ++ bytesBE 8 x.2 ++ (l.drop 16).take 18 ++ x.1 ++ l.drop 44
  else l

/-- The typeSpecific word: offset digest, mean delay, LOCKED (Table 12-2). -/
def State.typeSpecific (s : State) (delay : Nat) : Nat := s.digest * 65536 + delay * 2 + b2n s.timeLocked

/-! ### A received message -/

/-- The header fields of a received message. -/
structure Ptp where
  mt : Nat
  twoStep : Bool
  flags : Nat
  corr : Int
  spec : Nat
  seq : Nat
  time : Int
  rest : List Nat
deriving DecidableEq, Repr

/-- Reads a message. -/
def ptpOf (l : List Nat) : Ptp :=
  ⟨l.getD 0 0 % 16, (l.getD 6 0).testBit 1, l.getD 7 0, toInt 64 (ofBytesBE ((l.drop 8).take 8)), ofBytesBE ((l.drop 16).take 4),
   ofBytesBE ((l.drop 30).take 2), ofPtp (l.drop 34), l.drop 44⟩

/-- A root that takes no time from port U (R316). -/
def State.ownSource (s : State) : Bool := decide (s.role = 2) && decide (s.a 0x1200 1 ≠ 1)

/-- A message type is accepted on a port (Table 12-1). -/
def ptpAccepted (p mt : Nat) : Bool :=
  if p = 0 then decide (mt ∈ [syncT, followUpT, delayRespT, announceT]) else decide (mt = delayReqT)

/-- The checks of R298; a root with a source of its own ignores port U (R316). -/
def State.ptpTake (s : State) (p : Nat) (l : List Nat) (f : Ptp → State → State) : State :=
  if p = 0 ∧ s.ownSource then s
  else
    let x := ptpOf l
    if l.getD 1 0 % 16 ≠ 2 ∨ l.getD 4 0 ≠ s.a 0x1200 2 ∨ !ptpAccepted p x.mt ∨ ofBytesBE ((l.drop 2).take 2) ≠ ptpLen x.mt ∨
       l.length < ptpLen x.mt then s.bump 0x1204 4 1
    else f x s

/-! ### Lock and servo (R300 to R302) -/

/-- Sets y, keeping its average over the epoch and its last values. -/
def State.setY (s : State) (v : Int) : State :=
  let t := s.time
  { s with time := { t with
      yAcc := t.yAcc + t.y * ((s.now - t.ySince : Nat) : Int), ySince := s.now, y := v, yHist := (v :: t.yHist).take 16 } }.setoi
    0x1200 0x0F v

/-- TIME_STATE. -/
def State.timeState (s : State) : Nat := s.o 0x1200 0x0B
def State.setTime (s : State) (v : Nat) : State := s.seto 0x1200 0x0B v

/-- The leading edge k of a pulse output, on the time counter, rounded to 0.5 ns (R307). -/
def State.tpoLead (s : State) (n k : Nat) : Int :=
  let st := s.a (0x1230 + n) 2
  let u : Nat := ((st / 2 ^ 48) * 1000000000 + (st / 2 ^ 16) % 2 ^ 32) * 65536 + st % 2 ^ 16
  roundHE ((u + k * s.a (0x1230 + n) 3 * 32768 : Nat) : Int) 15 * ((tNs / 2 : Nat) : Int)

/-- The first edge of an output at or after an instant: in periodic mode the first k, in once mode edge 0 or none. -/
def State.tpoAim (s : State) (n : Nat) (T : Int) (p : Tpo) : Tpo :=
  let per : Int := ((max (s.a (0x1230 + n) 3) 1 * (tNs / 2) : Nat) : Int)
  let L0 := s.tpoLead n 0
  if s.a (0x1230 + n) 1 = 2 then
    { p with high := false, trailing := false, done := false, k := if T ≤ L0 then 0 else (-((L0 - T) / per)).toNat }
  else { p with high := false, trailing := false, k := 0, done := decide (L0 < T) }

/-- Where an accepted commit activates on a new grid: where its triple next starts, or at the next symbol boundary if that lies
more than 5.12 s ahead (Table 19-8). `old` is the state before the step of the counter. -/
def State.reaim (s old : State) (c : PCommit) : PCommit :=
  let n := old.slotOf c.scs c.at_
  let k := symAt c.scs (c.at_ - old.slotStart c.scs n).toNat
  let A := s.tAir c.scs (s.nextSlot c.scs s.time_ (sfnOf c.scs n) (slotInFrame c.scs n) k) k
  { c with at_ := if s.time_ + ((5120 * tMs : Nat) : Int) < A then s.nextSymStart c.scs s.time_ else A }

/-- Steps the counter (R301, R303): it is now T; outputs are cut and aimed afresh (R307, Table 12-8), and accepted commits
keep their triples (R458). -/
def State.stepTo (s : State) (T : Int) : State :=
  let old := s
  let s := { s with timeBase := T - (s.now : Int), time := { s.time with stepped := some (s.now, s.timeBase) } }
  let s := { s with commits := s.commits.map (s.reaim old) }
  let s := s.bump 0x1204 1 1
  { s with time := { s.time with tpo := atab 4 Tpo.init (fun n =>
      s.tpoAim n (s.time_ + 1) (smGet Tpo.init s.time.tpo n)) } }

/-- Lock is lost (Table 12-3): y holds its last value. -/
def State.timeUnlock (s : State) : State :=
  let was := s.timeLocked
  let s := (s.setTime 0).bump 0x1204 2 (b2n was)
  let s := { s with time := { s.time with good := 0, bad := 0, missed := 0, holdover := none } }
  if was then s.raise Al.timeUnlock 0 else s

/-- Lock is reached. -/
def State.timeLock (s : State) : State :=
  State.wakeSettled { (s.setTime 2).clearAl Al.timeUnlock 0 with time := { s.time with good := 0, bad := 0, missed := 0 } }

/-- An exchange is missed (R299). -/
def State.exchMissed (s : State) : State :=
  let s := s.bump 0x1204 3 1
  let s := { s with time := { s.time with exch := none, missed := s.time.missed + 1 } }
  if s.timeState = 2 ∧ s.a 0x1200 8 ≤ s.time.missed then s.timeUnlock else s

/-- One update of the servo from theta in 2^-16 ns (R302). -/
def State.servo (s : State) (theta : Int) : State :=
  let one : Int := ((2 ^ 32 : Nat) : Int)
  let P := -((s.a 0x1200 4 : Int) * theta * 256)
  let slew := (s.a 0x1200 3 : Int) * one
  let lim := 2000 * one
  let dI := (s.a 0x1200 5 : Int) * theta
  let (i, p) :=
    if s.role = 0 then
      if slew < P then (s.time.i, slew) else if P < -slew then (s.time.i, -slew) else (s.time.i - dI, P)
    else (clampI (-lim) lim (s.time.i - dI), P)
  let s := { s with time := { s.time with i := i } }
  s.setY (roundHE (clampI (-lim) lim (i + p) * 1000) 32)

/-- The first part of a Sync's effect: what its LOCKED bit and its digest mean at once (R301, R306). -/
def State.judgeParent (s : State) (locked same : Bool) : State :=
  let s := s.alarmIf Al.sysOffsetMismatch 0 (!same)
  if locked && same then s
  else if s.timeState = 2 then s.timeUnlock else if s.timeState = 1 then s.setTime 0 else s

/-- A node too deep to leave UNLOCKED (R327). -/
def State.tooDeep (s : State) : Bool := decide (s.o 0x1100 4 ≠ 0xFF) && decide (48 < s.o 0x1100 4) && decide (s.role ≠ 2)

/-- PORT_ASYM of port U in 2^-16 ns; the conversion truncates (R300, DEDUCED, assumption 22). -/
def State.asymU (s : State) : Int := truncDiv (s.ai 0x1202 1 * 65536) 1000

/-- A complete exchange (R300, Table 12-3). -/
def State.exchDone (s : State) (t1 t2 t3 t4 : Int) (ok : Bool) : State :=
  let dms := t2 - t1
  let dsm := t4 - t3
  let theta := truncDiv (dms - dsm) 2 - s.asymU
  let delay := truncDiv (dms + dsm) 2
  let s := (s.setoi 0x1200 0x0D (satI 32 theta)).seto 0x1200 0x0E (clampI 0 4294967295 delay).toNat
  let s := { s with time := { s.time with
    exch := none, missed := 0, delayNs := (clampI 0 32767 ((delay + 32768) / 65536)).toNat } }
  let mag := theta.natAbs
  let lockT := s.a 0x1200 6 * 65536
  let unlockT := s.a 0x1200 7 * 65536
  if !ok ∨ s.tooDeep then s
  else if s.timeState = 0 then
    let s := ({ s with time := { s.time with i := 0, good := 0, bad := 0 } }.setY 0).stepTo (s.time_ - theta * (tFrac : Int))
    s.setTime 1
  else if s.timeState = 1 then
    if unlockT < mag then s.setTime 0
    else
      let s := s.servo theta
      let g := if mag ≤ lockT then s.time.good + 1 else 0
      let s := { s with time := { s.time with good := g } }
      if 16 ≤ g then s.timeLock else s
  else if s.timeState = 2 then
    let b := if unlockT < mag then s.time.bad + 1 else 0
    let s := { s with time := { s.time with bad := b } }
    if 4 ≤ b then s.timeUnlock else s.servo theta
  else s

/-! ### The child's side of port U -/

/-- SYNC_RECEIVE with its arrival stamp. -/
def State.onSync (s : State) (x : Ptp) (t2 : Int) : State :=
  if s.time.lastSyncSeq = some x.seq then s
  else
    let s := if s.time.exch.isSome then s.exchMissed else s
    let same := decide (bits x.spec 16 16 = s.digest)
    let s := s.judgeParent (bit x.spec 0) same
    { s with time := { s.time with
        lastSync := some s.now, lastSyncSeq := some x.seq
        exch := some ⟨x.seq, bit x.spec 0 && same, if x.twoStep then none else some (x.time + x.corr), t2, none, none, s.now⟩ } }

/-- FOLLOW_UP_RECEIVE: within 1 ms of its Sync (R298). -/
def State.onFollowUp (s : State) (x : Ptp) : State :=
  match s.time.exch with
  | some e =>
    if e.seq = x.seq ∧ e.t1.isNone ∧ s.now ≤ e.at_ + tMs then
      { s with time := { s.time with exch := some { e with t1 := some (x.time + x.corr) } } }
    else s
  | none => s

/-- DELAY_REQ_SEND, 2.0 ms after an accepted Sync. -/
def State.delayReqSend (s : State) : State :=
  match s.time.exch with
  | some e =>
    if e.reqSeq.isSome ∨ s.now < e.at_ + 2 * tMs ∨ !s.active 0 ∨ s.ownSource then s
    else
      let n := s.nextSeq 0 delayReqT
      let s := { n.2 with time := { n.2.time with exch := some { e with reqSeq := some n.1 } } }
      s.sendPtp 0 delayReqT n.1 (s.ptpMsg 0 delayReqT n.1 0 0 (s.typeSpecific s.time.delayNs) (List.replicate 10 0))
  | none => s

/-- DELAY_RESP_RECEIVE: the exchange is complete if all four times are known within 5 ms of t2 (R299). -/
def State.onDelayResp (s : State) (x : Ptp) : State :=
  match s.time.exch with
  | some e =>
    if e.reqSeq ≠ some x.seq ∨ x.rest.take 10 ≠ portIdentity 0 ∨ e.at_ + 5 * tMs < s.now then s
    else
      match e.t1, e.t3 with
      | some t1, some t3 => s.exchDone t1 e.t2 t3 (x.time - x.corr) e.ok
      | _, _ => s
  | none => s

/-- EXCHANGE_TIMEOUT: 5 ms have passed since t2, or 1 ms without the Follow_Up of a two-step Sync. -/
def State.exchTimeout (s : State) : State :=
  match s.time.exch with
  | some e => if e.at_ + 5 * tMs < s.now ∨ (e.t1.isNone ∧ e.at_ + tMs < s.now) then s.exchMissed else s
  | none => s

/-- TIME_MISS_EXPIRY: TIME_MISS_MAX exchange intervals without an exchange (Table 12-3, last row). -/
def State.timeMiss (s : State) : State :=
  let due := match s.time.lastSync with | some t => decide (t + s.a 0x1200 8 * (tSec / 128) ≤ s.now) | none => true
  if s.ownSource ∨ !due then s
  else if s.timeState = 2 then s.timeUnlock else if s.timeState = 1 then s.setTime 0 else s

/-- ANNOUNCE_RECEIVE (R327, Table 12-2). -/
def State.onAnnounce (s : State) (x : Ptp) : State :=
  let depth := min 254 (ofBytesBE ((x.rest.drop 17).take 2) + 1)
  let s := (s.seto 0x1200 0x10 (ofBytesBE (x.rest.take 2)))
  let s := { s with time := { s.time with parentFlags := x.flags } }
  if s.role = 2 then s
  else
    let s := (s.seto 0x1100 4 depth).alarmIf Al.depthExceeded 0 (decide (48 < depth))
    if 48 < depth ∧ s.timeState ≠ 0 then (if s.timeLocked then s.timeUnlock else s.setTime 0) else s

/-! ### The parent's side -/

/-- Exchange interval 1/128 s, and its offset on D2 (R299). -/
def syncPeriod : Nat := tSec / 128

/-- Sends at most once in each period of a message, numbered from 1. -/
def State.oncePer (s : State) (key : Nat) (k : Int) (f : State → State) : State :=
  if smGet 0 s.time.sent key = k.toNat + 1 then s
  else f { s with time := { s.time with sent := smSet 0 s.time.sent key (k.toNat + 1) } }

/-- SYNC_SEND on a child port. -/
def State.syncSend (s : State) (p : Nat) : State :=
  if !s.active p ∨ p = 0 then s
  else
    let off : Int := if p = 2 then ((syncPeriod / 2 : Nat) : Int) else 0
    s.oncePer p ((s.time_ - off) / (syncPeriod : Int)) (fun s =>
      let n := s.nextSeq p syncT
      n.2.sendPtp p syncT n.1 (n.2.ptpMsg p syncT n.1 0 0 (n.2.typeSpecific 0) (List.replicate 10 0)))

/-- ANNOUNCE_SEND on the child ports: flags as received or from the root's input, ptpTimescale 1; the clock quality
fields, on which the spec is silent, are free. -/
def State.announceSend (s : State) : State :=
  [1, 2].foldl (fun s p =>
    if !s.active p then s
    else s.oncePer (8 + p) (s.time_ / (tSec : Int)) (fun s =>
      let n := s.nextSeq p announceT
      let q := n.2.draw 136
      let u := q.2.draw 16
      let known := decide (s.role = 2) || decide (s.o 0x1100 4 ≠ 0xFF)
      let s := if known then q.2 else u.2
      let steps := if s.role = 2 then 0 else if known then s.o 0x1100 4 else u.1
      let qb := bytesBE 17 q.1
      let flags := withBit (s.time.parentFlags % 64) 3 true
      s.sendPtp p announceT n.1 (s.ptpMsg p announceT n.1 flags 0 0
        (List.replicate 10 0 ++ bytesBE 2 (s.o 0x1200 0x10) ++ [0] ++ qb.take 14 ++ bytesBE 2 steps ++ (qb.drop 14).take 1)))) s

/-- HOP_BUDGET of a child port (R46): a child that reports 0 is not judged. -/
def State.hopBudget (s : State) (p : Nat) : State :=
  let d := smGet 0 s.time.childDelay (p - 1)
  s.alarmIf Al.hopBudget p (decide (d ≠ 0) && decide (s.a 0x1220 0 < 600 + s.a 0x1222 0 + d))

/-- DELAY_REQ_RECEIVE on a child port with its arrival stamp t4: the child's lock and delay are taken (R25, R46), and
Delay_Resp is sent. Its sequenceId is that of the request (DEDUCED, assumption 22). -/
def State.onDelayReq (s : State) (p : Nat) (x : Ptp) (l : List Nat) (t4 : Int) : State :=
  let lk := bit x.spec 0
  let s := { s with time := { s.time with
    childLocked := amod 2 false s.time.childLocked (p - 1) (fun _ => lk)
    childDelay := amod 2 0 s.time.childDelay (p - 1) (fun _ => bits x.spec 1 15) } }
  let s := if !lk && decide (s.chState p = 1) then s.modCh p (fun c => { c with removeNow := true }) else s
  let s := s.hopBudget p
  let y := ptpStamp t4
  s.sendPtp p delayRespT x.seq (s.ptpMsg p delayRespT x.seq 0 (-(y.2 : Int)) 0 (y.1 ++ (l.drop 20).take 10))

/-- A class T packet that has passed the link, with its arrival stamp; `only` restricts it to one messageType. -/
def State.ptpReceive (s : State) (p : Nat) (l : List Nat) (stamp : Int) : State :=
  s.ptpTake p l (fun x s =>
    if x.mt = syncT then s.onSync x stamp
    else if x.mt = followUpT then s.onFollowUp x
    else if x.mt = delayReqT then s.onDelayReq p x l stamp
    else if x.mt = delayRespT then s.onDelayResp x
    else s.onAnnounce x)

/-! ### The root (R303, R304) -/

/-- A root on PPS and ToD. -/
def State.ppsRoot (s : State) : Bool := decide (s.role = 2) && decide (s.a 0x1200 1 = 0)

/-- The source is lost (R304). -/
def State.sourceLost (s : State) : State :=
  let s := s.seto 0x1203 3 (withBit (withBit (s.o 0x1203 3) 0 false) 1 false)
  if s.timeState = 2 then
    let h := s.time.yHist
    let mean := if h = [] then s.time.y else h.foldl (· + ·) 0 / (h.length : Int)
    let s := (s.setY mean).setTime 3
    { s with time := { s.time with holdover := some s.now } }.raise Al.rootSourceLost 0
  else if s.timeState = 1 then (s.setTime 0).raise Al.rootSourceLost 0
  else s

/-- The root's servo for one pulse: the count of CLK10M_IN sets I, or I integrates (R303). -/
def State.rootServo (s : State) (theta : Int) (ten : Option Int) : State :=
  let one : Int := ((2 ^ 32 : Nat) : Int)
  let lim := 2000 * one
  let i := match ten with
    | some f => clampI (-lim) lim f
    | none => clampI (-lim) lim (s.time.i - (s.a 0x1200 5 : Int) * theta)
  let P := clampI (-(1000 * one)) (1000 * one) (-(theta * 65536))
  let s := { s with time := { s.time with i := i } }
  s.setY (roundHE (clampI (-lim) lim (i + P) * 1000) 32)

/-- A ToD frame that is not used (R303, R314). -/
def State.todErr (s : State) : State :=
  let s := s.bump 0x1204 5 1
  let m := s.time_ / (60 * (tSec : Int))
  if s.time.todMin = some m then s else { s with time := { s.time with todMin := some m } }.raise Al.todBad 0

/-- PPS_EDGE: a rising or falling edge of PPS_IN, and, with 10 MHz present, the frequency that its count gives, in
2^-32 ppb. The stamp has 0.5 ns (R303). -/
def State.ppsEdge (s : State) (rising : Bool) (ten : Option Int) : State :=
  if !s.ppsRoot ∨ rising = decide (s.a 0x1203 1 = 1) then s
  else
    let half : Int := ((tNs / 2 : Nat) : Int)
    let st := (s.time_ / half) * 32768 - truncDiv (s.ai 0x1203 2 * 65536) 1000
    let sec : Int := 65536000000000
    let label := s.time.tod
    let S : Int := match label with | some n => (n : Int) | none => (st + sec / 2) / sec
    let broken := match label, s.time.todPrev with | some n, some p => decide (n ≠ p + 1) | _, _ => false
    let s := s.seto 0x1203 3 (withBit (withBit (withBit (s.o 0x1203 3) 0 true) 1 label.isSome) 2 ten.isSome)
    let s := { s with time := { s.time with
      lastPpsAt := some s.now, tod := none, todPrev := some S.toNat, lastLabel := if label.isSome then some s.now else s.time.lastLabel } }
    if broken then
      s.todErr.sourceLost
    else
      let theta := st - S * sec
      let mag := theta.natAbs
      let s := s.setoi 0x1200 0x0D (satI 32 theta)
      if s.timeState = 0 then
        if label.isNone then s
        else
          let s := ({ s with time := { s.time with i := 0, good := 0 } }.setY 0).stepTo (s.time_ - theta * (tFrac : Int))
          s.setTime 1
      else if s.timeState = 3 then
        if label.isNone then s
        else
          let s := { s with time := { s.time with holdover := none } }.clearAl Al.rootSourceLost 0
          if mag ≤ s.a 0x1200 7 * 65536 then (s.setTime 2).rootServo theta ten else s.timeUnlock
      else
        let s := s.rootServo theta ten
        if s.timeState = 1 then
          let g := if mag ≤ s.a 0x1200 6 * 65536 then s.time.good + 1 else 0
          let s := { s with time := { s.time with good := g } }
          if 4 ≤ g then (s.timeLock).clearAl Al.rootSourceLost 0 else s
        else s

/-- TOD_FRAME: the 12 bytes of a frame that has just ended (Table 12-6). -/
def State.todFrame (s : State) (l : List Nat) : State :=
  if !s.ppsRoot ∨ l.take 2 ≠ [0xA5, 0x5A] ∨ l.length ≠ 12 then s
  else
    let chk := ((l.drop 2).take 9).foldl (fun a b => a ^^^ b) 0
    let inTime := match s.time.lastPpsAt with
      | some t => decide (t + 10 * tMs ≤ s.now) && decide (s.now ≤ t + 990 * tMs) | none => true
    if chk ≠ l.getD 11 0 ∨ !inTime then s.todErr
    else
      let f := l.getD 10 0
      let s := s.setBit 0x1203 3 1 (bit f 0)
      if !bit f 0 then s
      else { s.seto 0x1200 0x10 (ofBytesBE ((l.drop 8).take 2)) with time := { s.time with
          tod := some (ofBytesBE ((l.drop 2).take 6)), parentFlags := bits f 1 2 + 4 } }

/-- ROOT_SOURCE_LOSS: no edge for 1.1 s, or no labelled pulse for 3 s (R304). -/
def State.rootLoss (s : State) : State :=
  let old := fun (x : Option Nat) (d : Nat) => match x with | some t => decide (t + d < s.now) | none => true
  if s.ppsRoot ∧ (old s.time.lastPpsAt (1100 * tMs) || old s.time.lastLabel (3 * tSec)) = true then s.sourceLost else s

/-- HOLDOVER_EXPIRY, judged as its TIME cycle of 2 ns ends, so that a source that returns in that cycle wins (R304, Table
12-8). -/
def State.holdoverEnd (s : State) : State :=
  match s.time.holdover with
  | some t => if s.timeState = 3 ∧ s.a 0x1200 9 ≠ 0xFFFFFFFF ∧ t + s.a 0x1200 9 * tSec + 2 * tNs ≤ s.now then s.timeUnlock else s
  | none => s

/-- TIME_SET (R303): a free-running root leaves lock, then its counter is stepped. -/
def State.timeSet (s : State) (v : Nat) : Nat × State :=
  if ¬ (s.role = 2 ∧ s.a 0x1200 1 = 2) then (St.timeNotFree, s)
  else
    let s := (s.setTime 1).stepTo (ofTime96 v)
    (St.ok, { s with time := { s.time with stepAt := some (s.now + 125 * tMs) } })

/-- TIME_SET_REACQUIRE, 125 ms after TIME_SET: locked again, as a root with a locked TIME PLL is. -/
def State.timeReacquire (s : State) : State :=
  match s.time.stepAt with
  | some t =>
    if t ≤ s.now ∧ s.timeState = 1 ∧ s.role = 2 ∧ s.a 0x1200 1 = 2 ∧ bit (s.o 0x2420 8) 4 then
      { s.timeLock with time := { s.timeLock.time with stepAt := none } }
    else s
  | none => s

/-! ### Pulse outputs and capture inputs (R307, R308) -/

/-- TPO_EDGE of an output: its next edge, if its time has come. -/
def State.tpoEdge (s : State) (n : Nat) : State :=
  let p := smGet Tpo.init s.time.tpo n
  let put := fun (q : Tpo) => { s with time := { s.time with tpo := amod 4 Tpo.init s.time.tpo n (fun _ => q) } }
  let mode := s.a (0x1230 + n) 1
  let lead := s.tpoLead n p.k
  if mode = 0 ∨ p.done then s
  else if p.trailing then
    if s.time_ < lead + ((s.a (0x1230 + n) 4 * (tNs / 2) : Nat) : Int) then s
    else put { p with high := false, trailing := false, k := p.k + 1, done := decide (mode = 1) }
  else if s.time_ < lead then s
  else if lead < p.from_ ∨ (s.a (0x1230 + n) 6 = 1 ∧ !s.timeLocked) then
    put { p with high := false, k := p.k + 1, done := decide (mode = 1) }
  else put { p with high := true, trailing := true }

/-- The level at the ball of an output (R307). -/
def State.tpoPin (s : State) (n : Nat) : Bool :=
  let p := smGet Tpo.init s.time.tpo n
  let on := p.high && decide (s.a (0x1230 + n) 1 ≠ 0) && (decide (s.a (0x1230 + n) 6 = 0) || s.timeLocked)
  xor on (decide (s.a (0x1230 + n) 5 = 1))

/-- A capture input. -/
def State.tci (s : State) (n : Nat) : Tci := smGet Tci.init s.time.tci n
def State.modTci (s : State) (n : Nat) (f : Tci → Tci) : State := { s with time := { s.time with tci := amod 2 Tci.init s.time.tci n f } }

/-- TCI_EDGE: an edge of input n, falling or rising (R308); one in the cycle of a step is stamped with the time before it
(Table 12-8). -/
def State.tciEdge (s : State) (n : Nat) (falling : Bool) : State :=
  let c := s.tci n
  if !bit (s.a (0x1238 + n) 1) (if falling then 1 else 0) then s
  else
    let soon := match c.lastAt with | some t => decide (s.now < t + tUs) | none => false
    if soon = true ∨ 16 ≤ c.q.length then
      let sec := s.time_ / (tSec : Int)
      let s := (s.bump (0x1238 + n) 4 1).modTci n (fun c => { c with lostSec := some sec })
      if c.lostSec = some sec then s else s.raise Al.tciOverflow 0
    else
      let half : Int := ((tNs / 2 : Nat) : Int)
      let T := (s.now : Int) + (match s.time.stepped with | some (t, base) => if t = s.now then base else s.timeBase | none => s.timeBase)
      let s := s.modTci n (fun c => { c with q := c.q ++ [((T / half) * 32768, b2n falling)], lastAt := some s.now })
      s.seto (0x1238 + n) 3 (c.q.length + 1)

/-- TCI_STAMP: the read removes the oldest stamp (R308). -/
def State.tciStamp (s : State) (n : Nat) : Nat × List Nat × State :=
  match (s.tci n).q with
  | [] => (St.ok, bytesBE 12 0, s)
  | x :: l =>
    let s := (s.modTci n (fun c => { c with q := l })).seto (0x1238 + n) 3 l.length
    (St.ok, bytesBE 12 (time96 (x.1 * (tFrac : Int))), s.seto (0x1238 + n) 5 x.2)

/-! ### The commands -/

def execSyncSend (t : Tick) (p : Nat) (s : State) : Host.Outcome State Fault Refusal := s.run t (fun s => s.syncSend p)
def execSyncReceive (t : Tick) (l : List Nat) (stamp : Int) (s : State) : Host.Outcome State Fault Refusal :=
  s.run t (fun s => s.ptpTake 0 l (fun x s => if x.mt = syncT then s.onSync x stamp else s))
def execFollowUpReceive (t : Tick) (l : List Nat) (s : State) : Host.Outcome State Fault Refusal :=
  s.run t (fun s => s.ptpTake 0 l (fun x s => if x.mt = followUpT then s.onFollowUp x else s))
def execDelayReqSend (t : Tick) (s : State) : Host.Outcome State Fault Refusal := s.run t State.delayReqSend
def execDelayReqReceive (t : Tick) (p : Nat) (l : List Nat) (stamp : Int) (s : State) : Host.Outcome State Fault Refusal :=
  s.run t (fun s => if p = 0 then s else s.ptpTake p l (fun x s => s.onDelayReq p x l stamp))
def execDelayRespReceive (t : Tick) (l : List Nat) (s : State) : Host.Outcome State Fault Refusal :=
  s.run t (fun s => s.ptpTake 0 l (fun x s => if x.mt = delayRespT then s.onDelayResp x else s))
def execAnnounceSend (t : Tick) (s : State) : Host.Outcome State Fault Refusal := s.run t State.announceSend
def execAnnounceReceive (t : Tick) (l : List Nat) (s : State) : Host.Outcome State Fault Refusal :=
  s.run t (fun s => s.ptpTake 0 l (fun x s => if x.mt = announceT then s.onAnnounce x else s))
def execExchangeTimeout (t : Tick) (s : State) : Host.Outcome State Fault Refusal := s.run t State.exchTimeout
def execPpsEdge (t : Tick) (rising : Bool) (ten : Option Int) (s : State) : Host.Outcome State Fault Refusal :=
  s.run t (fun s => s.ppsEdge rising ten)
def execTodFrame (t : Tick) (l : List Nat) (s : State) : Host.Outcome State Fault Refusal := s.run t (fun s => s.todFrame l)
def execRootSourceLoss (t : Tick) (s : State) : Host.Outcome State Fault Refusal := s.run t State.rootLoss
def execHoldoverExpiry (t : Tick) (s : State) : Host.Outcome State Fault Refusal := s.run t State.holdoverEnd
def execTimeSet (t : Tick) (r : Req) (v : Nat) (s : State) : Host.Outcome State Fault Refusal :=
  s.run t (fun s => s.writeBy r 0x1200 0x0A (objBytes 0x1200 0x0A v) State.timeSet)
def execTimeSetReacquire (t : Tick) (s : State) : Host.Outcome State Fault Refusal := s.run t State.timeReacquire
def execTpoEdge (t : Tick) (n : Nat) (s : State) : Host.Outcome State Fault Refusal := s.run t (fun s => s.tpoEdge n)
def execTciEdge (t : Tick) (n : Nat) (falling : Bool) (s : State) : Host.Outcome State Fault Refusal :=
  s.run t (fun s => s.tciEdge n falling)
def execTciStamp (t : Tick) (r : Req) (n : Nat) (s : State) : Host.Outcome State Fault Refusal :=
  s.run t (fun s => s.readBy r (0x1238 + n) 2 (fun s => s.tciStamp n))
def execTimeMissExpiry (t : Tick) (s : State) : Host.Outcome State Fault Refusal := s.run t State.timeMiss

end Sys2Proof.Machine
end

