-- ==== Sys2Proof/Machine/Hier.lean ====
section
/-!
DEFINITION. Addresses, summaries, alarm records and proxies in the tree (chapter 13).
-/

namespace Sys2Proof.Machine

/-! ### Addresses (R317 to R320) -/

/-- CHILD_ADDR of a child port: written by the host, or computed by the heap rule (R319). -/
def State.childAddr (s : State) (p : Nat) : Nat :=
  if s.a 0x1100 3 = 1 then (if s.addr = 0 ∨ s.role = 0 then 0 else 2 * s.addr + (p - 1)) else bits (s.a (0x1100 + p) 1) 0 18

/-- The immediate set of a child port's address and routes (R343, Table 14-3), with the routes that are to be in force: all of
it applies if it is consistent, or it is held. In automatic mode there is no such set. -/
def State.childSet (s : State) (p : Nat) (routes : List (Nat × Nat)) : State :=
  let i := 0x1100 + p
  let a := bits (s.o i 1) 0 18
  let ok := decide (s.a 0x1100 3 = 1 ∨ a = 0) || routes.any (fun x => inRoute x.2 a)
  let s := if ok then
      let s := routes.foldl (fun s x => s.seta i x.1 x.2) { s with held := s.held.filter (fun x => x.1 / 256 != i) }
      s.seta i 1 (s.o i 1)
    else { s with held := routes.foldl (fun m x => smInsert m (key i x.1) x.2) s.held }
  s.alarmIf Al.cfgMismatch i (!ok)

/-- A route of a child port that is to be in force: held, or in force already. -/
def State.routeDue (s : State) (p j : Nat) : Nat :=
  (smFind s.held (key (0x1100 + p) j)).getD (s.a (0x1100 + p) j)

/-- The four routes of a child port that are to be in force. -/
def State.routesDue (s : State) (p : Nat) : List (Nat × Nat) := [6, 7, 8, 9].map (fun j => (j, s.routeDue p j))

/-- In automatic mode a manager at depth 16 or deeper assigns nothing (R319). -/
def State.tooDeepAuto (s : State) : Bool :=
  decide (s.a 0x1100 3 = 1 ∧ s.role ≠ 2 ∧ s.o 0x1100 4 ≠ 0xFF ∧ 16 ≤ s.o 0x1100 4)

/-- The SRC last seen from a child, and the alarm of R320. -/
def State.seenSrc (s : State) (p src : Nat) : State :=
  if p = 0 then s
  else
    let s := s.seto (0x1100 + p) 2 src
    if src ≠ 0 ∧ src ≠ s.childAddr p then
      let s := s.modPort p (fun q => { q with mismatchGone := none })
      if s.raised Al.childAddrMismatch p then s else s.raise Al.childAddrMismatch p
    else if s.raised Al.childAddrMismatch p ∧ (s.port p).mismatchGone.isNone then
      s.modPort p (fun q => { q with mismatchGone := some s.now })
    else s

/-- The lowest tag that the device's own firmware may use (R354: 64 to 95). -/
def State.freeTag (s : State) : Option Nat :=
  ((List.range 32).map (· + 64)).find? (fun t => !(s.mTags.any (fun m => decide (m.tag = t))))

/-- ADDR_ASSIGN on a child port: one-hop OBJ_WRITE of NODE_ADDR with DEST 0x00000, every 10 ms until the child's SRC equals
CHILD_ADDR (R318, R319). -/
def State.addrAssign (s : State) (p : Nat) : State :=
  let a := s.childAddr p
  let wait := match (s.port p).addrAt with | some t => decide (s.now < t + 10 * tMs) | none => false
  if p = 0 ∨ s.role = 0 ∨ !s.active p ∨ s.o (0x1100 + p) 2 ≠ 0 ∨ wait = true then s
  else if s.tooDeepAuto then
    if (s.port p).addrAt.isSome then s
    else (s.modPort p (fun q => { q with addrAt := some s.now })).raise Al.addrAutoDepth p
  else if a = 0 then s
  else
    match s.freeTag with
    | none => s
    | some tag =>
      let pay := bytesBE 4 (mWord0 2 0 4) ++ bytesBE 4 (objWord 0x1100 2) ++ bytesBE 4 a
      let s := { s with mTags := s.mTags ++ [MTag.mk 0 tag 0 (mWord0 2 0 4) (objWord 0x1100 2) p s.now false] }
      (s.modPort p (fun q => { q with addrAt := some s.now })).send p
        ⟨0, Cls.m, 0, s.addr, tag, 0, false, false, false, false, false, pay⟩ true none

/-- What NODE_ADDR_WRITE is answered: a one-hop write is taken only from the peer of port U while the node has no address
(R318); any other write that meets an assignment at its very instant comes second and is refused (Table 13-7). The address is
set once the response has left (R317), so the answer carries the old SRC. -/
def State.nodeAddrRule (s : State) (r : Req) (one : Bool) : Nat :=
  if (one ∧ (r.kind ≠ 2 ∨ r.port ≠ 0 ∨ s.addr ≠ 0)) ∨ (¬ one ∧ s.hier.assigned = some s.now) then St.addrSet else St.ok

/-- Whether a request is executed and its write accepted. -/
def State.writeTaken (s : State) (r : Req) (i sub : Nat) (data : List Nat) (rule : State → Nat → Nat) : Option Nat :=
  if s.cpLost ∨ s.cpAbsent.isSome ∨ s.recovery then none
  else match s.judgeW r i sub data with
    | (0, v) => if rule s v = 0 then some v else none
    | _ => none

/-- NODE_ADDR_WRITE. -/
def State.nodeAddrWrite (s : State) (r : Req) (one : Bool) (data : List Nat) : State :=
  let taken := s.writeTaken r 0x1100 2 data (fun s _ => s.nodeAddrRule r one)
  if one && s.cpAbsent.isSome && !s.cpLost then s.wait ⟨r, 2, objWord 0x1100 2, data.length, data, s.now, true⟩
  else
    let s := s.writeBy r 0x1100 2 data (fun s _ => (s.nodeAddrRule r one, s))
    match taken with
    | some v =>
      let s := s.seto 0x1100 2 (v % 2 ^ 18)
      if one then { s with hier := { s.hier with assigned := some s.now } } else s
    | none => s

/-! ### Summaries and records (R324, R325, R328) -/

/-- SUBTREE_NODES and SUBTREE_DEPTH. -/
def State.subtreeNodes (s : State) : Nat :=
  1 + (if s.active 1 then s.o 0x1101 4 else 0) + (if s.active 2 then s.o 0x1102 4 else 0)
def State.subtreeDepth (s : State) : Nat :=
  let f := fun p => if s.active p ∧ s.o (0x1100 + p) 4 ≠ 0 then s.o (0x1100 + p) 5 + 1 else 0
  max (f 1) (f 2)

/-- Class A goes on port U; a root's only to a baseband node (R325). -/
def State.classAUp (s : State) : Bool := s.active 0 && (decide (s.role ≠ 2) || decide (s.o 0x6000 9 = 3))

/-- SUMMARY_SEND: on a change, at most once a millisecond, and once a second; not while the control processor is absent
past 30 ms (R325, R328). STREAM_OBJ of a summary is not stated: free. -/
def State.summarySend (s : State) : State :=
  let x := (s.summary, s.subtreeNodes, s.subtreeDepth)
  let age := match s.hier.at_ with | some t => s.now - t | none => tSec
  if !s.classAUp ∨ s.cpLost ∨ age < tMs ∨ (s.hier.sent = some x ∧ age < tSec) then s
  else
    let d := s.draw 16
    let s := { d.2 with hier := { s.hier with sent := some x, at_ := some s.now } }
    s.send 0 (s.mkPkt Config.classADest Cls.a 0 d.1
      (bytesBE 4 (2 * 2 ^ 30 + s.addr) ++ bytesBE 4 (x.2.2 % 64 * 2 ^ 26 + x.2.1 % 2 ^ 18) ++ bytesBE 8 x.1)) true none

/-- SUMMARY_RECEIVE from a child (Table 13-5). -/
def State.summaryIn (s : State) (p : Nat) (l : List Nat) : State :=
  let w1 := payWord l 1
  ((s.seto (0x1100 + p) 3 (payWord l 2 * 2 ^ 32 + payWord l 3)).seto (0x1100 + p) 4 (bits w1 0 18)).seto (0x1100 + p) 5 (bits w1 26 6)

/-- ALARM_RECORD_RECEIVE from a child: forwarded within ALARM_RATE, or logged at the root (R325). -/
def State.recordIn (s : State) (p code : Nat) (l : List Nat) : State :=
  let w0 := payWord l 0
  let fwd := fun (s : State) => s.send 0 (s.mkPkt Config.classADest Cls.a 0 code l) true none
  if s.role = 2 then
    let s := s.logAdd ⟨code, bits w0 30 2, bits w0 0 18, payWord l 1, payWord l 2, payWord l 3⟩
    if s.o 0x6000 9 = 3 then fwd s else s
  else if s.a 0x1100 9 = 0 then s
  else
    let ms := s.time_ / (tMs : Int)
    let n := if (s.port p).recordsAt = ms then (s.port p).recordsMs else 0
    if s.a 0x1100 0x0A ≤ n then s.bump 0x1100 0x0B 1
    else fwd (s.modPort p (fun q => { q with recordsMs := n + 1, recordsAt := ms }))

/-- A class A packet from a child is consumed (Tables 13-4, 13-5): LEN is 4, KIND 3 is reserved. -/
def State.classA (s : State) (p : Nat) (k : Pkt) : State :=
  if k.payload.length ≠ 16 then s
  else
    let kind := bits (payWord k.payload 0) 30 2
    if kind = 2 then s.summaryIn p k.payload else if kind = 3 then s else s.recordIn p k.stream k.payload

/-- HIERARCHY_ALARM_CLEAR: ROLE_CONFLICT (p 0) or CHILD_ADDR_MISMATCH of a child port, its condition absent for 1 s
(R331). -/
def State.hierClear (s : State) (p : Nat) : State :=
  match (s.port p).mismatchGone with
  | some t =>
    if s.now < t + tSec then s
    else (s.modPort p (fun q => { q with mismatchGone := none })).clearAl
      (if p = 0 then Al.roleConflict else Al.childAddrMismatch) (if p = 0 then 0 else p)
  | none => s

/-! ### Proxies (R257, R323) -/

/-- The payload of a request as it is sent on. -/
def MReq.payload (m : MReq) : List Nat := pad4 (bytesBE 4 (m.op * 2 ^ 28 + m.count) ++ bytesBE 4 m.w1 ++ m.data)

/-- A request goes to the child, with a record of SRC and TAG. -/
def State.proxySend (s : State) (p : Nat) (m : MReq) : State :=
  let s := s.modPort p (fun q => { q with proxies := q.proxies ++ [⟨m.req, m.op * 2 ^ 28 + m.count, m.w1, s.now⟩] })
  s.send p ⟨s.childAddr p, Cls.m, m.req.prio, m.req.id, m.req.tag, 0, false, false, false, false, false, m.payload⟩ true none

/-- A request for the own child of a port: forwarded, queued, or answered PORT_BUSY. -/
def State.proxyIn (s : State) (p : Nat) (m : MReq) : State :=
  let q := s.port p
  if q.proxies.length < 96 ∧ q.proxyQ = [] then s.proxySend p m
  else if q.proxyQ.length < 16 then s.modPort p (fun q => { q with proxyQ := q.proxyQ ++ [m] })
  else s.answer m.req m.op m.w1 St.portBusy []

/-- PROXY_FORWARD: a queued request gets a free record. -/
def State.proxyForward (s : State) (p : Nat) : State :=
  match (s.port p).proxyQ with
  | m :: l => if (s.port p).proxies.length < 96 then (s.modPort p (fun q => { q with proxyQ := l })).proxySend p m else s
  | [] => s

/-- PROXY_TIMEOUT of the record of SRC and TAG on a child port (R323). -/
def State.proxyTimeout (s : State) (p src tag : Nat) : State :=
  match (s.port p).proxies.find? (fun r => decide (r.req.id = src ∧ r.req.tag = tag)) with
  | some r =>
    if s.now < r.at_ + s.a 0x6220 1 * tMs then s
    else
      let s := s.modPort p (fun q => { q with proxies := q.proxies.filter (fun x => decide (x ≠ r)) })
      (s.bump 0x1100 0x0D 1).answer r.req (bits r.w0 28 4) r.w1 St.timeout []
  | none => s

/-! ### The commands -/

def execAddrAssign (t : Tick) (p : Nat) (s : State) : Host.Outcome State Fault Refusal := s.run t (fun s => s.addrAssign p)
def execNodeAddrWrite (t : Tick) (r : Req) (one : Bool) (v : Nat) (s : State) : Host.Outcome State Fault Refusal :=
  s.run t (fun s => s.nodeAddrWrite r one (objBytes 0x1100 2 v))
def execSummarySend (t : Tick) (s : State) : Host.Outcome State Fault Refusal := s.run t State.summarySend
def execSummaryReceive (t : Tick) (p : Nat) (l : List Nat) (s : State) : Host.Outcome State Fault Refusal :=
  s.run t (fun s => if p = 0 ∨ l.length ≠ 16 ∨ bits (payWord l 0) 30 2 ≠ 2 then s else s.summaryIn p l)
def execAlarmRecordReceive (t : Tick) (p code : Nat) (l : List Nat) (s : State) : Host.Outcome State Fault Refusal :=
  s.run t (fun s => if p = 0 ∨ l.length ≠ 16 ∨ 2 ≤ bits (payWord l 0) 30 2 then s else s.recordIn p code l)
def execProxyForward (t : Tick) (p : Nat) (s : State) : Host.Outcome State Fault Refusal := s.run t (fun s => s.proxyForward p)
def execProxyTimeout (t : Tick) (p src tag : Nat) (s : State) : Host.Outcome State Fault Refusal :=
  s.run t (fun s => s.proxyTimeout p src tag)
def execHierarchyAlarmClear (t : Tick) (p : Nat) (s : State) : Host.Outcome State Fault Refusal := s.run t (fun s => s.hierClear p)

end Sys2Proof.Machine
end

