-- ==== Sys2Proof/Machine/Packets.lean ====
section
/-!
DEFINITION. Packets at a port: link checks and SEQ, routing, egress, flow control, flush, and the transactions of a
requester (R246 to R259, R321 to R323).
-/

namespace Sys2Proof.Machine

/-! ### Egress of forwarded packets (R257, R264) -/

/-- The close of a class C or D packet's window, on this node's own time (R257): a section's last covered symbol. -/
def State.windowEnd (s : State) (k : Pkt) : Int :=
  if k.cls = Cls.d then
    let x := dPrefix k.payload
    let c := match s.pktPlaces 0 k.stream x.air.sfn x.air.slot with | y :: _ => y.1 | [] => 0
    let y := s.pktSlot 0 c x.air.sfn x.air.slot
    s.tAir y.1 y.2.1 x.air.sym - closeU
  else
    let x := cPrefix k.payload
    let c := match s.pktPlaces x.dir k.stream x.sfn x.slot with | y :: _ => y.1 | [] => 0
    let y := s.pktSlot x.dir c x.sfn x.slot
    s.tAir y.1 y.2.1 x.symEnd - closeC

/-- A packet of a downlink stream that is shed on a port: class D, or class C of the downlink direction, for a stream ID
names a different stream in each direction (R264, R489). -/
def State.isShed (s : State) (q : Nat) (k : Pkt) : Bool :=
  (s.port q).lostTx.isSome && (decide (k.cls = Cls.d) || decide (k.cls = Cls.c) && decide ((cPrefix k.payload).dir = 0)) &&
    (s.port q).shed.any (fun j =>
      let w := s.a (0x3010 + j / 16) (j % 16 + 1)
      bit w 16 && decide (w % 2 ^ 16 = k.stream))

/-- A class C or D packet goes on to a child port, or is discarded for it alone. -/
def State.forward (s : State) (q : Nat) (k : Pkt) (inp : Nat) : State :=
  if !s.active q then s
  else
    let s := s.modPort q (fun x => { x with carried := if k.cls ∈ x.carried then x.carried else k.cls :: x.carried })
    let s := if k.cls = Cls.d then s.modPort q (fun x => { x with
      dUsed := smSet 0 x.dUsed k.stream (smGet 0 x.dUsed k.stream + wireLen k.payload.length) }) else s
    if s.isShed q k then s.bump (0x6010 + q) 0x0C 1
    else s.modPort q (fun x => { x with egress := x.egress ++ [⟨k, false, some (s.windowEnd k), s.now, some inp⟩] })

/-- A class M packet goes on to a port; this hop numbers it (R249). -/
def State.forwardM (s : State) (q : Nat) (k : Pkt) (inp : Nat) : State :=
  s.modPort q (fun x => { x with egress := x.egress ++ [⟨k, true, none, s.now, some inp⟩] })

/-- Sends on each FLU whose place in the queue has come: the forwarded packets that preceded it have left (R259). -/
def State.fluRelease (s : State) (q : Nat) : State :=
  let due := fun (x : Nat × Nat × List EgItem) => x.2.2.all (fun e => decide (e ∉ (s.port q).egress))
  ((s.port q).fluWait.filter due).foldl (fun s x => s.sendCtl q ([0x7C, x.1, 0] ++ bytesBE 2 x.2.1))
    (s.modPort q (fun y => { y with fluWait := y.fluWait.filter (fun x => !due x) }))

/-- Drops items of an egress queue, counted in an object of its port (FWD_DISCARD or SHED_PKTS). -/
def State.dropItems (s : State) (q sub : Nat) (f : EgItem → Bool) : State :=
  let n := ((s.port q).egress.filter f).length
  ((s.modPort q (fun x => { x with egress := x.egress.filter (fun e => !f e) })).bump (0x6010 + q) sub n).fluRelease q

/-- A copy whose window has closed before it started (R257). -/
def State.expired (s : State) (e : EgItem) : Bool :=
  !e.own && (match e.close with | some c => decide (c < s.time_) | none => false)

/-- FWD_WINDOW_DISCARD on a child port. -/
def State.fwdDiscard (s : State) (q : Nat) : State := (s.dropItems q 0x0B s.expired).fcJudge

/-- While the D and U pool is at DU_HIGH, the oldest packets that a child egress in HOLD has not read go, for that child
only (R257). -/
def State.poolRelief (s : State) (p : Nat) : Nat → State
  | 0 => s
  | n + 1 =>
    if s.fcOcc p 2 < 1024 * s.a (0x6200 + p) 5 then s
    else
      let old := fun q => if (smGet FcState.init (s.port q).tx 2).held then
        (s.port q).egress.find? (fun e => decide (e.inp = some p ∧ e.pkt.cls = Cls.d)) else none
      match old 1, old 2 with
      | some a, some b =>
        let q := if b.arrived < a.arrived then 2 else 1
        let e := if q = 1 then a else b
        State.poolRelief (s.dropItems q 0x0B (fun x => decide (x = e))) p n
      | some a, none => State.poolRelief (s.dropItems 1 0x0B (fun x => decide (x = a))) p n
      | none, some b => State.poolRelief (s.dropItems 2 0x0B (fun x => decide (x = b))) p n
      | none, none => s

/-! ### Ingress (R247 to R249) -/

/-- A link check fails: counted, with LINK_ERR once per slot (R270). -/
def State.linkErr (s : State) (p sub : Nat) : State := (s.bump (0x6010 + p) sub 1).slotAlarm Al.linkErr p

/-- The checks of Table 10-9 up to the CRC, on the bytes between SOP and EOP or ABT. -/
def State.linkChecks (s : State) (p : Nat) (l : List Nat) (eop : Bool) : Option Pkt × State :=
  if l.length < 16 then (none, s.linkErr p 5)
  else if crc16 (l.take 14) ≠ ofBytesBE ((l.drop 14).take 2) then (none, s.linkErr p 3)
  else
    let k := pktOf l
    let len := bits (payWord l 1) 0 12
    if 5 < k.cls then (none, s.linkErr p 6)
    else if 2048 < len ∨ l.length ≠ 16 + 4 * len + 4 then (none, s.linkErr p 5)
    else if !eop then (none, s.bump (0x6010 + p) 7 1)
    else if crc32 (l.take (16 + 4 * len)) ≠ ofBytesBE (l.drop (16 + 4 * len)) then
      let s := s.linkErr p 4
      -- a copy in progress is ended with ABT on each child egress that the packet goes to
      (none, if p = 0 ∧ (k.cls = Cls.c ∨ k.cls = Cls.d) then
        [1, 2].foldl (fun s q => if s.active q ∧ (s.childRoute k.dest = none ∨ s.childRoute k.dest = some q) ∧ k.dest ≠ 0
          then s.sendCtl q [0xFE] else s) s else s)
    else (some k, s)

/-- The key of a combination of SRC, CLASS and STREAM_OBJ (R249). -/
def comboKey (k : Pkt) : Nat := (k.src * 8 + k.cls) * 65536 + k.stream

/-- The SEQ check of R249 for classes T, M and C. -/
def State.seqCheck (s : State) (p : Nat) (k : Pkt) : Bool × State :=
  if ¬ (k.cls = Cls.t ∨ k.cls = Cls.m ∨ k.cls = Cls.c) then (true, s)
  else
    let key := comboKey k
    let take := fun (s : State) => s.modPort p (fun q => { q with lastSeq := smInsert q.lastSeq key (k.seq + 1) })
    let l := smGet 0 (s.port p).lastSeq key
    if l = 0 ∨ (k.first ∧ !k.replay) then (true, take s)
    else
      let step := (k.seq + 65536 - (l - 1)) % 65536
      if step = 1 then (true, take s)
      else if 2 ≤ step ∧ step ≤ 65280 then (true, take (s.bump (0x6010 + p) 8 1))
      else (false, s.bump (0x6010 + p) 9 1)

/-- A packet that finds its class's space full (R250, R251). -/
def State.full (s : State) (p : Nat) (k : Pkt) : Bool :=
  let occ := if k.cls = Cls.d ∨ k.cls = Cls.u then s.fcOcc p 2 else s.occupancy p k.cls
  decide (reservation k.cls < occ + bufSize k.payload.length)

/-! ### Requests and responses (R254 to R256, R322, R323) -/

/-- The requester of a class M packet. -/
def reqOf (p : Nat) (k : Pkt) (bcast : Bool) : Req := ⟨2, k.src, p, k.stream % 128, k.prio, bcast⟩

/-- A request for this node joins the M request queue, unless its tag is refused (R255). -/
def State.mRequest (s : State) (p : Nat) (k : Pkt) (bcast : Bool) : State :=
  let m := mReqOf (reqOf p k bcast) s.now (decide (k.dest = 0)) k.payload
  let same := fun (x : MReq) => decide (x.req.kind = 2 ∧ x.req.id = k.src ∧ x.req.tag = m.req.tag) && !x.req.bcast
  if 95 < m.req.tag then s.answer m.req m.op m.w1 St.badTag []
  else if !bcast ∧ (s.mq.any same ∨ s.inService.any same) then
    let keep := s.inService
    { s.answer m.req m.op m.w1 St.tagBusy [] with inService := keep }
  else { s with mq := s.mq ++ [m] }

/-- A transaction of this node that a response answers. -/
def answers (k : Pkt) (m : MTag) : Bool := decide (m.tag = k.stream % 128 ∧ (m.dest = k.src ∨ m.dest = 0))

/-- A response is handed to the requester. -/
def State.deliver (s : State) (k : Pkt) (m : MTag) : State :=
  if m.lhp then s.lhpPush (lhpFrame 2 k.prio m.tag k.src k.payload) else s

/-- The tags that M_TIMEOUT has freed in the present cycle. -/
def State.freedNow (s : State) : List (MTag × Nat) :=
  s.hier.freed.filter (fun x => decide (timeCycle (x.2 : Int) = timeCycle (s.now : Int)))

/-- M_RESPONSE_RECEIVE: a response for this node frees its tag, or is late (R255); one in the very cycle of the timeout is
taken (Table 10-18). -/
def State.mResponse (s : State) (p : Nat) (k : Pkt) : State :=
  match s.mTags.find? (answers k) with
  | some m => { s with mTags := s.mTags.filter (fun x => decide (x ≠ m)) }.deliver k m
  | none =>
    match s.freedNow.find? (fun x => answers k x.1) with
    | some x => { s with hier := { s.hier with freed := s.freedNow.filter (fun y => decide (y ≠ x)) } }.deliver k x.1
    | none => s.bump (0x6010 + p) 0x12 1

/-- A class M packet that is discarded by Table 13-3. -/
def State.routeMiss (s : State) : State := s.bump 0x1100 0x0C 1

/-- A request that cannot be routed is answered; a response is discarded. -/
def State.noRoute (s : State) (p : Nat) (k : Pkt) : State :=
  if k.resp then s.routeMiss
  else
    let m := mReqOf (reqOf p k false) s.now false k.payload
    s.answer m.req m.op m.w1 St.noRoute []

/-- A class M packet is sent towards a child port (R323). -/
def State.towardChild (s : State) (p q : Nat) (k : Pkt) : State :=
  if !s.active q then s.noRoute p k
  else if !k.resp ∧ k.dest = s.childAddr q then s.proxyIn q (mReqOf (reqOf p k false) s.now false k.payload)
  else s.forwardM q k p

/-- A response from the own child of a port passes only while its record is held (R323). -/
def State.responseUp (s : State) (p : Nat) (k : Pkt) (f : State → State) : State :=
  if p ≠ 0 ∧ k.resp ∧ k.src = s.childAddr p then
    match (s.port p).proxies.find? (fun r => decide (r.req.id = k.dest ∧ r.req.tag = k.stream % 128)) with
    | some r => f (s.modPort p (fun q => { q with proxies := q.proxies.filter (fun x => decide (x ≠ r)) }))
    | none => s.bump (0x6010 + p) 0x12 1
  else f s

/-- Class M at a port (Table 13-3). -/
def State.routeM (s : State) (p : Nat) (k : Pkt) : State :=
  let write := decide (bits (payWord k.payload 0) 28 4 = 2 ∨ bits (payWord k.payload 0) 28 4 = 4)
  if k.dest = s.addr ∧ s.addr ≠ 0 then (if k.resp then s.mResponse p k else s.mRequest p k false)
  else if k.dest = 0 then
    if p = 0 then (if k.resp then s.mResponse p k else s.mRequest p k false) else s.routeMiss
  else if k.dest = 0x3FFFF then
    if p ≠ 0 ∨ k.resp ∨ !write then s.routeMiss
    else
      let s := s.mRequest p k true
      [1, 2].foldl (fun s q => if s.active q then s.forwardM q k p else s) s
  else match s.childRoute k.dest with
    | some q => s.responseUp p k (fun s => s.towardChild p q k)
    | none =>
      if p = 0 then s.noRoute p k
      else if !s.active 0 then s.noRoute p k
      else s.responseUp p k (fun s => s.forwardM 0 k p)

/-- The node itself has taken in a class C or D packet: the ingress buffer of port U keeps it until the touchstone of its symbol,
or the close of the window of the last symbol it was held for (R257). -/
def State.keepOwn (s : State) (k : Pkt) (until_ : Option Int) : State :=
  match until_ with
  | some c => s.modPort 0 (fun q => { q with
      keep := s.stillKept q.keep ++ [⟨k, true, some c, s.now, some 0⟩] })
  | none => s

/-- Classes C and D at a port (Table 13-3). -/
def State.routeCD (s : State) (p : Nat) (k : Pkt) : State :=
  let use := fun (s : State) => if k.cls = Cls.d then (s.dlPacket k).keepOwn k (s.dlKept k)
    else (s.sectionArrives k).keepOwn k (s.sectKept k)
  let all := fun (s : State) => [1, 2].foldl (fun s q => s.forward q k p) s
  if p ≠ 0 then s.routeMiss
  else if k.dest = s.addr ∨ k.dest = 0x3FFFF then (if k.dest = 0 then use s else all (use s))
  else if k.dest = 0 then use s
  else match s.childRoute k.dest with
    | some q => s.forward q k p
    | none => all (use s)

/-- A class A packet: from a child, consumed; while the control processor is absent past 30 ms it waits (R324, R328). -/
def State.takeA (s : State) (p : Nat) (k : Pkt) : State :=
  if p = 0 then s
  else if s.cpLost then s.modPort p (fun q => { q with aWait := q.aWait ++ [k] })
  else s.classA p k

/-- A packet that has passed the link goes to its class. -/
def State.toClass (s : State) (p : Nat) (k : Pkt) (stamp : Int) : State :=
  if k.cls = Cls.t then (s.seenSrc p k.src).ptpReceive p k.payload stamp
  else if k.cls = Cls.a then (s.seenSrc p k.src).takeA p k
  else if k.cls = Cls.u then (if p = 0 then s else (s.seenSrc p k.src).ulChildPacket p k)
  else if k.cls = Cls.m then s.routeM p k
  else s.routeCD p k

/-- PACKET_RECEIVE on a port: what stands between SOP and EOP (or ABT), and the arrival stamp of SOP (R293). A value of 256 and
above is a K symbol, 256 more than its code: inside a packet it breaks Table 10-1, so it is discarded with the packet and
counts in CODE_ERR (R243). -/
def State.packetReceive (s : State) (p : Nat) (l : List Nat) (eop : Bool) (stamp : Int) : State :=
  let bad := (l.filter (fun b => decide (256 ≤ b))).length
  if !s.active p then s
  else if bad ≠ 0 then (s.bump (0x6010 + p) 2 bad).slotAlarm Al.linkErr p
  else match s.linkChecks p l eop with
    | (none, s) => s
    | (some k, s) =>
      let c := s.seqCheck p k
      if !c.1 then c.2
      else
        let s := c.2.bump (0x6010 + p) 1 1
        let s := if k.cls = Cls.d ∨ k.cls = Cls.u then s else s.modPort p (fun q => { q with oRx := q.oRx + wireLen k.payload.length })
        if s.full p k then s.bump (0x6010 + p) 0x0A 1
        else
          let s := s.toClass p k stamp
          (s.poolRelief p ((s.port 1).egress.length + (s.port 2).egress.length)).fcJudge

/-! ### Egress (R249, R250, R263, R297) -/

/-- Egress rank (Table 10-10). -/
def egRank (cls : Nat) : Nat :=
  if cls = Cls.t then 0 else if cls = Cls.a then 1 else if cls = Cls.c then 2 else if cls = Cls.m then 3 else 4

/-- Classes that the replay store keeps. -/
def replayed (cls : Nat) : Bool := decide (cls = Cls.t ∨ cls = Cls.m ∨ cls = Cls.c)

/-- The sender holds a class (Table 10-11). -/
def State.holds (s : State) (p cls : Nat) : Bool :=
  match fcClass cls with | some k => (smGet FcState.init (s.port p).tx k).held | none => false

/-- The next scheduled U departure (R44), that of a packet which has its place now and still waits for the wire included. -/
def State.nextDep (s : State) : Option Int :=
  ((s.ul.own.filter (fun o => !o.gone)).map (fun o => s.tDep o.e o.p) ++
    ((s.port 0).egress.filter (fun e => decide (e.pkt.cls = Cls.u))).filterMap (fun e => e.close)).foldl
    (fun a d => match a with | none => some d | some b => some (if d < b then d else b)) none

/-- Packets of a combination that a port has sent in the last 2 ms (R249). -/
def State.recent (s : State) (p key : Nat) : Nat :=
  ((s.port p).sentAt.filter (fun x => decide (x.1 = key ∧ s.now < x.2 + 2 * tMs))).length

/-- A packet may start on a port now: its class is not held, at most 255 packets of its combination leave within 2 ms (R249),
and on port U it ends before the next U departure (R250). -/
def State.mayStart (s : State) (p : Nat) (k : Pkt) : Bool :=
  !s.holds p k.cls && decide (s.recent p (comboKey k) < 255) && (decide (p ≠ 0) || decide (k.cls = Cls.u) ||
    (match s.nextDep with
     | some d => decide (s.time_ + (s.wireTime p (s.txWidth p) k.payload.length : Int) ≤ d)
     | none => true))

/-- Bytes of the replay store (R263). -/
def replayMax : Nat := 262144

/-- Keeps the newest packets of a replay store within its size; answers what remains and what is gone. -/
def trimReplay : List ReplayItem → Nat → List ReplayItem × List Nat
  | [], _ => ([], [])
  | r :: l, total =>
    if total ≤ replayMax then (r :: l, [])
    else let x := trimReplay l (total - (20 + r.pkt.payload.length)); (x.1, r.epm :: x.2)

/-- A packet leaves: its number (R249), the stamp of a class T departure (R297), its place in the replay store (R263). -/
def State.depart (s : State) (p : Nat) (k : Pkt) (number : Bool) : State :=
  let key := comboKey k
  let n := smGet 0 (s.port p).txSeq key
  let k1 := if !number then k
    else if k.cls = Cls.t then { k with first := decide (n = 0) }
    else { k with seq := (n - 1) % 65536, first := decide (n = 0) }
  let k2 := if k.cls = Cls.t then { k1 with payload := stampPtp (s.stampOut p) k1.payload } else k1
  let s := if number then s.modPort p (fun q => { q with txSeq := smInsert q.txSeq key ((k2.seq + 1) % 65536 + 1) }) else s
  let s := match s.time.exch with
    | some e => if p = 0 ∧ k.cls = Cls.t ∧ e.reqSeq = some k2.seq ∧ k2.payload.getD 0 0 % 16 = delayReqT then
        { s with time := { s.time with exch := some { e with t3 := some (s.stampOut p) } } } else s
    | none => s
  let w := wireLen k2.payload.length
  let s := s.modPort p (fun q => { q with
    lastTx := some k2, busyUntil := s.time_ + (s.wireTime p (s.txWidth p) k2.payload.length : Int)
    sentAt := (key, s.now) :: q.sentAt.filter (fun x => decide (s.now < x.2 + 2 * tMs))
    oUsed := if k2.cls = Cls.d ∨ k2.cls = Cls.u then q.oUsed else q.oUsed + w })
  if replayed k2.cls then
    s.modPort p (fun q =>
      let l := q.replay ++ [⟨{ k2 with replay := false }, q.epmTx⟩]
      let x := trimReplay l (listSum (l.map (fun r => 20 + r.pkt.payload.length)))
      { q with replay := x.1, replayGone := (q.replayGone ++ x.2).drop (q.replayGone.length + x.2.length - 4096) })
  else s

/-- The item of the highest rank that may start, the first of its rank. -/
def State.pickItem (s : State) (p : Nat) (l : List EgItem) : Option EgItem :=
  ((l.filter (fun e => s.mayStart p e.pkt)).foldl (fun (a : Option EgItem) e =>
    match a with
    | none => some e
    | some b => if egRank e.pkt.cls < egRank b.pkt.cls then some e else some b) none)

/-- A U packet that waits in HOLD past its departure is discarded (10_array_link.md, "Why no wait lasts for ever"). -/
def State.overdue (s : State) (p : Nat) (e : EgItem) : Bool :=
  decide (e.pkt.cls = Cls.u) && s.holds p Cls.u && (match e.close with | some c => decide (c < s.time_) | none => false)

/-- An item of the egress queue starts. -/
def State.startItem (s : State) (p : Nat) (e : EgItem) : State :=
  (((s.modPort p (fun q => { q with egress := q.egress.erase e })).depart p e.pkt e.own).fluRelease p).fcJudge

/-- EGRESS_PACKET_START at a packet boundary (R250): shed and expired copies are dropped, a replay goes before any new T, M
or C packet (R263). -/
def State.egressStart (s : State) (p : Nat) : State :=
  if !s.active p ∨ s.time_ < (s.port p).busyUntil then s
  else
    let s := (s.dropItems p 0x0C (fun e => !e.own && s.isShed p e.pkt)).dropItems p 0x0B s.expired
    let s := s.modPort p (fun x => { x with egress := x.egress.filter (fun e => !s.overdue p e) })
    let q := s.port p
    let fresh := if q.pendReplay = [] then q.egress else q.egress.filter (fun e => !replayed e.pkt.cls)
    let next := s.pickItem p fresh
    match q.pendReplay with
    | k :: l =>
      let first := match next with | some e => decide (egRank k.cls ≤ egRank e.pkt.cls) | none => true
      if first = true ∧ s.mayStart p k = true then ((s.modPort p (fun q => { q with pendReplay := l })).depart p k false).fcJudge
      else match next with
        | some e => s.startItem p e
        | none => s
    | [] => match next with
      | some e => s.startItem p e
      | none => s

/-! ### Flow control (Table 10-11) -/

/-- The class index an FC sequence names. -/
def fcIndex (c : Nat) : Option Nat := if c % 8 = 1 then some 0 else if c % 8 = 2 then some 1 else if c % 8 = 3 then some 2 else none

/-- FC_XOFF_RECEIVE with its class and state bytes: any other state byte is ignored. -/
def State.xoff (s : State) (p c st : Nat) : State :=
  match fcIndex c with
  | some k =>
    if st ≠ 0xF0 ∨ !s.active p then s
    else
      let f := smGet FcState.init (s.port p).tx k
      if f.held then s.modTx p k (fun f => { f with last := s.now })
      else (s.modTx p k (fun _ => ⟨true, s.now, s.now, false⟩)).bump (0x6200 + p) 9 1
  | none => s

/-- FC_XON_RECEIVE. -/
def State.xon (s : State) (p c st : Nat) : State :=
  match fcIndex c with
  | some k => if st ≠ 0x0F then s else s.modTx p k (fun _ => fcGo)
  | none => s

/-- FC_XOFF_REFRESH: 10 µs since the last XOFF sent, and the class still above its low watermark; one that has fallen to it
meanwhile goes to XON (Table 10-11). -/
def State.xoffRefresh (s : State) (p k : Nat) : State :=
  let f := smGet FcState.init (s.port p).rx k
  if f.held ∧ s.fcOcc p k ≤ 1024 * s.a (0x6200 + p) (2 * k + 2) then s.fcJudge1 p k
  else if s.active p ∧ f.held ∧ f.last + 10 * tUs ≤ s.now then
    (s.modRx p k (fun f => { f with last := s.now })).sendCtl p (fcSeq k true)
  else s

/-- FC_HOLD_TIMEOUT: 25 µs since the last XOFF received. -/
def State.holdTimeout (s : State) (p k : Nat) : State :=
  let f := smGet FcState.init (s.port p).tx k
  if f.held ∧ f.last + 25 * tUs ≤ s.now then s.modTx p k (fun _ => fcGo) else s

/-- FC_STALL_EXPIRY: held continuously for longer than FC_STALL (R253). -/
def State.fcStall (s : State) (p k : Nat) : State :=
  let f := smGet FcState.init (s.port p).tx k
  if f.held ∧ !f.stalled ∧ f.since + s.a (0x6200 + p) 7 * tUs < s.now then
    (s.modTx p k (fun f => { f with stalled := true })).raise Al.fcStall p
  else s

/-! ### Flush (R259, Table 10-15) -/

/-- The stream a FLU names, 0xFFFF naming every one. -/
def fluHits (stream x : Nat) : Bool := decide (stream = 0xFFFF ∨ stream = x)

/-- What a flush discards of a held downlink symbol. -/
def State.flushSym (s : State) (cls stream : Nat) (y0 : DlSym) : State :=
  let y := s.dsym y0.car y0.slot y0.sym
  if cls = Cls.d ∧ !y.fixed then
    let sids := (y.recs.filter (fun r => fluHits stream r.stream)).foldl (fun l r => if r.stream ∈ l then l else l ++ [r.stream]) []
    let s := s.putD { y with recs := y.recs.filter (fun r => !fluHits stream r.stream) }
    sids.foldl (fun s sid => s.settle (s.dsym y0.car y0.slot y0.sym) sid (s.streamPieces y sid).2 [] (fun _ => true) 1 false false) s
  else if cls = Cls.c ∧ !y.closed ∧ s.time_ ≤ s.yAir 0 y - closeC then
    let sids := ((y.conf ++ y.prov).filter (fun x => fluHits stream x.1)).foldl (fun l x => if x.1 ∈ l then l else l ++ [x.1]) []
    let olds := sids.map (fun sid => (sid, (s.streamPieces y sid).2))
    let s := s.putD { y with conf := y.conf.filter (fun x => !fluHits stream x.1), prov := y.prov.filter (fun x => !fluHits stream x.1),
                             provN := y.provN.filter (fun x => !fluHits stream x) }
    olds.foldl (fun s o =>
      let y := s.dsym y0.car y0.slot y0.sym
      s.settle y o.1 o.2 (s.streamPieces y o.1).2 (fun _ => true) 1 false false) s
  else s

/-- The flush takes effect on a port's ingress (R259). -/
def State.flushNow (s : State) (p cls stream : Nat) : State :=
  let hit := fun (e : EgItem) => decide (e.inp = some p ∧ e.pkt.cls = cls) && fluHits stream e.pkt.stream
  let s := [0, 1, 2].foldl (fun s q => s.modPort q (fun x => { x with
    egress := x.egress.filter (fun e => !hit e), keep := x.keep.filter (fun e => !hit e) })) s
  let s := if p ≠ 0 then s
    else
      let s := s.dl.syms.foldl (fun s y => s.flushSym cls stream y) s
      if cls ≠ Cls.c then s
      else { s with ul := { s.ul with sects := s.ul.sects.map (fun y =>
        if s.time_ ≤ s.yAir 1 y - closeC then { y with conf := y.conf.filter (fun x => !fluHits stream x.1) } else y) } }
  let s := s.bump (0x6010 + p) 0x0D 1
  if p ≠ 0 then s
  else [1, 2].foldl (fun s q =>
    if s.active q ∧ cls ∈ (s.port q).carried then
      (s.modPort q (fun x => { x with
        fluWait := x.fluWait ++ [(cls, stream, x.egress.filter (fun e => decide (e.inp = some 0)))] })).fluRelease q
    else s) s

/-- FLU_RECEIVE: its class byte and stream, and whether it was interposed inside a packet. -/
def State.fluReceive (s : State) (p c stream : Nat) (inside : Bool) : State :=
  let cls := c % 8
  if !s.active p then s
  else if cls ≠ Cls.c ∧ cls ≠ Cls.d then s.linkErr p 6
  else if inside then s.modPort p (fun q => { q with flush := q.flush ++ [(cls, stream)] })
  else (s.flushNow p cls stream).fcJudge

/-- FLUSH_APPLY at the packet boundary. -/
def State.flushApply (s : State) (p : Nat) : State :=
  let l := (s.port p).flush
  if l = [] then s
  else (l.foldl (fun s x => s.flushNow p x.1 x.2) (s.modPort p (fun q => { q with flush := [] }))).fcJudge

/-! ### The requester's timeout (R255) -/

/-- A transaction whose M_TIMEOUT has run out. -/
def State.timedOut (s : State) (tag : Nat) (m : MTag) : Bool := decide (m.tag = tag ∧ m.left + s.a 0x6220 1 * tMs ≤ s.now)

/-- M_TIMEOUT of a tag. -/
def State.mTimeout (s : State) (tag : Nat) : State :=
  { s with
    mTags := s.mTags.filter (fun m => !s.timedOut tag m)
    hier := { s.hier with freed := s.freedNow ++ (s.mTags.filter (s.timedOut tag)).map (fun m => (m, s.now)) } }

/-! ### The commands -/

def execPacketReceive (t : Tick) (p : Nat) (l : List Nat) (eop : Bool) (stamp : Int) (s : State) : Host.Outcome State Fault Refusal :=
  s.run t (fun s => s.packetReceive p l eop stamp)
def execEgressPacketStart (t : Tick) (p : Nat) (s : State) : Host.Outcome State Fault Refusal := s.run t (fun s => s.egressStart p)
def execFcXoffReceive (t : Tick) (p c st : Nat) (s : State) : Host.Outcome State Fault Refusal := s.run t (fun s => s.xoff p c st)
def execFcXonReceive (t : Tick) (p c st : Nat) (s : State) : Host.Outcome State Fault Refusal := s.run t (fun s => s.xon p c st)
def execFcXoffRefresh (t : Tick) (p k : Nat) (s : State) : Host.Outcome State Fault Refusal := s.run t (fun s => s.xoffRefresh p k)
def execFcHoldTimeout (t : Tick) (p k : Nat) (s : State) : Host.Outcome State Fault Refusal := s.run t (fun s => s.holdTimeout p k)
def execFcStallExpiry (t : Tick) (p k : Nat) (s : State) : Host.Outcome State Fault Refusal := s.run t (fun s => s.fcStall p k)
def execFluReceive (t : Tick) (p c stream : Nat) (inside : Bool) (s : State) : Host.Outcome State Fault Refusal :=
  s.run t (fun s => s.fluReceive p c stream inside)
def execFlushApply (t : Tick) (p : Nat) (s : State) : Host.Outcome State Fault Refusal := s.run t (fun s => s.flushApply p)
def execFwdWindowDiscard (t : Tick) (p : Nat) (s : State) : Host.Outcome State Fault Refusal := s.run t (fun s => s.fwdDiscard p)
def execMResponseReceive (t : Tick) (p : Nat) (k : Pkt) (s : State) : Host.Outcome State Fault Refusal :=
  s.run t (fun s => if k.cls = Cls.m ∧ k.resp then s.mResponse p k else s)
def execMTimeout (t : Tick) (tag : Nat) (s : State) : Host.Outcome State Fault Refusal := s.run t (fun s => s.mTimeout tag)

end Sys2Proof.Machine
end

