-- ==== Sys2Proof/Machine/Lanes.lean ====
section
/-!
DEFINITION. Lane detectors, the deep lane state, equaliser presets and pattern tests (chapter 11).
-/

namespace Sys2Proof.Machine

/-- Applies an event to lane number i of 0 to 23: port, lane. -/
def onLane (i : Nat) (f : Nat → Nat → State → State) (s : State) : State := if i < 24 then f (i / 8) (i % 8) s else s

/-- A millisecond of one lane: the invalid code groups it received are counted, also in the port's CODE_ERR (R243,
R272), its trend is formed (R274), and a dropped lane's error-free interval restarts on an error (R281). -/
def State.laneTick (s : State) (p x e : Nat) : State :=
  let old := s.o 0x6102 (laneSub p x)
  let s := (s.bump 0x6103 (laneSub p x) e).modLane p x (fun l => { l with
    errWin := (e :: l.errWin).take 64, clean := if e = 0 then l.clean else l.clean.map (fun _ => s.now) })
  let s := if e = 0 ∨ s.portState p = 0 then s else (s.bump (0x6010 + p) 2 e).slotAlarm Al.linkErr p
  let new := min 65535 (listSum (s.lane p x).errWin)
  let s := s.seto 0x6102 (laneSub p x) new
  let s := if old < s.a 0x6111 2 ∧ s.a 0x6111 2 ≤ new then s.demote p x else s
  if old < s.a 0x6111 1 ∧ s.a 0x6111 1 ≤ new then (s.demote p x).laneLost p x 0 else s

/-- LANE_TREND_UPDATE with the invalid code groups of each lane in the last millisecond. -/
def State.laneTrend (s : State) (errs : List Nat) : State :=
  (List.range 24).foldl (fun s i => s.laneTick (i / 8) (i % 8) (errs.getD i 0)) s

/-- LOS asserts in the very cycle in which loss of lock made this end send its request: the reason sent is LOS (R273). -/
def State.losFirst (s : State) (p x : Nat) : State :=
  match (s.port p).dropRx with
  | some w =>
    if w.drop ∧ w.lane = x ∧ w.reason = 2 ∧ w.epm.isNone ∧ w.reqAt = s.now then
      (s.modPort p (fun q => { q with outCtl := q.outCtl.dropLast, dropRx := some { w with reason := 1 } })).sendReq p
        { w with reason := 1 }
    else s
  | none => s

/-- LANE_LOS: the envelope detector asserts or clears (Table 11-1); one that is off reports nothing (R288). -/
def State.laneLos (s : State) (p x : Nat) (on : Bool) : State :=
  if !s.detecting p then s
  else
  let was := (s.lane p x).los
  let s := s.modLane p x (fun l => { l with los := on })
  if on ∧ !was then ((s.bump 0x6104 (laneSub p x) 1).losFirst p x).laneLost p x 1 else s

/-- LANE_LOSS_OF_LOCK: a lane that trains alone after a drop starts again, any other is lost (Tables 11-1, 11-9). -/
def State.laneLol (s : State) (p x : Nat) : State :=
  let s := s.lockGone p x
  if s.active p ∧ (s.port p).lostRx = some x then
    (s.trainLane p x (s.o (0x6000 + p) 6)).setLaneSt p x 5
  else s.laneLost p x 2

/-- PORT_DEEP_ENTER (R282): at the power controller's request for Dormant, while LANE_WAKE is not 0 (R396), or when every lane reports LOS
as the port would leave DOWN. -/
def State.deepEnter (s : State) (p : Nat) : State :=
  let asked := match s.power.hand with | some h => h.started && h.dormant && decide (s.a 0x6112 (p + 1) ≠ 0) | none => false
  if (s.port p).deep then s
  else if asked = true then s.goDeep p
  else if s.mayDetect p ∧ s.allLos p then s.ownDeep p else s

/-- LANE_DEEP_EXIT_DONE, 80 µs after the wake (R283): credit is taken again and the port enters DETECT; a refusal waits
for the next try 100 µs later (R287). -/
def State.deepExit (s : State) (p : Nat) : State :=
  match (s.port p).deepWake with
  | none => s
  | some t =>
    if s.now < t + 80 * tUs ∨ bit (s.o 0x2420 8) 7 = true then s
    else
      let s1 := s.enterDetect p
      if s1.portState p = 1 then s1.setDom (portDom p) 1
      else (s1.book .portBase p portAnalogue).modPort p (fun q => { q with deepWake := some (s.now + 20 * tUs) })

/-- What a lane's transmitter sends, as far as its test settles it: nothing of its own, the training pattern, the
pattern of a code of Table 11-5, or the stream it recovers (R284, R286). -/
inductive LaneOut where
  | idle
  | training
  | pattern (code : Nat)
  | recovered
deriving DecidableEq, Repr

/-- The transmitted stream of a lane in a test: in far-end loopback the recovered stream goes back (R286). -/
def State.laneOut (s : State) (p x : Nat) : LaneOut :=
  let w := s.o 0x6120 (laneSub p x)
  if s.laneSt p x ≠ 6 then .idle
  else if bits w 24 2 = 2 then .recovered
  else if (s.lane p x).training then .training
  else if bit w 23 then .pattern (bits w 29 3) else .idle

/-- What a lane's receiver takes in: in near-end loopback its own output, else the peer's stream, `none` (R286). -/
def State.laneIn (s : State) (p x : Nat) : Option LaneOut :=
  if s.laneSt p x = 6 ∧ bits (s.o 0x6120 (laneSub p x)) 24 2 = 1 then some (s.laneOut p x) else none

/-- LANE_TEST (R284, Table 11-6); a pattern, rate or loopback code the tables do not give is out of range (DEDUCED,
assumption 76). -/
def State.laneTest (s : State) (p x v : Nat) : Nat × State :=
  let v := v / 2 ^ 22 * 2 ^ 22
  if s.a (0x6000 + p) 1 ≠ 0 ∨ (s.port p).deep then (St.laneBusy, s)
  else if 4 < bits v 29 3 ∨ 4 < bits v 26 3 ∨ bits v 24 2 = 3 then (St.badValue, s)
  else
    let s := s.seto 0x6120 (laneSub p x) v
    if bits v 29 3 = 0 then
      if s.laneSt p x = 6 then
        (St.ok, (s.setLaneSt p x 0).modLane p x (fun l => { l with training := false, locked := false, sync := false, looped := 0 }))
      else (St.ok, s)
    else (St.ok, ((s.trainLane p x (bits v 26 3)).setLaneSt p x 6).modLane p x (fun l => { l with sync := false, looped := 0 }))

/-- LANE_INJECT (R285): the inverted bits leave with the transmitted stream; in a near-end loopback they meet this lane's
own checker. -/
def State.laneInject (s : State) (p x v : Nat) : Nat × State :=
  (St.ok, s.modLane p x (fun l => { l with inject := v, looped := if (s.laneIn p x).isSome then l.looped + v else l.looped }))

/-- An entry that a write of the table may not hold (R275). -/
def presetBad (v j : Nat) : Bool :=
  let w0 := presetWord v (2 * j)
  let w1 := presetWord v (2 * j + 1)
  bit w0 13 && (decide (bits w0 19 3 = 5 ∨ bits w0 19 3 = 6) || decide (bits w0 16 3 = 6) ||
    decide (46 < bits w1 28 4 + bits w1 23 5) || decide (bits w0 0 13 ≠ 0) || decide (bits w1 0 10 ≠ 0))

/-- Reserved bits of a preset table read 0 (R4): [12:0] of word 0, [9:0] of word 1 of every entry. -/
def presetMask : Nat := 0xFFFFE000FFFFFC00 * ((2 ^ 2048 - 1) / (2 ^ 64 - 1))

/-- LANE_PRESETS (R275, R277): a written table clears every demotion. -/
def State.lanePresets (s : State) (v : Nat) : Nat × State :=
  if (List.range 32).any (presetBad v) then (St.badValue, s)
  else (St.ok, (s.seto 0x6110 1 (v &&& presetMask)).zeroRange 0x6107 1 24)

/-- PRBS_CHECKER_SYNC (R284): the bits checked in sync and the errors seen since the last event, and the new state. In
near-end loopback the checker sees this lane's own output: it stays out of sync unless that is a pattern, and the bits
that LANE_INJECT inverted there count at the least (R285, R286). -/
def State.prbsSync (s : State) (p x : Nat) (on : Bool) (n errs : Nat) : State :=
  if s.laneSt p x ≠ 6 ∨ !bit (s.o 0x6120 (laneSub p x)) 22 then s
  else
    let was := (s.lane p x).sync
    let seen := match s.laneIn p x with | none => true | some (.pattern _) => true | some _ => false
    let on := on && seen
    let errs := max errs (s.lane p x).looped
    let s := if was then (s.bump 0x6121 (laneSub p x) n).bump 0x6122 (laneSub p x) errs else s
    let s := if was ∧ !on then s.bump 0x6123 (laneSub p x) 1 else s
    s.modLane p x (fun l => { l with sync := on, looped := 0 })

/-! ### The commands -/

def execLaneTrendUpdate (t : Tick) (errs : List Nat) (s : State) : Host.Outcome State Fault Refusal := s.run t (fun s => s.laneTrend errs)
def execLaneLos (t : Tick) (i : Nat) (on : Bool) (s : State) : Host.Outcome State Fault Refusal :=
  s.run t (onLane i (fun p x s => s.laneLos p x on))
def execLaneLossOfLock (t : Tick) (i : Nat) (s : State) : Host.Outcome State Fault Refusal :=
  s.run t (onLane i (fun p x s => s.laneLol p x))
def execPortDeepEnter (t : Tick) (p : Nat) (s : State) : Host.Outcome State Fault Refusal := s.run t (fun s => s.deepEnter p)
def execLaneDeepExitDone (t : Tick) (p : Nat) (s : State) : Host.Outcome State Fault Refusal := s.run t (fun s => s.deepExit p)
def execLaneTest (t : Tick) (r : Req) (i v : Nat) (s : State) : Host.Outcome State Fault Refusal :=
  s.run t (fun s => s.writeBy r 0x6120 (i + 1) (objBytes 0x6120 1 v) (fun s v => s.laneTest (i / 8) (i % 8) v))
def execLaneInject (t : Tick) (r : Req) (i v : Nat) (s : State) : Host.Outcome State Fault Refusal :=
  s.run t (fun s => s.writeBy r 0x6124 (i + 1) (objBytes 0x6124 1 v) (fun s v => s.laneInject (i / 8) (i % 8) v))
def execLanePresets (t : Tick) (r : Req) (v : Nat) (s : State) : Host.Outcome State Fault Refusal :=
  s.run t (fun s => s.writeBy r 0x6110 1 (objBytes 0x6110 1 v) State.lanePresets)
def execPrbsCheckerSync (t : Tick) (i : Nat) (on : Bool) (n errs : Nat) (s : State) : Host.Outcome State Fault Refusal :=
  s.run t (onLane i (fun p x s => s.prbsSync p x on n errs))

end Sys2Proof.Machine
end

