-- ==== Sys2Proof/Machine/Plls.lean ====
section
/-!
DEFINITION. The clock PLLs (R167 to R169, R185, R188): FRAME 0, CONV 1, LINK 2, CTRL 3, TIME 4, HK 5, as the bits of
CLK_STATUS number them.
-/

namespace Sys2Proof.Machine

/-- Ledger cost of a PLL (Table 7-3). -/
def pllCost (n : Nat) : List Nat :=
  if n = 0 then costAdd (costOn r18 8) (costOn rCore 4)
  else if n = 1 then costAdd (costOn r18 15) (costOn rConv 10)
  else if n = 2 then costOn r18 6
  else if n = 5 then costOn r18 2
  else costOn r18 5

/-- A PLL has declared lock. -/
def State.pllLocked (s : State) (n : Nat) : Bool := bit (s.o 0x2420 8) n

/-- A PLL declares lock: its consumers run on it. -/
def State.pllLock (s : State) (n : Nat) : State :=
  let s := s.setBit 0x2420 8 n true
  let s := if n = 3 then s.setBit 0x2420 8 6 false else if n = 2 then s.setBit 0x2420 8 7 false else s
  { s with clk := { s.clk with hkStopped := s.clk.hkStopped && decide (n ≠ 5), pllAt := amod 6 none s.clk.pllAt n (fun _ => some s.now) } }

/-- A PLL that is switched off. -/
def State.pllOff (s : State) (n : Nat) : State :=
  let s := (s.setBit 0x2420 8 n false).release .pll n
  { s with clk := { s.clk with pllAt := amod 6 none s.clk.pllAt n (fun _ => none) } }

/-- A locked PLL loses lock unplanned: it counts, and raises CLK_UNLOCK. -/
def State.pllLost (s : State) (n : Nat) : State :=
  let s := (s.setBit 0x2420 8 n false).bump 0x2420 9 1
  { s with clk := { s.clk with pllAt := amod 6 none s.clk.pllAt n (fun _ => none) } }.raise Al.clkUnlock 0

/-- The words of shadow group 0 that the control processor writes when their source changes (Table 14-11, R358). -/
def State.swpCpWord (s : State) (w : Nat) : Nat :=
  if w = 3 then s.addr / 65536
  else if w = 4 then s.addr % 65536
  else if 5 ≤ w ∧ w ≤ 8 then s.summary / 65536 ^ (8 - w) % 65536
  else if w = 13 then b2n s.stage.isSome * 16 + s.commits.length
  else s.o 0xA000 3 % 65536

/-- Those words. -/
def swpCpWords : List Nat := [3, 4, 5, 6, 7, 8, 13, 14]

/-- The control processor counts as absent from now on (R15); its words of the shadow stand. -/
def State.cpGone (s : State) : State :=
  if s.cpAbsent.isSome then s
  else { s with cpAbsent := some s.now,
                swp := { s.swp with words := swpCpWords.foldl (fun m w => smSet 0 m w (s.swpCpWord w)) s.swp.words } }

/-- LINK, CTRL and HK. -/
def isCtrl (n : Nat) : Bool := n == 2 || n == 3 || n == 5

/-- CLK_PLL_UNLOCK of the CTRL PLL (3), the LINK PLL (2) or the HK PLL (5): CTRL and LINK run on the AON clock, and the control processor is
absent, or every port loses its lanes and retrains (R168); the HK clock stops (Table 7-1). -/
def State.ctrlUnlock (s : State) (n : Nat) : State :=
  if !(isCtrl n && s.pllLocked n) then s
  else
    let s := s.pllLost n
    if n = 3 then (s.setBit 0x2420 8 6 true).cpGone
    else if n = 2 then
      let s := (List.range 24).foldl (fun s i => s.lockGone (i / 8) (i % 8)) (s.setBit 0x2420 8 7 true)
      [0, 1, 2].foldl (fun s p => if s.portState p = 0 then s else s.portDown p false) s
    else { s with clk := { s.clk with hkStopped := true } }

/-- CLK_PLL_RELOCK: the consumers switch back. The control processor returns, unless it is absent for another reason. -/
def State.ctrlRelock (s : State) (n : Nat) : State :=
  let out := if n = 5 then s.clk.hkStopped else bit (s.o 0x2420 8) (if n = 2 then 7 else 6)
  if !isCtrl n ∨ s.pllLocked n ∨ out = false then s else s.pllLock n

/-- FRAME, CONV and TIME. -/
def isData (n : Nat) : Bool := n == 0 || n == 1 || n == 4

/-- Every path chain is stopped until a slot boundary restarts it. -/
def State.chainsStop (s : State) : State := { s with dl := { s.dl with stopped := true }, clk := { s.clk with resume := false } }

/-- DATAPATH_PLL_UNLOCK of FRAME, CONV or TIME: chains are stopped, transmitting paths make a fast stop; a TIME unlock also
clears time lock (R169). -/
def State.dataUnlock (s : State) (n : Nat) : State :=
  if !(isData n && s.pllLocked n) then s
  else
    let s := ((s.pllLost n).stopAll false).chainsStop
    if n = 4 then (if s.timeState = 0 then s else s.timeUnlock) else s

/-- DATAPATH_PLL_RELOCK: once every datapath PLL is locked, the chains restart at the next slot boundary. A root on
its own TIME clock is locked again (R301). -/
def State.dataRelock (s : State) (n : Nat) : State :=
  if !(isData n && s.granted .pll n) || s.pllLocked n then s
  else
    let s := s.pllLock n
    let s := if n = 4 ∧ s.role = 2 ∧ s.a 0x1200 1 = 2 then (s.setY 0).timeLock else s
    if s.dl.stopped ∧ [0, 1, 4].all s.pllLocked then { s with clk := { s.clk with resume := true } } else s

/-- UNLOCK_ALARM_CLEAR: LO 0 to 3, or the clock PLLs together, once lock has held for 1.0 s (R188). -/
def State.unlockClear (s : State) (i : Nat) : State :=
  if i < 4 then
    match (s.lo i).lockedAt with
    | some t => if s.loLocked i = true ∧ t + tSec ≤ s.now then s.clearAl Al.loUnlock i else s
    | none => s
  else
    let ok := (List.range 6).all (fun n => !s.granted .pll n || (s.pllLocked n &&
      (match smGet none s.clk.pllAt n with | some t => decide (t + tSec ≤ s.now) | none => false)))
    if ok then s.clearAl Al.clkUnlock 0 else s

/-! ### The commands -/

def execClkPllUnlock (t : Tick) (pll : Nat) (s : State) : Host.Outcome State Fault Refusal := s.run t (fun s => s.ctrlUnlock pll)
def execDatapathPllUnlock (t : Tick) (n : Nat) (s : State) : Host.Outcome State Fault Refusal := s.run t (fun s => s.dataUnlock n)
def execDatapathPllRelock (t : Tick) (n : Nat) (s : State) : Host.Outcome State Fault Refusal := s.run t (fun s => s.dataRelock n)
def execUnlockAlarmClear (t : Tick) (i : Nat) (s : State) : Host.Outcome State Fault Refusal := s.run t (fun s => s.unlockClear i)

end Sys2Proof.Machine
end

