-- ==== Sys2Proof/Machine/Power.lean ====
section
/-!
DEFINITION. The ledger's commands (R18, R19, R383 to R386), the handshake that powers domains down (R389 to R391), what a
domain loses and regains with its power, wake sources (R399, R401), and first accesses (R402).
-/

namespace Sys2Proof.Machine

/-! ### The ledger (R18, R19, R384, R386) -/

/-- A request of the same AON cycle: a release, or credit for a holder (DESIGN CHOICE, assumption 15: holders of this command
are numbered apart from the blocks whose own events ask). -/
def State.ledOne (s : State) (q : LedReq) : State :=
  if q.release then s.release .block q.n
  else (s.ask .block q.n ((List.range 8).map (fun r => q.cost.getD r 0)) (q.dom % 22)).2

/-- LEDGER_OVER follows BOOKED of each rail (R384): with the ledger's own commands, as a domain goes off, and at every slot boundary
(DESIGN CHOICE, assumption 39: a release between them clears it at the next). -/
def State.ledgerJudge (s : State) : State :=
  (List.range 8).foldl (fun s r => s.alarmIf Al.ledgerOver r (decide (s.cap r < s.booked r))) s

/-- LEDGER_REQUEST: the requests of one AON cycle, in the order of R19: releases, then by class 2 to 7, then as they stand. -/
def State.ledMany (s : State) (l : List LedReq) : State :=
  ((sortBy (fun q => if q.release then 1 else q.cls) l).foldl State.ledOne s).ledgerJudge

/-- LEDGER_CEIL (R386). -/
def ceilOf (r : Nat) : Nat := [4180, 2200, 1200, 200, 400, 150, 50, 5].getD r 0

/-- LEDGER_CAP_WRITE of rail r (R386). -/
def State.capWrite (s : State) (r v : Nat) : Nat × State :=
  if ceilOf r < v then (St.badValue, s)
  else if v < s.booked r then (St.capBelowBooked, s)
  else acts (s.seto 0x5000 (r + 1) v).ledgerJudge

/-! ### Answers of the domains (Table 16-5) -/

/-- Domains in the order in which Dormant powers them down (R391). -/
def dormantOrder : List Nat := [14, 13] ++ List.range 12 ++ [12, 19, 17, 16, 15, 20, 18]

/-- Something is enabled now, or by a commit that has been accepted: that commit has powered the domain it needs (R389). DESIGN CHOICE
(assumption 16). -/
def State.soon (s : State) (p : Int → Bool) : Bool := p s.time_ || s.commits.any (fun c => p c.at_)

/-- The reason for which a domain refuses now (R390, Table 16-5): 1 calibration running, 2 DMA busy, 3 transactions
outstanding, 4 lock held, 5 traffic enabled, 6 a TX path enabled. CH15's lock of the housekeeping block is not counted. -/
def State.refuses (s : State) (d : Nat) : Option Nat :=
  if d < 12 then
    if s.soon (fun T => s.tileOn T d) then some 5
    else if (pathsOf d).any (fun n => s.cal.bench.any (fun b => b.running && decide (n ∈ b.paths))) then some 1 else none
  else if d = 12 then
    if s.soon (fun T => [0, 1].any (fun dir => (List.range 4).any (fun c => s.carEnabled T dir c && !s.carShed T dir c))) then some 5
    else if [0, 1].any (fun dir => ((s.tb dir).swap.isSome && !(s.tb dir).swapped) || ((s.tb dir).sched.isSome && !(s.tb dir).schedDone))
      then some 4 else none
  else if d = 13 then
    if s.soon (fun T => allPaths.any (fun n => decide (s.at_ T 0x4001 (n + 1) ≠ 0))) then some 5
    else if (List.range 8).any (fun x => decide ((s.lock x).owner ≠ 0)) then some 4 else none
  else if d = 14 then
    if s.dpd.paths.any (fun p => p.2.att.isSome) || s.cal.made.any (fun m => m.2.2.isSome) then some 1 else none
  else if d < 18 then
    if (s.port (d - 15)).proxies ≠ [] ∨ s.ports.any (fun q => q.2.proxies.any (fun r => r.req.port == d - 15)) = true then some 3
    else none
  else if d = 18 then
    if (List.range 16).any (fun n => decide (s.o (chIdx9 n) 9 ∈ [2, 3])) then some 2
    else if ((List.range 19).map (· + 8)).any (fun n => decide ((s.lock n).owner ≠ 0) && !(n == 25 && (s.lock n).owner == ownHk))
      then some 4
    else if s.mTags ≠ [] then some 3 else none
  else if d = 19 then (if s.soon (fun T => allPaths.any (s.txOn T)) then some 6 else none)
  else if d = 20 then (if s.soon (fun T => (List.range 4).any (fun n => decide (s.at_ T (0x1230 + n) 1 ≠ 0))) then some 5 else none)
  else none

/-- A domain delays its answer: work in progress that it first completes (Table 16-5). -/
def State.delays (s : State) (d : Nat) : Bool :=
  if d < 12 then s.rf.edges.any (fun e => decide (s.time_ < e.at_) &&
    (match e.kind with
     | .trsw | .lnabyp => e.n == d
     | .radio => false
     | _ => tileOf e.n == d))
  else if d = 12 then [0, 1].any (fun dir => (s.tb dir).fill.isSome)
  else if d = 13 then (List.range 8).any (fun x => (s.ox x).settled.isSome)
  else if 15 ≤ d ∧ d < 18 then decide (s.time_ < (s.port (d - 15)).busyUntil)
  else if d = 18 then decide (s.cal.storeQ ≠ [])
  else false

/-- Declared maximum of a delay (Table 16-5). -/
def maxDelay (d : Nat) : Nat :=
  if d < 12 then 3300 * tNs
  else [200 * tUs, 3 * tUs, tMs, 5 * tUs, 5 * tUs, 5 * tUs, 10 * tMs, tUs, 10 * tUs].getD (d - 12) 0

/-! ### What waits for a domain (R402) -/

/-- The accesses that wait for a domain proceed. -/
def State.stallsGo (s : State) (d : Nat) : State :=
  let l := s.power.stalls.filter (fun x => decide (x.dom = d))
  let s := s.modPower (fun p => { p with stalls := p.stalls.filter (fun x => decide (x.dom ≠ d)) })
  l.foldl (fun s x => match x.mem with | some m => s.memRequest m | none => s) s

/-- An access still waits for a domain. -/
def State.stalled (s : State) (d : Nat) : Bool := s.power.stalls.any (fun x => x.dom == d)

/-! ### The handshake (R390, R391) -/

/-- POWER_STATUS, POWER_REFUSER, POWER_REASON. -/
def State.outcome (s : State) (st who why : Nat) : State := ((s.seto 0x5020 3 st).seto 0x5020 4 who).seto 0x5020 5 why

/-- A domain returns to the state it had before the handshake. -/
def State.domBack (s : State) (d : Nat) : State :=
  (s.setDom d (if 15 ≤ d ∧ d < 18 ∧ (s.port (d - 15)).deep = true then 5 else 1)).stallsGo d

/-- A handshake ends without powering down the named domains. -/
def State.handOver (s : State) (doms : List Nat) : State :=
  doms.foldl State.domBack (s.modPower (fun p => { p with hand := none }))

/-- A refusal ends the request: no domain is powered down (R390). -/
def State.handRefused (s : State) (h : Handshake) (d why : Nat) : State :=
  ((s.handOver h.doms).outcome St.powerRefused d why).raise Al.powerRefused d

/-- The act phase begins: the first domain is isolated; its retained banks, and at the entry to Dormant the calibration store
(9) and the patch RAM (10), are signed (R398). -/
def State.handAct (s : State) (h : Handshake) : State :=
  let s := s.modPower (fun p => { p with
    hand := some { h with waiting := [], acting := h.doms, started := true },
    signed := if h.dormant then p.signed ++ [9, 10] else p.signed })
  match h.doms with
  | d :: _ => s.setDom d 3
  | [] => s

/-- The ask phase: every domain answers at once, or delays; the first refusal in domain order is named (R390). -/
def State.handAsk (s : State) (dormant : Bool) (doms : List Nat) : State :=
  let order := sortBy (fun d => d) doms
  let s0 := doms.foldl (fun s d => s.setDom d 2) s
  let h : Handshake := ⟨dormant, doms, doms.filter s.delays, s.now, [], false⟩
  let s1 := s0.modPower (fun p => { p with hand := some h })
  match order.find? (fun d => (s.refuses d).isSome) with
  | some d => s1.handRefused h d ((s.refuses d).getD 0)
  | none => if h.waiting = [] then s1.handAct h else s1

/-- Power control is busy: a domain is ENTERING or ISOLATED, or a request is in progress (R389). -/
def State.powerBusy (s : State) : Bool :=
  s.power.hand.isSome || (List.range 22).any (fun d => decide (s.domState d ∈ [2, 3]))

/-- A domain is affected by Dormant: it is powered, and not a deep port that stays so for its wake (R396). -/
def State.forDormant (s : State) (d : Nat) : Bool :=
  decide (s.domState d ≠ 0) &&
    !(decide (15 ≤ d) && decide (d < 18) && (s.port (d - 15)).deep && decide (s.a 0x6112 (d - 14) ≠ 0))

/-- A power request that is refused; POWER_STATUS holds its outcome (R390, Table 16-15). -/
def State.reqRefused (s : State) (st : Nat) : Nat × State := (st, s.seto 0x5020 3 st)

/-- DOMAIN_REQ 1 (R389): in the manner of a first access. -/
def State.reqUp (s : State) (d : Nat) : Nat × State :=
  if s.powerBusy then s.reqRefused St.powerBusy
  else acts ((if s.domState d = 0 then s.stallOn d none none else s).outcome 0 0xFF 0)

/-- DOMAIN_REQ 0 (R389). A domain that is WAKING makes it fail with POWER_BUSY (DESIGN CHOICE, assumption 16). -/
def State.reqDown (s : State) (d : Nat) : Nat × State :=
  if d = 18 ∨ 20 ≤ d then s.reqRefused St.domainFixed
  else if s.powerBusy || s.domState d == 4 then s.reqRefused St.powerBusy
  else acts (if s.domState d = 0 then s.outcome 0 0xFF 0 else s.handAsk false [d])

/-- DOMAIN_REQ of domain d. -/
def State.domReq (s : State) (d v : Nat) : Nat × State :=
  if v = 0 then s.reqDown d else if v = 1 then s.reqUp d else (St.badValue, s)

/-- POWER_REQ (R396); an enabled wake source that fires in the same cycle wins (R401), and a domain that is WAKING makes it fail with
POWER_BUSY (DESIGN CHOICE, assumption 16). -/
def State.powerReq (s : State) (v : Nat) : Nat × State :=
  if v = 0 then acts s
  else if s.powerBusy || (List.range 22).any (fun d => s.domState d == 4) then s.reqRefused St.powerBusy
  else if s.o 0x5020 6 % 16 = 0 then s.reqRefused St.noWakeSource
  else if s.power.fired = some s.now then acts (s.outcome St.abortedWake 0xFF 0)
  else acts (s.handAsk true (dormantOrder.filter s.forDormant))

/-- DOMAIN_ANSWER: a delaying domain has completed its work and answers (R390). -/
def State.domAnswer (s : State) (d : Nat) : State :=
  match s.power.hand with
  | some h =>
    if d ∉ h.waiting then s
    else
      match s.refuses d with
      | some why => s.handRefused h d why
      | none =>
        if s.delays d then s
        else
          let h := { h with waiting := h.waiting.filter (fun x => x != d) }
          let s := s.modPower (fun p => { p with hand := some h })
          if h.waiting = [] then s.handAct h else s
  | none => s

/-- DOMAIN_ANSWER_TIMEOUT: reason 8. -/
def State.domAnswerLate (s : State) (d : Nat) : State :=
  match s.power.hand with
  | some h => if d ∈ h.waiting ∧ h.since + maxDelay d ≤ s.now then s.handRefused h d 8 else s
  | none => s

/-! ### Losing power (R391, R74, R162, Table 16-6) -/

/-- A tile's pins are clamped (Table 6-10). -/
def State.tileOff (s : State) (k : Nat) : State :=
  let s := (pathsOf k).foldl (fun s n => ((s.setPin .txon n 0).setPin .driver n 0).setPin .rxStage n 0) s
  let s := (s.setPin .trsw k 0).setPin .lnabyp k 1
  { s with rf := { s.rf with txRun := withBit s.rf.txRun k false, held := s.rf.held.filter (fun x => decide (tileOf x.1 ≠ k)) } }

/-- Staging, the dynamic store, schedules and latches of a direction are gone, and a pending swap is dropped (R74). -/
def State.tblOff (s : State) (dir : Nat) : State :=
  let s := match (s.tb dir).swap with
    | some (b, _) => if (s.tb dir).swapped then s.swapMem (wtBase dir + b * bankBytes) (wtStaging dir) bankBytes else s
    | none => s
  let s := ((s.clearMem (wtStaging dir) bankBytes).clearMem (schedBase dir) schedBytes).clearMem (schedInactive dir) schedBytes
  let s := (((s.seto (0x3100 + dir) 4 0).seto (0x3200 + dir) 2 0).setBoth (0x3100 + dir) 5 0).setBoth (0x3200 + dir) 3 0
  s.modTb dir (fun _ => Tbl.init)

/-- Memory of a weight bank, 0 to 3 of direction 0, then of direction 1. -/
def bankAt (w : Nat) : Nat := wtBase (w / 4) + w % 4 * bankBytes

/-- Bank w is selected in WT_RETAIN. -/
def State.retains (s : State) (w : Nat) : Bool := bit (s.o (0x3100 + w / 4) 8) (w % 4)

/-- Bank w is invalid (R75). -/
def State.bankBad (s : State) (w : Nat) : State := s.setBit (0x3100 + w / 4) 6 (w % 4) false

/-- BF: banks that are not retained are lost (R74, R75). -/
def State.bfOff (s : State) : State :=
  let s := (s.tblOff 0).tblOff 1
  let s := (List.range 8).foldl (fun s w =>
    if s.retains w then s.modPower (fun p => { p with signed := p.signed ++ [w] })
    else (s.clearMem (bankAt w) bankBytes).bankBad w) s
  { s with dl := { s.dl with syms := [], fastQ := [], running := none, out := [] }, ul := { s.ul with sects := [], own := [], child := [] } }

/-- DP: the captures are gone and every ORXSEL_n parks (R162). -/
def State.dpOff (s : State) : State :=
  (List.range 8).foldl (fun s x => (s.orxForce x).release .orx x) (s.clearMem 0x20100000 0x80000)

/-- HK: the ring is lost, the gate and AUX outputs are high-impedance (R379, R422), conversions stop. -/
def State.hkOff (s : State) : State :=
  let s := ((s.clearMem 0x30000000 0x8000).seto 0x9000 4 0).seto 0x7000 1 0
  let s := allPaths.foldl (fun s n => s.setPin .gate n 0) s
  let s := { s with grants := s.grants.filter (fun g => decide (g.kind ≠ GKind.auxChan)) }
  let s := if (s.lock 25).owner = ownHk then s.setLock 25 lockFree else s
  { s with hk := { s.hk with
      refAt := none, pos := 247, roundAt := none, oneshot := none, shot := false, unread := 0, aux := [] } }

/-- TM: every synthesiser and PLL stops; time is not locked. In keep-time the counter runs on (R397). -/
def State.tmOff (s : State) : State :=
  let s := (List.range 4).foldl State.loDown s
  let s := (List.range 6).foldl State.pllOff s
  let s := (s.release .refIn 0).seto 0x2420 8 0
  let s := s.timeUnlock
  let s := { s with clk := { s.clk with hand := none, slewing := false } }
  if bit (s.o 0x5020 6) 2 then s.modPower (fun p => { p with keepTime := true })
  else { s.release .timeLogic 0 with time := { s.time with alarms := [] } }

/-- CP: the control processor is gone, with descriptors, captures and queues (Tables 15-1, 16-6); HXOFF is asserted. The shadow
is signed (8) or lost (11). -/
def State.cpOff (s : State) : State :=
  let s := ((s.clearMem 0x50000000 0x10000).clearMem 0x20000000 0x100000).loseStage
  let s := s.cpGone
  let s := (List.range 4).foldl (fun s b => (s.seto (capIdx b) 8 0).modCap b (fun _ => CapBuf.init)) s
  let s := (List.range 16).foldl (fun s n => s.seto (chIdx9 n) 9 0) s
  let s := if s.o 0x5020 9 = 1 then s.modPower (fun p => { p with signed := p.signed ++ [8] })
    else { s.modPower (fun p => { p with signed := p.signed ++ [11] }) with commits := [] }
  { s with mq := [], inService := [], mTags := [], lhp := ⟨[], [], s.lhp.spiMode, true, false, false⟩,
           dma := { s.dma with ch := [], last := 15 } }

/-- A domain loses power: what it held, its credit, its state. In Dormant a link port with LANE_WAKE set stays in the deep lane
state; TM stays in keep-time while WAKE_EN[2] is set (R391, R396). -/
def State.powerOff (s : State) (d : Nat) : State :=
  if d < 12 then ((s.tileOff d).release .dom d).setDom d 0
  else if d = 12 then (s.bfOff.release .dom d).setDom d 0
  else if d = 13 then (s.dpOff.release .dom d).setDom d 0
  else if d = 14 then ((s.clearMem 0x40000000 0x300000).release .dom d).setDom d 0
  else if d < 18 then
    let p := d - 15
    if s.a 0x6112 (p + 1) ≠ 0 ∧ s.power.hand.any (fun h => h.dormant) = true then (if (s.port p).deep then s.setDom d 5 else s.goDeep p)
    else ((s.portDown p false).release .dom d).setDom d 0
  else if d = 18 then (s.cpOff.release .dom d).setDom d 0
  else if d = 19 then (s.hkOff.release .dom d).setDom d 0
  else if d = 20 then
    let s := s.tmOff
    if s.power.keepTime then s.setDom d 1 else (s.release .dom d).setDom d 0
  else s

/-- DOMAIN_POWER_DOWN: the next domain of the act phase is off; the one after it is isolated, or the request is complete. An
access that waits for it wakes it again (R403). -/
def State.domDown (s : State) (d : Nat) : State :=
  match s.power.hand with
  | some h =>
    if h.started = false ∨ h.acting.head? ≠ some d then s
    else
      let s := (s.powerOff d).modPower (fun p => { p with hand := some { h with acting := h.acting.drop 1 } })
      match h.acting.drop 1 with
      | e :: _ => s.setDom e 3
      | [] =>
        let s := ((s.modPower (fun p => { p with hand := none, dormant := h.dormant })).outcome 0 0xFF 0).ledgerJudge
        if h.dormant then s else h.doms.foldl (fun s e => if s.stalled e then s.wakeDomain e else s) s
  | none => s

/-! ### Wake sources (R399 to R401) -/

/-- The credit of the wake step in progress is asked for (R400): PLLs and TM, CP, the shadow, the links, BF, the other PLLs
and the REF input, HK. -/
def State.wakeAsk (s : State) : State :=
  let plls := fun (l : List Nat) (s : State) => l.foldl (fun (a : Bool × State) n =>
    let r := if a.2.granted .pll n then (true, a.2) else a.2.ask .pll n (pllCost n) Dom.tm
    (a.1 && r.1, r.2)) (true, s)
  let dom := fun (d : Nat) (s : State) => if s.granted .dom d then (true, s) else s.ask .dom d (domCost d) d
  let both := fun (a b : Bool × State) => (a.1 && b.1, b.2)
  let r := match s.power.wakeStep with
    | 1 =>
      let a := dom Dom.tm s
      let b := if a.2.granted .timeLogic 0 then (true, a.2) else a.2.ask .timeLogic 0 (costOn rCore 3) Dom.tm
      both (both a b) (plls [3, 2, 5] b.2)
    | 2 => dom Dom.cp s
    | 5 => dom Dom.bf s
    | 6 =>
      let a := if s.granted .refIn 0 then (true, s) else s.ask .refIn 0 (costOn r18 3) Dom.tm
      both a (plls [0, 1, 4] a.2)
    | 7 => dom Dom.hk s
    | _ => (true, s)
  r.2.modPower (fun p => { p with wakeOk := r.1, wakeTry := s.now })

/-- The domain a wake step powers. -/
def wakeDom (k : Nat) : Option Nat := if k = 2 then some Dom.cp else if k = 5 then some Dom.bf else if k = 7 then some Dom.hk else none

/-- A wake step begins: its credit, and its domain WAKING. -/
def State.wakeTake (s : State) : State :=
  let s := s.wakeAsk
  if !s.power.wakeOk then s
  else
    match wakeDom s.power.wakeStep with
    | some d => if s.domOn d then s else s.domWaking d
    | none =>
      if s.power.wakeStep = 4 then
        [0, 1, 2].foldl (fun s p =>
          if (s.port p).deep then s.deepLeave p
          else if s.a (0x6000 + p) 1 = 1 ∧ s.domState (portDom p) = 0 then s.domWaking (portDom p) else s) s
      else s

/-- Enters a step of R400. -/
def State.wakeGo (s : State) (k : Nat) : State := (s.modPower (fun p => { p with wakeStep := k, wakeOk := false })).wakeTake

/-- A wake from Dormant, or of the domains that an interrupted power-down has already switched off, starts. The counter of a
device that kept no time restarts from 0 s (R397). -/
def State.wakeStart (s : State) : State :=
  let s := if s.power.keepTime then s else if s.domOn Dom.tm then s else { s with timeBase := -(s.now : Int) }
  (s.modPower (fun p => { p with dormant := false, settling := true, brief := true, keepTime := false })).wakeGo 1

/-- A wake source fires: it counts only if WAKE_EN selects it. A request whose first domain has not lost its power yet ends as in the
ask phase (R401). -/
def State.wakeSource (s : State) (b : Nat) : State :=
  if !bit (s.o 0x5020 6) b then s
  else
    let s := s.modPower (fun p => { p with fired := some s.now })
    match s.power.hand with
    | some h =>
      if !h.dormant then s
      else if !h.started || decide (h.acting = h.doms) then (s.handOver h.doms).outcome St.abortedWake 0xFF 0
      else
        let s := ((s.handOver h.acting).outcome St.abortedWake 0xFF 0).seto 0x5020 8 (2 ^ b)
        s.wakeStart
    | none =>
      if s.power.dormant then ((s.seto 0x5020 8 (2 ^ b)).bump 0x5050 3 1).wakeStart
      else if s.power.wakeStep = 1 ∨ s.power.wakeStep = 2 then s.seto 0x5020 8 (s.o 0x5020 8 ||| 2 ^ b)
      else s

/-- LANE_WAKE_DETECT on a port: the WAKE pattern (0) or an envelope (1) (R283). While the port is not deep it only counts for an
entry in the same cycle (Table 11-9). In Dormant the lanes stay deep until step 4
of the wake (Table 16-11). -/
def State.laneWake (s : State) (p kind : Nat) : State :=
  let mode := s.a 0x6112 (p + 1)
  if mode = 0 ∨ (mode = 1 ∧ kind ≠ 0) ∨ !s.detecting p then s
  else if !(s.port p).deep then s.modPort p (fun q => { q with wokeAt := some s.now })
  else
    let dorm := s.power.dormant || s.power.hand.any (fun h => h.dormant)
    let s := s.wakeSource 0
    if dorm ∨ (s.port p).deepWake.isSome = true then s
    else s.deepLeave p

/-- TIME_ALARM n is written: armed, or fired at once if the value has passed (R309). -/
def State.alarmFire (s : State) (n : Nat) : State :=
  ({ s with time := { s.time with alarms := amod 4 none s.time.alarms n (fun _ => none) } }.trigger (0x11 + n)).wakeSource 2

def State.timeAlarm (s : State) (n v : Nat) : State :=
  let T := ofTime96 v
  let s := { s with time := { s.time with alarms := amod 4 none s.time.alarms n (fun _ => some T) } }
  if T ≤ s.time_ then s.alarmFire n else s

/-- TALARM n. -/
def State.talarm (s : State) (n : Nat) : State :=
  match smGet none s.time.alarms n with
  | some T => if T ≤ s.time_ then s.alarmFire n else s
  | none => s

/-! ### Gaining power (R402, Table 16-12) -/

/-- A domain reaches ON: what its power-up does (R198, R408). -/
def State.domUp (s : State) (d : Nat) : State :=
  let s := (s.setDom d 1).modPower (fun p => { p with waking := smErase p.waking d })
  let s :=
    if d = 13 then
      let s := allPaths.foldl (fun s n =>
        let s := (List.range 6).foldl (fun s b =>
          s.seto (0x4010 + b) (n + 1) (smGet 0 s.cal.store (key (0x4010 + b) (n + 1)))) s
        s.seto 0x4004 (n + 1) (0x40000000 * 2 ^ 2016)) s
      s.orxCredit
    else if d = 14 then (List.range 24).foldl State.dcLoad s
    else if d = 19 then
      let s := s.modHk (fun h => { h with refAt := some s.now, pos := 247, roundAt := some (s.time_ / ((10 * tMs : Nat) : Int)), judged := true })
      (if (s.lock 25).owner = 0 then s.setLock 25 ⟨ownHk, none⟩ else s).auxWake
    else s
  s.stallsGo d

/-- A domain that is WAKING has had its time (Table 16-12); one that a wake from Dormant powers is ready with its step. -/
def State.domDue (s : State) (d : Nat) : Bool :=
  decide (s.domState d = 4) && !(decide (s.power.wakeStep ≠ 0) && decide (wakeDom s.power.wakeStep = some d)) &&
  (match smFind s.power.waking d with
   | some t => decide (t + domReady d ≤ s.now)
   | none => false)

/-- DOMAIN_READY. -/
def State.domIsReady (s : State) (d : Nat) : State := if s.domDue d then s.domUp d else s

/-- WAKE_STALL_TIMEOUT of a domain whose credit is still refused 10 ms after an access began (R402). -/
def State.wakeStall (s : State) (d : Nat) : State :=
  let old := s.power.stalls.filter (fun x => decide (x.dom = d) && decide (x.since + 10 * tMs ≤ s.now))
  if old = [] ∨ s.power.pend.any (fun x => x.1 == d) = false then s
  else
    let s := s.modPower (fun p => { p with stalls := p.stalls.filter (fun x => decide (x ∉ old)) })
    let s := if s.stalled d then s else s.modPower (fun p => { p with pend := p.pend.filter (fun x => decide (x.1 ≠ d)) })
    let s := old.foldl (fun s x =>
      match x.mem with
      | some m => s.answer m.req m.op m.w1 St.ledgerRefused []
      | none => match x.chan with | some n => s.chStallFail n | none => s) s
    s.raise Al.wakeStall d

/-! ### Nap (R395) -/

/-- Slot of RADIO_SCS that holds an instant. -/
def State.radioSlot (s : State) (T : Int) : Int := s.slotOf (s.a 0x2020 2) T

/-- The blocks a nap gates. -/
def State.napPins (s : State) : State :=
  allPaths.foldl (fun s n => (s.setPin .driver n 0).setPin .rxStage n 0) s

/-- In a nap slot an LO domain that still receives goes to Synth-on: LNABYP_k as after Receive, its gates to pinch-off. -/
def State.napDomain (s : State) (l : Nat) : State :=
  if s.radioState l < 3 then s
  else
    let T := s.time_
    let s := (s.rxTiles l ++ s.txTiles l).foldl (fun s q =>
      (pathsOf q).foldl (fun s p => if s.pin .gate p = 2 then s.gateEdge T p 1 else s)
        (s.edge (T + ns 100 + s.skew 0x2009 (q + 1)) .lnabyp q 1)) s
    s.edge T .radio l 2

/-- NAP_GATE: 0.5 µs after the last sample of the slot before a nap slot has left the balls, in a nap slot; every LO domain is in
Synth-on. -/
def State.napGate (s : State) : State :=
  let n := s.radioSlot s.time_
  if s.napSlot n = true ∧ s.power.napping = false ∧ s.slotStart (s.a 0x2020 2) n - s.txBoard + ns 500 ≤ s.time_ then
    ((List.range 4).foldl State.napDomain s.napPins).modPower (fun p => { p with napping := true })
  else s

/-- NAP_BIAS: 25.0 µs before the first symbol of the next slot that is not a nap slot reaches the TX balls. -/
def State.napBias (s : State) : State :=
  let n := s.radioSlot (s.time_ + ns 25000 + s.txBoard)
  if s.power.napping = true ∧ s.napSlot n = false then s.modPower (fun p => { p with napping := false }) else s

/-! ### Device state (Table 16-7) -/

/-- DEVICE_STATE: the first code of Table 16-7 that applies. -/
def State.deviceState (s : State) : Nat :=
  if s.start.step ≠ 9 then 0
  else if s.power.hand.isSome ∨ s.power.wakeStep ≠ 0 ∨ s.power.settling = true then 6
  else if s.power.dormant then 5
  else if s.napSlot (s.radioSlot s.time_) then 4
  else if s.a 0x5040 4 = 1 then 3
  else if s.a 0x5040 1 ≠ 0 ∨ s.a 0x5040 2 ≠ 0 ∨ s.a 0x5040 3 ≠ 0 then 2
  else 1

/-! ### The commands -/

def execLedgerRequest (t : Tick) (reqs : List LedReq) (s : State) : Host.Outcome State Fault Refusal :=
  s.run t (fun s => s.ledMany reqs)

def execLedgerCapWrite (t : Tick) (r : Req) (rail v : Nat) (s : State) : Host.Outcome State Fault Refusal :=
  s.run t (fun s => s.writeBy r 0x5000 (rail % 8 + 1) (objBytes 0x5000 1 v) (fun s v => s.capWrite (rail % 8) v))

def execPowerReq (t : Tick) (r : Req) (v : Nat) (s : State) : Host.Outcome State Fault Refusal :=
  s.run t (fun s => s.writeBy r 0x5020 1 (objBytes 0x5020 1 v) State.powerReq)

def execDomainReqDown (t : Tick) (r : Req) (d : Nat) (s : State) : Host.Outcome State Fault Refusal :=
  s.run t (fun s => s.writeBy r 0x5021 (d % 22 + 1) [0] (fun s v => s.domReq (d % 22) v))

def execDomainReqUp (t : Tick) (r : Req) (d : Nat) (s : State) : Host.Outcome State Fault Refusal :=
  s.run t (fun s => s.writeBy r 0x5021 (d % 22 + 1) [1] (fun s v => s.domReq (d % 22) v))

def execDomainAnswer (t : Tick) (d : Nat) (s : State) : Host.Outcome State Fault Refusal := s.run t (fun s => s.domAnswer d)
def execDomainAnswerTimeout (t : Tick) (d : Nat) (s : State) : Host.Outcome State Fault Refusal := s.run t (fun s => s.domAnswerLate d)
def execDomainPowerDown (t : Tick) (d : Nat) (s : State) : Host.Outcome State Fault Refusal := s.run t (fun s => s.domDown d)
def execWakePin (t : Tick) (s : State) : Host.Outcome State Fault Refusal := s.run t (fun s => s.wakeSource 3)
def execWakeStallTimeout (t : Tick) (d : Nat) (s : State) : Host.Outcome State Fault Refusal := s.run t (fun s => s.wakeStall d)

def execLaneWakeDetect (t : Tick) (p kind : Nat) (s : State) : Host.Outcome State Fault Refusal :=
  s.run t (fun s => if 2 < p then s else s.laneWake p kind)

def execTimeAlarm (t : Tick) (r : Req) (n v : Nat) (s : State) : Host.Outcome State Fault Refusal :=
  s.run t (fun s => s.writeBy r 0x123C (n % 4 + 1) (objBytes 0x123C 1 v) (fun s v => acts (s.timeAlarm (n % 4) v)))

def execTalarm (t : Tick) (n : Nat) (s : State) : Host.Outcome State Fault Refusal := s.run t (fun s => s.talarm n)
def execNapGate (t : Tick) (s : State) : Host.Outcome State Fault Refusal := s.run t State.napGate
def execNapBias (t : Tick) (s : State) : Host.Outcome State Fault Refusal := s.run t State.napBias

end Sys2Proof.Machine
end

