-- ==== Sys2Proof/Machine/Sec.lean ====
section
/-!
DEFINITION. The hallmark engine (chapter 18): bundle checks and loading (R430 to R433), swap, trial and confirmation (R434 to
R436), sessions and credentials (R439 to R441), attestation (R442), and the control restart they share with chapter 19.
-/

namespace Sys2Proof.Machine

/-- The hallmark engine put through a function. -/
def State.modSec (s : State) (f : Sec → Sec) : State := { s with sec := f s.sec }

/-- Start-up and reset put through a function. -/
def State.modStart (s : State) (f : Start → Start) : State := { s with start := f s.start }

/-- Cost of the engine while it verifies, signs or copies, and of a fuse blow (R443). Each operation books its own (DESIGN CHOICE,
assumption 82). -/
def secCost : List Nat := costOn rCore 4
def blowCost : List Nat := costOn rCore 2

/-! ### Bundles (Tables 18-1, 18-2) -/

/-- Where the bytes of a bundle are read: offset and length to bytes. -/
abbrev Reader := Nat → Nat → List Nat

/-- A bundle in patch staging, most significant byte first (R430). -/
def State.staged (s : State) : Reader := fun o n => s.rdBytes (0x70000000 + o) n

/-- A bundle read from elsewhere, as bytes. -/
def readerOf (l : List Nat) : Reader := fun o n => (l.drop o).take n

/-- A field of a header. -/
def hdr (h : List Nat) (o n : Nat) : Nat := ofBytesBE ((h.drop o).take n)

/-- "AQ9600", padded with 0x00. -/
def partName : Nat := 0x4151393630300000

/-- MAGIC, FORMAT, HDR_LEN, reserved bytes, IMAGE_LEN and the bundle's length. -/
def formatOk (h : List Nat) : Bool :=
  decide (h.length = 512) && hdr h 0 4 == 0x4151484D && hdr h 4 2 == 1 && hdr h 6 2 == 512 && hdr h 496 16 == 0 &&
  decide (4 ≤ hdr h 24 4) && decide (hdr h 24 4 ≤ 1039824) && decide (hdr h 24 4 % 4 = 0)

/-- The key slot exists, is not revoked, holds the hash of the bundle's keys, and is not the one REVOKE names. -/
def State.keyOk (s : State) (h : List Nat) : Bool :=
  let k := hdr h 17 1
  decide (k < 4) && !bit (s.o 0x8000 0x0D) k && Config.sha384 ((h.drop 80).take 416) == Config.keyHash k && !bit (hdr h 18 1) k

/-- The first check of Table 18-2 that fails, or OK (R431). -/
def State.bundleStatus (s : State) (b : Reader) : Nat :=
  let h := b 0 512
  let n := hdr h 24 4
  if !formatOk h then St.fwFormat
  else if hdr h 8 8 ≠ partName ∨ bit (hdr h 16 1) 0 = false then St.fwWrongPart
  else if !s.keyOk h then St.fwKey
  else if hdr h 19 1 < s.o 0x8000 0x0A ∨ 64 < hdr h 19 1 then St.fwRollback
  else if Config.sha384 (b 512 n) ≠ hdr h 32 48 then St.fwDigest
  else if Config.rsaOk (hdr h 80 384) h (ofBytesBE (b (512 + n) 384)) = false then St.fwSigRsa
  else if Config.slhOk (hdr h 464 32) h (ofBytesBE (b (896 + n) 7856)) = false then St.fwSigSlh
  else St.ok

/-- What a bank holds of a bundle. -/
def imageOf (h : List Nat) : Image := ⟨hdr h 20 4, hdr h 19 1, hdr h 28 4, hdr h 32 48, bits (hdr h 18 1) 0 4⟩

/-- The inactive bank (R433). -/
def State.setInact (s : State) (i : Option Image) : State :=
  let m := i.getD Image.init
  ((s.modSec (fun c => { c with inact := i })).seto 0x8000 0x0B m.version).seto 0x8000 0x0C m.svn

/-- The running bank and its objects (R434). -/
def State.setRun (s : State) (bank : Nat) (i : Image) : State :=
  let s := ((s.modSec (fun c => { c with run := i })).seto 0x1000 5 bank).seto 0x1000 4 i.version
  ((s.seto 0x1000 7 i.ddf).seto 0x8000 8 i.measure).seto 0x8000 9 i.svn

/-- The inactive bank holds an image that the rollback counter allows. -/
def State.inactOk (s : State) : Bool := s.sec.inact.any (fun i => decide (s.o 0x8000 0x0A ≤ i.svn))

/-- The banks exchange roles; every DSP core reloads from the new one before its next task (R434). -/
def State.swapBanks (s : State) : State :=
  match s.sec.inact with
  | some i =>
    let s := (s.setInact (some s.sec.run)).setRun (1 - s.o 0x1000 5) i
    { s with dpd := { s.dpd with reload := List.range 24 } }
  | none => s

/-- A bundle that passed at boot: it is copied into bank 0, bank 1 is empty, and firmware starts in TRIAL (R437). A wake
that had to boot goes on with step 3 of R400. -/
def State.bootImage (s : State) (h : List Nat) (source : Nat) : State :=
  let s := (((s.setRun 0 (imageOf h)).setInact none).seto 0x8000 1 1).seto 0x8000 0x0E source
  let s := s.modSec (fun c => { c with trialAt := some s.now, verify := none })
  let s : State := { s.modStart (fun x => { x with romWait := false, boot := [] }) with cpAbsent := some (s.cpAbsent.getD s.now) }
  if s.start.step = 2 then s.modStart (fun x => { x with step := 3, ok := true })
  else if s.power.wakeStep = 2 then s.wakeGo 3 else s

/-! ### Loading (R433) -/

/-- A swap commit is accepted and waits. -/
def State.swapPending (s : State) : Bool := s.commits.any (fun c => smGet 0 c.vals (key 0x8000 5) == 1)

/-- The credit of a verification. -/
def State.verifyAsk (s : State) : State := (s.ask .fwVerify 0 secCost Dom.cp).2

/-- FW_VERIFY. -/
def State.fwVerify (s : State) (r : Req) (v : Nat) : Nat × State :=
  if v = 0 then acts s
  else if s.o 0x8000 2 = 1 ∨ s.swapPending = true ∨ s.o 0x8000 1 = 1 then (St.fwBusy, s)
  else acts (((s.seto 0x8000 2 1).modSec (fun c => { c with verify := some (s.now, if r.kind = 3 then 2 else 1) })).verifyAsk)

/-- A verification that ends in FAILED. -/
def State.verifyFail (s : State) (st : Nat) : State :=
  let s := (s.release .fwVerify 0).modSec (fun c => { c with verify := none })
  (((s.seto 0x8000 2 3).seto 0x8000 4 st).bump 0x8000 0x10 1).raise Al.fwVerifyFail 0

/-- FW_VERIFY_DONE: staging is judged as it stands. A bundle that passes while the ROM waits for one is started at once. -/
def State.verifyDone (s : State) : State :=
  if s.granted .fwVerify 0 = false then s
  else
    match s.sec.verify with
    | none => s
    | some (_, src) =>
    match s.bundleStatus s.staged with
    | 0 =>
      let h := s.staged 0 512
      let s := (((s.release .fwVerify 0).modSec (fun c => { c with verify := none })).seto 0x8000 2 2).seto 0x8000 4 0
      if s.recovery then s.bootImage h src else s.setInact (some (imageOf h))
    | e => s.verifyFail e

/-- A verification that waits for credit asks again, or ends after 1 s (R443). -/
def State.verifyRetry (s : State) : State :=
  match s.sec.verify with
  | some (t, _) =>
    if s.granted .fwVerify 0 then s
    else
      let s := s.verifyAsk
      if s.granted .fwVerify 0 then s else if t + tSec ≤ s.now then s.verifyFail St.ledgerRefused else s
  | none => s

/-! ### Confirmation (R435) -/

/-- The next fuse asks for its credit and is blown. -/
def State.blowNext (s : State) : State :=
  if s.sec.blow = [] ∨ s.sec.blowAt.isSome = true then s
  else
    let r := s.ask .otp 0 blowCost Dom.cp
    if r.1 then r.2.modSec (fun c => { c with blowAt := some s.now, blowWait := none })
    else r.2.modSec (fun c => { c with blowWait := some (c.blowWait.getD s.now) })

/-- Firmware in TRIAL is confirmed: its fuses are blown, one after another. -/
def State.confirm (s : State) : State :=
  if s.o 0x8000 1 ≠ 1 ∨ s.sec.blow ≠ [] then s
  else
    let fuses := List.replicate (s.sec.run.svn - s.o 0x8000 0x0A) 0 ++
      ((List.range 4).filter (fun j => bit s.sec.run.revoke j && !bit (s.o 0x8000 0x0D) j)).map (· + 1)
    let s := s.modSec (fun c => { c with trialAt := none, blow := fuses, tries := 0 })
    if fuses = [] then s.seto 0x8000 1 0 else s.blowNext

/-- FW_CONFIRM. -/
def State.fwConfirm (s : State) (v : Nat) : Nat × State := acts (if v = 1 then s.confirm else s)

/-- FW_TRIAL_EXPIRY: FW_TRIAL_TIME has passed since the swap. -/
def State.trialExpiry (s : State) : State :=
  match s.sec.trialAt with
  | some t => if s.o 0x8000 7 ≠ 0 ∧ t + s.o 0x8000 7 * tSec ≤ s.now then s.confirm else s
  | none => s

/-- The effect of a blown fuse: the counter, or the revocation of a key slot (R432). -/
def State.fuseSet (s : State) (f : Nat) : State :=
  if f = 0 then
    let s := s.seto 0x8000 0x0A (s.o 0x8000 0x0A + 1)
    if s.o 0x8000 0x0A = 64 then s.raise Al.rollbackExhausted 0 else s
  else s.setBit 0x8000 0x0D (f - 1) true

/-- OTP_FUSE_BLOW: a blow of 1 ms ends and is read back (R435). -/
def State.fuseDone (s : State) (ok : Bool) : State :=
  match s.sec.blowAt, s.sec.blow with
  | some t, f :: l =>
    if s.now < t + tMs then s
    else
      let s := (s.release .otp 0).modSec (fun c => { c with blowAt := none })
      if ok then
        let s := (s.fuseSet f).modSec (fun c => { c with blow := l, tries := 0 })
        if l = [] then s.seto 0x8000 1 0 else s.blowNext
      else if s.sec.tries < 3 then (s.modSec (fun c => { c with tries := c.tries + 1 })).blowNext
      else (s.modSec (fun c => { c with blow := [], tries := 0 })).raise Al.otpFault 0
  | _, _ => s

/-- A fuse blow that waits for credit asks again; after 1 s it waits for the next slot boundary (R443). -/
def State.blowRetry (s : State) : State :=
  match s.sec.blowWait with
  | some t => if s.now < t + tSec then s.blowNext else s
  | none => s

/-- The slot boundary retries it. -/
def State.blowBoundary (s : State) : State :=
  match s.sec.blowWait with
  | some t => if t + tSec ≤ s.now then (s.modSec (fun c => { c with blowWait := none })).blowNext else s
  | none => s

/-! ### Control restart (R15, R345, R455) -/

/-- A control restart begins: the staging set is lost, firmware tasks lose their locks, the control processor is absent. -/
def State.ctrlRestart (s : State) (cause : Nat) : State :=
  let s := (s.loseStage).resetHook (fun w => ownKind w == 1)
  let s := ((s.bump 0x5070 6 1).seto 0x5070 1 cause).modStart (fun x => { x with restart := some s.now })
  s.cpGone

/-- Firmware has started at least once and the CP domain is on. -/
def State.cpRuns (s : State) : Bool := decide (3 < s.start.step) && s.domOn Dom.cp && (s.power.wakeStep == 0 || decide (3 < s.power.wakeStep))

/-- FW_SWAP activates (R434). -/
def State.fwSwap (s : State) : State :=
  if s.sec.inact = none then s
  else
    let s := (s.swapBanks.seto 0x8000 1 1).modSec (fun c => { c with trialAt := some s.now })
    s.ctrlRestart 5

/-- A watchdog restart while in TRIAL: back to the other bank if it may run, and otherwise the trial goes on and no
longer ends by time (R435, R436). -/
def State.revert (s : State) : State :=
  if s.o 0x8000 1 ≠ 1 then s
  else if s.inactOk then
    let s := ((s.swapBanks.seto 0x8000 1 0).release .otp 0).modSec (fun c => { c with
      trialAt := none, blow := [], blowAt := none, blowWait := none, tries := 0 })
    (s.bump 0x8000 0x0F 1).raise Al.fwReverted 0
  else s.modSec (fun c => { c with trialAt := none })

/-- WATCHDOG_EXPIRY. -/
def State.watchdog (s : State) : State := if s.cpRuns then s.revert.ctrlRestart 4 else s

/-! ### Sessions (R439, R440) -/

/-- SESSION_CHALLENGE: 32 fresh bytes, bound to the reader. -/
def State.challenge (s : State) (r : Req) : Nat × List Nat × State :=
  let d := s.draw 256
  (St.ok, bytesBE 32 d.1, d.2.modSec (fun c => { c with chal := some (d.1, reqWord r, s.now) }))

/-- CHALLENGE_EXPIRY. -/
def State.challengeExpiry (s : State) : State :=
  match s.sec.chal with
  | some (_, _, t) => if t + 60 * tSec ≤ s.now then s.modSec (fun c => { c with chal := none }) else s
  | none => s

/-- The signatures a requester writes. -/
def State.respRsa (s : State) (r : Req) (v : Nat) : Nat × State := acts (s.modSec (fun c => { c with rsa := some (reqWord r, v) }))
def State.respSlh (s : State) (r : Req) (v : Nat) : Nat × State := acts (s.modSec (fun c => { c with slh := some (reqWord r, v) }))

/-- The message of Table 18-4. -/
def sessionMsg (chal : Nat) (r : Req) : List Nat :=
  bytesBE 4 0x41514D53 ++ bytesBE 32 chal ++ bytesBE 4 (if r.kind = 3 then 0 else r.id % 2 ^ 18) ++ bytesBE 8 Config.uniqueId

/-- Keys of a credential: modulus and SLH-DSA key (R441); slot 0xFF is the vendor's. -/
def State.credKeys (s : State) (slot : Nat) : Nat × Nat :=
  if slot = 0xFF then (Config.vendorRsa, Config.vendorSlh)
  else (s.o 0x8021 (slot + 1) / 2 ^ 256, s.o 0x8021 (slot + 1) % 2 ^ 256)

/-- Both signatures that the requester wrote verify. -/
def State.sigsOk (s : State) (r : Req) (slot chal : Nat) : Bool :=
  let k := s.credKeys slot
  let m := sessionMsg chal r
  (match s.sec.rsa with | some (w, v) => w == reqWord r && Config.rsaOk k.1 m v | none => false) &&
  (match s.sec.slh with | some (w, v) => w == reqWord r && Config.slhOk k.2 m v | none => false)

/-- A failed open counts; five within 60 s start a lockout (R440). -/
def State.openFails (s : State) : State :=
  let l := s.now :: s.sec.fails.filter (fun t => decide (s.now < t + 60 * tSec))
  let s := s.bump 0x8020 7 1
  if 5 ≤ l.length then (s.modSec (fun c => { c with fails := [], lockout := some s.now })).raise Al.sessionLockout 0
  else s.modSec (fun c => { c with fails := l })

/-- An open that took its credit is judged on its signatures, and the credit is released. -/
def State.openJudge (s : State) (r : Req) (slot chal : Nat) : Nat × State :=
  let ok := s.sigsOk r slot chal
  let s := (s.release .session 0).modSec (fun c => { c with rsa := none, slh := none, openWait := none })
  if ok then
    let s := (s.setLock 26 ⟨reqWord r, some (s.now + s.o 0x8020 6 * tSec)⟩).seto 0x8023 2 (if slot = 0xFF then 3 else 2)
    (St.ok, s.modSec (fun c => { c with slot := slot }))
  else (St.sessionBad, s.openFails)

/-- A session whose lease ends in this cycle ends before an open of the cycle is judged (Table 18-6). -/
def State.sessionDue (s : State) : State :=
  match (s.lock 26).leaseEnd with
  | some t => if (s.lock 26).owner ≠ 0 ∧ t ≤ s.now then (s.safeState 26).bump 0x1013 27 1 else s
  | none => s

/-- SESSION_OPEN: the order of R440; every open consumes the challenge. An open without credit is answered later. -/
def State.sessionOpen (s : State) (r : Req) (slot : Nat) : Option Nat × State :=
  let s := s.sessionDue
  let ch := s.sec.chal
  let s := s.modSec (fun c => { c with chal := none })
  let w := (s.lock 26).owner
  if s.sec.lockout.isSome then (some St.sessionLockout, s)
  else if w ≠ 0 ∧ w ≠ reqWord r then (some St.lockHeld, s)
  else
    match ch with
    | some (v, who, t) =>
      if who ≠ reqWord r ∨ t + 60 * tSec ≤ s.now then (some St.sessionBad, s.openFails)
      else if slot ≠ 0xFF ∧ s.o 0x8022 (slot + 1) ≠ 1 then (some St.sessionBad, s.openFails)
      else
        let a := s.ask .session 0 secCost Dom.cp
        if a.1 then let x := a.2.openJudge r slot v; (some x.1, x.2)
        else (none, a.2.modSec (fun c => { c with openWait := some ⟨r, slot, v, s.now⟩ }))
    | none => (some St.sessionBad, s.openFails)

/-- An open that waits for credit asks again, or is refused after 1 s (R443). -/
def State.openRetry (s : State) : State :=
  match s.sec.openWait with
  | some o =>
    let a := s.ask .session 0 secCost Dom.cp
    let w := objWord 0x8020 4
    if a.1 then let x := a.2.openJudge o.req o.slot o.chal; x.2.answer o.req 2 w x.1 []
    else if o.since + tSec ≤ s.now then (a.2.modSec (fun c => { c with openWait := none })).answer o.req 2 w St.ledgerRefused []
    else a.2
  | none => s

/-- SESSION_CLOSE, by the holder only. -/
def State.sessionClose (s : State) (r : Req) (v : Nat) : Nat × State :=
  if v = 0 then acts s
  else if (s.lock 26).owner ≠ reqWord r ∨ reqWord r = 0 then (St.notOwner, s) else acts s.sessionEnd

/-- SESSION_LOCKOUT_END. -/
def State.lockoutEnd (s : State) : State :=
  match s.sec.lockout with
  | some t => if t + 60 * tSec ≤ s.now then (s.modSec (fun c => { c with lockout := none })).clearAl Al.sessionLockout 0 else s
  | none => s

/-! ### Credentials (R441) -/

/-- CRED_KEYS of slot n. -/
def State.credWrite (s : State) (n v : Nat) : Nat × State :=
  if s.o 0x8022 (n + 1) = 1 then (St.credSlotUsed, s)
  else acts (((s.seto 0x8021 (n + 1) v).seto 0x8022 (n + 1) 1).modStart (fun x => { x with credAt := some s.now }))

/-- CRED_REVOKE. -/
def State.credRevoke (s : State) (n : Nat) : Nat × State :=
  let s := (s.seto 0x8022 (n + 1) 2).modStart (fun x => { x with credAt := some s.now })
  acts (if (s.lock 26).owner ≠ 0 ∧ s.sec.slot = n then s.sessionEnd else s)

/-! ### Attestation (R442) -/

/-- Indices whose rows an index repeats, in ascending order: how many follow each entry of the dictionary. -/
def repeats (i : Nat) : List Nat := (List.range 16).filterMap (fun k => if k = 0 ∨ baseIndex (i + k) = i then some (i + k) else none)

/-- The demands of one index, each as index, subindex and value, in ascending subindex. -/
def State.demandsOf (s : State) (e : ObjIndex) (i : Nat) : List Nat :=
  e.rows.flatMap (fun r => match r.mode with
    | .rw | .rws => (List.range (r.hi - r.lo + 1)).flatMap (fun k =>
        bytesBE 2 i ++ bytesBE 1 (r.lo + k) ++ bytesBE r.ty.len (s.o i (r.lo + k)))
    | _ => [])

/-- CONFIG_DIGEST (Table 18-5). -/
def State.configDigest (s : State) : Nat :=
  let l := (List.range 256).flatMap (fun p => (dictPage p).flatMap (fun e => (repeats e.index).map (fun i => (i, e))))
  Config.sha384 ((sortBy (fun x => x.1) l).flatMap (fun x => s.demandsOf x.2 x.1))

/-- The report body of Table 18-5. -/
def State.attestBody (s : State) (nonce : Nat) : List Nat :=
  bytesBE 4 0x41514154 ++ bytesBE 2 1 ++ bytesBE 2 256 ++ bytesBE 32 nonce ++ bytesBE 8 Config.uniqueId ++
  bytesBE 4 s.addr ++ bytesBE 4 (s.o 0x1000 4) ++ bytesBE 1 (s.o 0x8000 9) ++ bytesBE 1 (s.o 0x8000 0x0A) ++
  bytesBE 1 (s.o 0x1000 5) ++ bytesBE 1 (s.o 0x8000 1) ++ bytesBE 48 (s.o 0x8000 8) ++ bytesBE 48 s.configDigest ++
  bytesBE 4 (s.o 0x4800 4) ++ bytesBE 1 (s.o 0x4800 2) ++ bytesBE 1 0 ++ bytesBE 2 (s.o 0x4800 6) ++ bytesBE 4 (s.o 0x4800 7) ++
  bytesBE 12 (time96 s.time_) ++ bytesBE 1 (s.o 0x1200 0x0B) ++ bytesBE 1 s.deviceState ++ bytesBE 2 0 ++
  bytesBE 4 (s.o 0xA000 3) ++ List.replicate 68 0

/-- Signing begins. -/
def State.attestGo (s : State) (body : Nat) : State :=
  ((((s.seto 0x8030 2 1).seto 0x8030 3 body).seto 0x8030 4 0).seto 0x8030 5 0).modSec (fun c => { c with attWait := none })

/-- ATTEST_REQ; without credit it is answered later, and its snapshot is kept. -/
def State.attestReq (s : State) (r : Req) (nonce : Nat) : Option Nat × State :=
  if s.o 0x8030 2 = 1 ∨ s.o 0x8030 2 = 2 ∨ s.sec.attWait.isSome = true then (some St.attestBusy, s)
  else
    let body := ofBytesBE (s.attestBody nonce)
    let a := s.ask .attest 0 secCost Dom.cp
    if a.1 then (some St.ok, a.2.attestGo body)
    else (none, a.2.modSec (fun c => { c with attWait := some (r, body, s.now) }))

/-- An attestation that waits for credit asks again, or is refused after 1 s. -/
def State.attestRetry (s : State) : State :=
  match s.sec.attWait with
  | some (r, body, t) =>
    let a := s.ask .attest 0 secCost Dom.cp
    let w := objWord 0x8030 1
    if a.1 then (a.2.attestGo body).answer r 2 w St.ok []
    else if t + tSec ≤ s.now then (a.2.modSec (fun c => { c with attWait := none })).answer r 2 w St.ledgerRefused []
    else a.2
  | none => s

/-- ATTEST_RSA_DONE. -/
def State.attestRsa (s : State) : State :=
  if s.o 0x8030 2 ≠ 1 then s
  else
    let d := s.draw 384
    (d.2.seto 0x8030 4 (Config.rsaSign (bytesBE 256 (s.o 0x8030 3)) d.1)).seto 0x8030 2 2

/-- ATTEST_SLH_DONE. -/
def State.attestSlh (s : State) : State :=
  if s.o 0x8030 2 ≠ 2 then s
  else
    let d := s.draw 128
    ((d.2.seto 0x8030 5 (Config.slhSign (bytesBE 256 (s.o 0x8030 3)) d.1)).seto 0x8030 2 3).release .attest 0

/-- Every hallmark operation that waits for credit asks again (R443). -/
def State.secRetry (s : State) : State := s.verifyRetry.blowRetry.openRetry.attestRetry

/-! ### The commands -/

def execFwVerify (t : Tick) (r : Req) (v : Nat) (s : State) : Host.Outcome State Fault Refusal :=
  s.run t (fun s => s.writeBy r 0x8000 3 (objBytes 0x8000 3 v) (fun s v => s.fwVerify r v))
def execFwVerifyDone (t : Tick) (s : State) : Host.Outcome State Fault Refusal := s.run t State.verifyDone
def execFwConfirm (t : Tick) (r : Req) (v : Nat) (s : State) : Host.Outcome State Fault Refusal :=
  s.run t (fun s => s.writeBy r 0x8000 6 (objBytes 0x8000 6 v) State.fwConfirm)
def execFwTrialExpiry (t : Tick) (s : State) : Host.Outcome State Fault Refusal := s.run t State.trialExpiry
def execOtpFuseBlow (t : Tick) (ok : Bool) (s : State) : Host.Outcome State Fault Refusal := s.run t (fun s => s.fuseDone ok)
def execWatchdogExpiry (t : Tick) (s : State) : Host.Outcome State Fault Refusal := s.run t State.watchdog
def execSessionChallenge (t : Tick) (r : Req) (s : State) : Host.Outcome State Fault Refusal :=
  s.run t (fun s => s.readBy r 0x8020 1 (fun s => s.challenge r))
def execChallengeExpiry (t : Tick) (s : State) : Host.Outcome State Fault Refusal := s.run t State.challengeExpiry
def execSessionRespRsa (t : Tick) (r : Req) (v : Nat) (s : State) : Host.Outcome State Fault Refusal :=
  s.run t (fun s => s.writeBy r 0x8020 2 (objBytes 0x8020 2 v) (fun s v => s.respRsa r v))
def execSessionRespSlh (t : Tick) (r : Req) (v : Nat) (s : State) : Host.Outcome State Fault Refusal :=
  s.run t (fun s => s.writeBy r 0x8020 3 (objBytes 0x8020 3 v) (fun s v => s.respSlh r v))
def execSessionOpen (t : Tick) (r : Req) (slot : Nat) (s : State) : Host.Outcome State Fault Refusal :=
  s.run t (fun s => s.sessionDue.writeLate r 0x8020 4 (objBytes 0x8020 4 slot) (fun s v => s.sessionOpen r v))
def execSessionClose (t : Tick) (r : Req) (v : Nat) (s : State) : Host.Outcome State Fault Refusal :=
  s.run t (fun s => s.writeBy r 0x8020 5 (objBytes 0x8020 5 v) (fun s v => s.sessionClose r v))
def execSessionLockoutEnd (t : Tick) (s : State) : Host.Outcome State Fault Refusal := s.run t State.lockoutEnd
def execCredKeys (t : Tick) (r : Req) (n v : Nat) (s : State) : Host.Outcome State Fault Refusal :=
  s.run t (fun s => s.writeBy r 0x8021 (n % 8 + 1) (objBytes 0x8021 1 v) (fun s v => s.credWrite (n % 8) v))
def execCredRevoke (t : Tick) (r : Req) (n : Nat) (s : State) : Host.Outcome State Fault Refusal :=
  s.run t (fun s => s.writeBy r 0x8023 1 (objBytes 0x8023 1 n) State.credRevoke)
def execAttestReq (t : Tick) (r : Req) (nonce : Nat) (s : State) : Host.Outcome State Fault Refusal :=
  s.run t (fun s => s.writeLate r 0x8030 1 (objBytes 0x8030 1 nonce) (fun s v => s.attestReq r v))
def execAttestRsaDone (t : Tick) (s : State) : Host.Outcome State Fault Refusal := s.run t State.attestRsa
def execAttestSlhDone (t : Tick) (s : State) : Host.Outcome State Fault Refusal := s.run t State.attestSlh

end Sys2Proof.Machine
end

