-- ==== Sys2Proof/Machine/Rules.lean ====
section
/-!
DEFINITION. The rules a commit is judged by (R340, step 2): each object's own rule, against the state that will be in
force at the activation instant. In this file `s` is the state with the commit appended to the accepted ones, and `T` its
activation instant.
-/

namespace Sys2Proof.Machine

/-- Whether a set of staged values touches an index between two bounds. -/
def hasIdx (vals : SMap Nat) (lo hi : Nat) : Bool := vals.any (fun kv => decide (lo ≤ kv.1 / 256) && decide (kv.1 / 256 ≤ hi))

/-- All eight child routes at an instant (R321). -/
def State.routesAt (s : State) (T : Int) : List Nat :=
  [0x1101, 0x1102].flatMap (fun i => [6, 7, 8, 9].map (fun j => s.at_ T i j))

/-- A valid route entry breaks R321: LO above HI, a reserved or the own address, or an overlap with another entry. -/
def routeBad (own : Nat) (l : List Nat) (j : Nat) : Bool :=
  let w := l.getD j 0
  let lo := bits w 32 18
  let hi := bits w 0 18
  bit w 63 && (decide (hi < lo) || decide (lo = 0) || decide (hi = 0x3FFFF) || inRoute w own ||
    (List.range l.length).any (fun i => let x := l.getD i 0
      decide (i ≠ j) && bit x 63 && decide (bits x 32 18 ≤ hi) && decide (lo ≤ bits x 0 18)))

/-- A pulse output breaks R307; `acc` is the instant of acceptance. -/
def State.tpoRule (s : State) (T acc : Int) (i : Nat) : Nat :=
  let mode := s.at_ T i 1
  let per := s.at_ T i 3
  let w := s.at_ T i 4
  if w < 20 ∨ (mode = 2 ∧ per < w + 20) then St.badValue
  else if mode = 1 ∧ ofTime96 (s.at_ T i 2) < acc + ((2 * tUs : Nat) : Int) then St.timePast
  else St.ok

/-! ### The uplink burst (R48) -/

/-- Packets of a carrier in a burst, and the payload bytes of its largest. -/
def State.burstOf (s : State) (T : Int) (c : Nat) : Nat × Nat :=
  if !s.carEnabled T 1 c then (0, 0)
  else
    let l := ulLoads (s.carNrb T 1 c) (s.at_ T 0x3034 5)
    let n := (s.streamsOn T 1 c).length
    (n * l.length, if n = 0 then 0 else listMax l)

/-- Some burst does not fit its interval, or the pitch is below the wire time of the largest packet. -/
def State.burstBad (s : State) (T : Int) : Bool :=
  let pitch := s.at_ T 0x1222 0 * tNs
  let cs := (List.range 4).map (fun c => (s.carScs T 1 c, s.burstOf T c))
  let n30 := listSum ((cs.filter (fun c => c.1 ≠ 0)).map (fun c => c.2.1))
  let n15 := listSum ((cs.filter (fun c => c.1 = 0)).map (fun c => c.2.1))
  let is30 := (List.range 4).any (fun c => s.carEnabled T 1 c && decide (s.carScs T 1 c ≠ 0))
  let is15 := (List.range 4).any (fun c => s.carEnabled T 1 c && decide (s.carScs T 1 c = 0))
  let big := listMax (cs.map (fun c => c.2.2))
  let wire := ceilDiv (wireLen big) (s.at_ T 0x6000 3) * colTicks (s.at_ T 0x6000 2)
  let breaks := if is30 then
      (List.range 28).any (fun j =>
        decide (symSamples 1 ((j + 1) % 14) * tSample < (n30 + (if j % 2 = 1 then n15 else 0)) * pitch + tUs))
    else is15 && (List.range 14).any (fun j => decide (symSamples 0 ((j + 1) % 14) * tSample < n15 * pitch + tUs))
  breaks || (decide (big ≠ 0) && decide (pitch < wire))

/-! ### Synthesisers and carriers (R93, R111, R174, R178) -/

/-- The dividers a synthesiser will run on at an instant: computed, loaded from the buffer by an accepted commit, or its
own (R174, R175). -/
def State.divsAt (s : State) (T : Int) (l : Nat) : Divs :=
  if s.at_ T (loIdx l) 3 = 0 then divsFor (s.at_ T (loIdx l) 2)
  else if s.at_ T (loIdx l) 9 = 1 then s.divBuf l else (s.lo l).divs

/-- A synthesiser's objects break R173 or R174. -/
def State.loBad (s : State) (T : Int) (l : Nat) : Bool :=
  let d := s.divsAt T l
  let f := s.at_ T (loIdx l) 2
  (decide (s.at_ T (loIdx l) 1 = 1) &&
    (if s.at_ T (loIdx l) 3 = 0 then decide (f < 450000) || decide (7300000 < f) else !d.ok)) ||
  (decide (s.at_ T (loIdx l) 9 = 1) && decide (s.at_ T (loIdx l) 3 = 1) && !(s.divBuf l).ok)

/-- A tile has a path whose demand enables it, shed or not: shedding counts as not enabled only for R86 and R219 (R393). -/
def State.tileDemanded (s : State) (T : Int) (k : Nat) : Bool :=
  (pathsOf k).any (fun n => s.at_ T 0x2000 (n + 1) == 1 || s.at_ T 0x2001 (n + 1) == 1)

/-- LO_MAP_BAD (R178), for every tile with an enabled path. -/
def State.mapBad (s : State) (T : Int) : Bool :=
  let fdd := decide (s.at_ T 0x2020 1 = 1)
  (List.range 12).any (fun k => s.tileDemanded T k &&
    (decide (s.at_ T (loIdx (s.txLo T k)) 1 ≠ 1) || decide (s.at_ T (loIdx (s.rxLo T k)) 1 ≠ 1) ||
     (if fdd then s.txLo T k == s.rxLo T k else s.txLo T k != s.rxLo T k)))

/-- Occupied bands of the enabled carriers of a direction, in millihertz: centre and half width. -/
def State.bandsOf (s : State) (T : Int) (dir : Nat) : List (Nat × Nat) :=
  (List.range 4).filterMap (fun c => if s.carEnabled T dir c then
    some (s.at_ T (carIdx dir c) 4 * 1000000, 6 * s.carNrb T dir c * (if s.carScs T dir c = 0 then 15000000 else 30000000))
    else none)

/-- Two numbers' distance. -/
def dist (a b : Nat) : Nat := if a ≤ b then b - a else a - b

/-- Some pair of bands overlaps. -/
def overlaps : List (Nat × Nat) → Bool
  | [] => false
  | b :: l => l.any (fun c => decide (dist b.1 c.1 < b.2 + c.2)) || overlaps l

/-- CAR_PLACEMENT (R93, R111): a carrier out of reach of the LO of a path, or two that overlap. Every path counts, enabled or not,
whose tile names a synthesiser that runs (DESIGN CHOICE, assumption 75: one that is not active has no frequency). -/
def State.placeBad (s : State) (T : Int) : Bool :=
  [0, 1].any (fun dir =>
    let bs := s.bandsOf T dir
    let los := (List.range 12).filterMap (fun k =>
      let l := if dir = 0 then s.txLo T k else s.rxLo T k
      if s.at_ T (loIdx l) 1 = 1 then some (s.divsAt T l).freq else none)
    overlaps bs || bs.any (fun b => los.any (fun f => decide (200000000000 < dist b.1 f + b.2))))

/-- CAR_NRB of an enabled carrier is no transmission bandwidth of its CAR_SCS (R106, Table 4-14). DESIGN CHOICE (assumption 75): a
disabled carrier's pair is not judged. -/
def State.nrbBad (s : State) (T : Int) (i : Nat) : Bool :=
  decide (s.at_ T i 1 = 1) && decide (s.at_ T i 3 ∉ nrbOf (s.at_ T i 2))

/-! ### The front end and the pattern (R145, R148, R159) -/

/-- FE_ORDER of a tile (R148), skews in units of 0.5 ns. -/
def State.orderBad (s : State) (T : Int) (k : Nat) : Bool :=
  let tr := toInt 16 (s.at_ T 0x2008 (k + 1))
  let ln := toInt 16 (s.at_ T 0x2009 (k + 1))
  decide (tr + 1000 < ln) || decide (ln < tr - 400) ||
  (pathsOf k).any (fun n => decide (toInt 16 (s.at_ T 0x2004 (n + 1)) < tr))

/-- A TX symbol and an RX symbol meet. -/
def codesMeet (a b : Nat) : Bool := (txCode a && rxCode b) || (rxCode a && txCode b)

/-- RADIO_SCHED_BAD (R145, R395). -/
def State.schedBad (s : State) (T : Int) : Bool :=
  let per := s.at_ T 0x2020 3
  let l := s.patCodes T
  decide (per ∉ [1, 2, 4, 5, 8, 10, 16, 20, 32, 40]) || decide (2 ^ per ≤ s.at_ T 0x5040 6) ||
  (decide (s.at_ T 0x2020 1 = 0) &&
    (l.any (fun c => c == 3) || (l.zip (l.drop 1 ++ l.take 1)).any (fun p => codesMeet p.1 p.2) ||
     codesMeet (s.codeAt (T - 1)) (s.codeAt T)))

/-- The longest run of TX symbols in a list of codes and durations. -/
def longestTx : Nat → Nat → List (Nat × Nat) → Nat
  | best, cur, [] => max best cur
  | best, cur, (c, d) :: l => if txCode c then longestTx (max best (cur + d)) (cur + d) l else longestTx (max best cur) 0 l

/-- CX_MODE_BAD (R159; judged while CX_TX_MODE is 1). -/
def State.cxBad (s : State) (T : Int) : Bool :=
  let scs := s.at_ T 0x2020 2
  let l := s.patCodes T
  let ds := (List.range l.length).map (fun j => symSamples scs (j % 14) * tSample)
  let once := l.zip ds
  decide (s.at_ T 0x2040 4 = 1) &&
  (decide (s.at_ T 0x2020 1 = 1) || (decide (l ≠ []) && l.all txCode) ||
   decide (s.at_ T 0x2040 3 * tUs < longestTx 0 0 (once ++ once) + s.at_ T 0x2040 5 * tUs + 10 * tUs))

/-! ### Streams, tables, predistortion, watermarks, bias -/

/-- One stream ID enabled twice in the maps of a direction (Tables 4-15, 5-14). -/
def State.streamTwice (s : State) (T : Int) (dir : Nat) : Bool :=
  let ids := (List.range 4).flatMap (fun c => (s.streamsOn T dir c).map (fun k => s.slotWord T dir c k % 65536))
  ids.eraseDups.length != ids.length

/-- WM_BAD (R253): LOW < HIGH ≤ reservation, in KiB. -/
def State.wmBad (s : State) (T : Int) (i : Nat) : Bool :=
  [(1, 32), (3, 64), (5, 404)].any (fun x => decide (s.at_ T i x.1 ≤ s.at_ T i (x.1 + 1)) || decide (x.2 < s.at_ T i x.1))

/-- PA_BIAS: reserved bits or a span above 3 (R421). -/
def biasBad (v : Nat) : Bool :=
  (List.range 7).any (fun w => bits v (16 * (7 - w) + 12) 4 != 0) || bits v 3 12 != 0 || decide (3 < bits v 0 3)

/-- The rule of one staged object (R340): OK or the status that refuses the commit. `s0` is the state without the commit, `acc` the
instant of acceptance. -/
def State.ruleOf (s s0 : State) (T acc : Int) (k v : Nat) : Nat :=
  let i := k / 256
  let sub := k % 256
  let car := decide (0x3000 ≤ i) && decide (i ≤ 0x3007)
  let map := decide (0x3010 ≤ i) && decide (i ≤ 0x3017)
  let lo := decide (0x2400 ≤ i) && decide (i ≤ 0x2403)
  let path := i == 0x2000 || i == 0x2001
  if (i = 0x1101 ∨ i = 0x1102) ∧ 6 ≤ sub ∧ routeBad s.addr (s.routesAt T) ((i - 0x1101) * 4 + (sub - 6)) = true then St.badValue
  else if i = 0x1200 ∧ (sub = 6 ∨ sub = 7) ∧ s.at_ T 0x1200 7 ≤ s.at_ T 0x1200 6 then St.badValue
  else if i = 0x1201 ∧ v ≠ s0.at_ T 0x1201 1 ∧
      [0, 1].any (fun dir => (List.range 4).any (fun c => s.carEnabled T dir c || s0.carEnabled T dir c)) = true then St.carriersOn
  else if 0x1230 ≤ i ∧ i ≤ 0x1233 then s.tpoRule T acc i
  else if car ∧ sub ≤ 3 ∧ s.nrbBad T i = true then St.badValue
  else if (i = 0x1222 ∨ (0x3004 ≤ i ∧ i ≤ 0x3007) ∨ (0x3014 ≤ i ∧ i ≤ 0x3017) ∨ k = key 0x3034 5 ∨ k = key 0x6000 2 ∨
      k = key 0x6000 3) ∧ s.burstBad T = true then St.ulBurstTooLong
  else if lo ∧ s.loBad T (i - 0x2400) = true then St.badValue
  else if (path || lo || i == 0x2410 || k == key 0x2020 1) ∧ s.mapBad T = true then St.loMapBad
  else if (car || path || lo || i == 0x2410) ∧ s.placeBad T = true then St.carPlacement
  else if i = 0x2004 ∧ s.orderBad T (tileOf (sub - 1)) = true then St.feOrder
  else if (i = 0x2008 ∨ i = 0x2009) ∧ s.orderBad T (sub - 1) = true then St.feOrder
  else if (i = 0x2020 ∨ k = key 0x5040 6) ∧ s.schedBad T = true then St.radioSchedBad
  else if (i = 0x2020 ∨ i = 0x2040) ∧ s.cxBad T = true then St.cxModeBad
  else if map ∧ s.streamTwice T (if i < 0x3014 then 0 else 1) = true then St.streamDup
  else if (i = 0x3100 ∨ i = 0x3101) ∧ sub ≤ 2 ∧ 2048 < s.at_ T i 1 + s.at_ T i 2 then St.wtSizeBad
  else if (i = 0x3100 ∨ i = 0x3101) ∧ sub = 5 ∧ v = 1 ∧ s.o i 4 ≠ 2 then St.stageBusy
  else if (i = 0x3200 ∨ i = 0x3201) ∧ sub = 3 ∧ v = 1 ∧ s.o i 2 ≠ 0 then St.stageBusy
  else if (i = 0x3200 ∨ i = 0x3201) ∧ sub = 3 ∧ v = 1 ∧ s.inactiveTorn (i - 0x3200) = true then St.schedTorn
  else if (k = key 0x4000 2 ∨ k = key 0x4000 5 ∨ i = 0x4001 ∨ i = 0x4003) ∧
      dpdOver (allPaths.map (fun n => s.at_ T 0x4001 (n + 1))) (allPaths.map (fun n => s.at_ T 0x4003 (n + 1)))
        (s.at_ T 0x4000 5) (s.at_ T 0x4000 2) = true then St.dpdCapacity
  else if i = 0x4005 ∧ s.at_ T 0x4001 sub = 2 then St.dpdAdapting
  else if ((i = 0x4200 ∧ sub ≤ 8) ∨ i = 0x2050) ∧ s.at_ T 0x4200 sub * tUs < s.at_ T 0x2050 sub * tNs + 2831 * tNs then St.orxBurstShort
  else if i = 0x6111 ∧ sub ≤ 2 ∧ s.at_ T 0x6111 1 ≤ s.at_ T 0x6111 2 then St.badValue
  else if (0x6200 ≤ i ∧ i ≤ 0x6202) ∧ sub ≤ 6 ∧ s.wmBad T i = true then St.wmBad
  else if (i = 0x6001 ∨ i = 0x6002) ∧ sub = 1 ∧ v = 1 ∧ s.at_ T 0x1100 1 ≠ 1 ∧ s.at_ T 0x1100 1 ≠ 2 then St.roleWorker
  else if i = 0x7210 ∧ biasBad v = true then St.badValue
  else if i = 0x7210 ∧ v % 8 ≠ s0.at_ T i sub % 8 ∧ (s.txOn T (sub - 1) || s0.txOn T (sub - 1)) = true then St.spanLive
  else if i = 0x8000 ∧ sub = 5 ∧ v = 1 ∧ s.inactOk = false then St.fwBusy
  else St.ok

/-- Step 2: the first failing rule of the staged objects in ascending order of index and subindex. -/
def State.rulesOf (s s0 : State) (T acc : Int) (vals : SMap Nat) : Nat :=
  vals.foldl (fun st kv => if st ≠ 0 then st else s.ruleOf s0 T acc kv.1 kv.2) 0

end Sys2Proof.Machine
end

