-- ==== Sys2Proof/Machine/Commit.lean ====
section
/-!
DEFINITION. The commit (R338 to R340): its activation instant, its conditions, its credit, and its acceptance.
-/

namespace Sys2Proof.Machine

/-! ### Credit that commits govern (R104, R128, R160, R424, Tables 4-10, 5-11, 6-9, 7-3, 12-8, 17-6) -/

/-- Cost of one path-side block: tiles with an enabled path and a carrier branch. -/
def branchCost (dir scs : Nat) : List Nat :=
  costOn rCore (if dir = 0 then (if scs = 0 then 3 else 4) else (if scs = 0 then 2 else 3))

/-- The grants that commits govern at an instant: holder, cost, and the domain that asks. -/
def State.costsAt (s : State) (T : Int) : List (GKind × Nat × List Nat × Nat) :=
  let c4 := List.range 4
  let t12 := List.range 12
  let ulOn := fun c => s.carEnabled T 1 c && !s.carShed T 1 c
  let anyDl := c4.any (s.carActive T 0)
  let anyUl := c4.any ulOn
  let if_ := fun (b : Bool) (x : List Nat) => if b then x else noCost
  c4.map (fun c => (GKind.carDl, c, if_ (s.carActive T 0 c) (costOn rCore (16 + 8 * (s.streamsOn T 0 c).length)), Dom.bf)) ++
  c4.map (fun c => (GKind.carUl, c, if_ (ulOn c) (costOn rCore (12 + 6 * (s.streamsOn T 1 c).length)), Dom.bf)) ++
  t12.flatMap (fun k => c4.flatMap (fun c =>
    [(GKind.carDlTile, 4 * k + c, if_ (s.carActive T 0 c && s.tileTx T k) (branchCost 0 (s.carScs T 0 c)), k),
     (GKind.carUlTile, 4 * k + c, if_ (ulOn c && s.tileRx T k) (branchCost 1 (s.carScs T 1 c)), k)])) ++
  t12.flatMap (fun k =>
    [(GKind.tileDl, k, costAdd (costAdd (if_ (s.tileTx T k) (costOn rConv 5)) (if_ (s.tileTx T k && anyDl) (costOn rCore 6)))
        (if_ (s.tileOn T k) (costOn rRf 3)), k),
     (GKind.tileUl, k, costAdd (if_ (s.tileRx T k) (costOn rConv 5)) (if_ (s.tileRx T k && anyUl) (costOn rCore 5)), k)]) ++
  allPaths.flatMap (fun n =>
    [(GKind.pathTx, n, if_ (s.txOn T n) (costAdd (costOn rConv 14) (costOn rRf 7)), tileOf n),
     (GKind.pathRx, n, if_ (s.rxOn T n) (costAdd (costOn rConv 6) (costOn rRf 4)), tileOf n)]) ++
  c4.map (fun l => (GKind.lo, l, if_ (s.at_ T (loIdx l) 1 == 1 || s.clk.hand.any (fun h => h.sp == l)) loCost, Dom.tm)) ++
  c4.map (fun n => (GKind.tpo, n, if_ (s.at_ T (0x1230 + n) 1 != 0) (costOn rIo 1), Dom.tm)) ++
  (List.range 8).map (fun g =>
    let on := if g < 6 then (List.range 16).any (fun i => s.txOn T (16 * g + i))
      else (List.range 16).any (fun i => bit (s.at_ T 0x7200 (16 * (g - 6) + i + 1)) 3)
    (GKind.auxChan, g, if_ on (s.auxCost T g), Dom.hk))

/-- The greater of two costs on each rail. -/
def costMax (a b : List Nat) : List Nat := List.zipWith max a b

/-- What each governed holder must hold: the most it costs now and at the activation of every accepted commit. -/
def State.wanted (s : State) : List (GKind × Nat × List Nat × Nat) :=
  (s.commits.map (fun c => c.at_)).foldl (fun l T =>
    (l.zip (s.costsAt T)).map (fun x => (x.1.1, x.1.2.1, costMax x.1.2.2.1 x.2.2.2.1, x.1.2.2.2))) (s.costsAt s.time_)

/-- Domains that what is in force at an instant needs: tiles, BF, DP, HK, and the link domains of enabled ports. -/
def State.domsAt (s : State) (T : Int) : List Nat :=
  (List.range 12).filter (s.tileOn T) ++
  (if [0, 1].any (fun dir => (List.range 4).any (fun c => s.carEnabled T dir c && !s.carShed T dir c)) then [Dom.bf] else []) ++
  (if allPaths.any (fun n => s.at_ T 0x4001 (n + 1) != 0) then [Dom.dp] else []) ++
  (if allPaths.any (s.txOn T) || (List.range 32).any (fun x => bit (s.at_ T 0x7200 (x + 1)) 3) then [Dom.hk] else []) ++
  [0, 1, 2].filterMap (fun p => if s.at_ T (0x6000 + p) 1 = 1 then some (Dom.lu + p) else none)

/-- Domains that a commit needs and that nothing needed before. -/
def State.newDoms (s s0 : State) (T : Int) : List Nat := (s.domsAt T).filter (fun d => decide (d ∉ s0.domsAt T))

/-- Holders whose cost a commit changes, with what they will hold. -/
def State.changed (s s0 : State) : List (GKind × Nat × List Nat × Nat) :=
  ((s.wanted.zip s0.wanted).filter (fun x => decide (x.1.2.2.1 ≠ x.2.2.2.1))).map (fun x => x.1)

/-- Step 3: the credit of a commit, one request answered whole (R18, R340, R389). A domain that waits for VID cannot be
powered (R451). -/
def State.creditOf (s s0 : State) (T : Int) : Bool × State :=
  let off := (s.newDoms s0 T).filter (fun d => s.domState d == 0)
  let ch := s.changed s0
  let old := ch.foldl (fun c x => costAdd c (s0.costOf x.1 x.2.1)) noCost
  let new := off.foldl (fun c d => costAdd c (domCost d)) (ch.foldl (fun c x => costAdd c x.2.2.1) noCost)
  if (off.any (fun d => decide (d ≤ Dom.dc)) && s0.start.vidGoal.isSome) || !s0.fits old new then
    (false, s0.bump 0x5005 ((match ch with | x :: _ => x.2.2.2 | [] => off.headD Dom.cp) + 1) 1)
  else
    let s1 := ch.foldl (fun s x => s.book x.1 x.2.1 x.2.2.1) s
    (true, off.foldl (fun s d => (s.book .dom d (domCost d)).domWaking d) s1)

/-! ### The activation instant (R22, R339) -/

/-- The conditions of a staged object: slot boundary of the active downlink carriers, of the uplink ones, and 1,000 µs of
notice (R64 and the rules that name it). -/
structure Cond where
  dl : Bool
  ul : Bool
  late : Bool
deriving DecidableEq, Repr

/-- The condition of one staged object with its value. DESIGN CHOICE (assumption 73): a change of DPD_MODE to or from 0, which acts with
symbol 0 of its activation slot (R192), asks for a slot boundary. -/
def State.condOf (s : State) (k v : Nat) : Cond :=
  let i := k / 256
  let sub := k % 256
  let dl := decide ((0x3000 ≤ i ∧ i ≤ 0x3003) ∨ (0x3010 ≤ i ∧ i ≤ 0x3013) ∨ i = 0x3030 ∨ (i = 0x3100 ∧ (sub ≤ 2 ∨ v = 1)) ∨
    (i = 0x3200 ∧ v = 1) ∨ i = 0x2000)
  let ul := decide ((0x3004 ≤ i ∧ i ≤ 0x3007) ∨ (0x3014 ≤ i ∧ i ≤ 0x3017) ∨ i = 0x3034 ∨ (i = 0x3101 ∧ (sub ≤ 2 ∨ v = 1)) ∨
    (i = 0x3201 ∧ v = 1) ∨ i = 0x2001)
  let both := decide (i = 0x2410 ∨ k = key 0x2420 6 ∨ i = 0x4005)
  let first := decide (i = 0x2020 ∨ i = 0x1208 ∨ i = 0x1209 ∨ (0x2400 ≤ i ∧ i ≤ 0x2403 ∧ sub = 9 ∧ v = 1) ∨ (k = key 0x8000 5 ∧ v = 1))
  let mode := decide (i = 0x4001 ∧ (v = 0 ↔ s.o i sub ≠ 0))
  ⟨dl || both || first || mode, ul || both || first, dl || ul || both⟩

/-- The conditions of a set of staged values together. -/
def State.condsOf (s : State) (vals : SMap Nat) : Cond :=
  vals.foldl (fun a kv => let c := s.condOf kv.1 kv.2; ⟨a.dl || c.dl, a.ul || c.ul, a.late || c.late⟩) ⟨false, false, false⟩

/-- The state with a commit appended that activates at an instant. -/
def State.withCommit (s : State) (T : Int) (scs : Nat) (vals : SMap Nat) : State :=
  { s with commits := s.commits ++ [⟨T, scs, vals⟩] }

/-- Numerology of the grid at a candidate instant for the carriers of a direction (2: either): those active immediately before or
after it count (R339). -/
def State.gridAt (s : State) (vals : SMap Nat) (T : Int) (dir : Nat) : Nat :=
  if s.any15 (T - 1) dir || (s.withCommit T 0 vals).any15 T dir then 0 else 1

/-- The direction whose carriers a condition names; 2 for either, and for none. -/
def Cond.dir (c : Cond) : Nat := if c.dl && !c.ul then 0 else if c.ul && !c.dl then 1 else 2

/-- A candidate is a slot boundary of the carriers that a condition names. -/
def State.onSlot (s : State) (vals : SMap Nat) (T : Int) (c : Cond) : Bool :=
  decide (s.air T % (slotDur (s.gridAt vals T c.dir) : Int) = 0)

/-- The first slot boundary at or after an instant that meets a condition. -/
def State.nextOk (s : State) (vals : SMap Nat) (T : Int) (c : Cond) : Int :=
  let n := -(-(s.air T) / (slotDur 1 : Int))
  let cand := (List.range 4).map (fun (j : Nat) => s.slotStart 1 (n + (j : Int)))
  (cand.find? (fun B => s.onSlot vals B c)).getD (s.slotStart 1 n)

/-- The first symbol boundary of the air-time grid at or after an instant (R339). -/
def State.nextSym (s : State) (vals : SMap Nat) (T : Int) : Int :=
  let a := s.nextSymStart 1 T
  if s.gridAt vals a 2 = 1 then a else s.nextSymStart 0 T

/-- 50 µs, 1,000 µs and 5.12 s as differences of instants. -/
def us50 : Int := ((50 * tUs : Nat) : Int)
def us1000 : Int := ((1000 * tUs : Nat) : Int)
def s512 : Int := ((5120 * tMs : Nat) : Int)

/-- Step 1: the activation instant and the numerology it is reported in, or the status that refuses the commit. -/
def State.instantOf (s : State) (w : Nat) (vals : SMap Nat) : Nat × Int × Nat :=
  let acc := s.time_
  let c := s.condsOf vals
  let slot := c.dl || c.ul
  let named := airWord w
  let scs0 := bits w 12 1
  let T0 := if bit w 11 then
      (if slot then s.nextOk vals (acc + (if c.late then us1000 else us50)) c else s.nextSym vals (acc + us50))
    else s.tAir scs0 (s.nextSlot scs0 (acc + us50) named.sfn named.slot named.sym) named.sym
  if bit w 11 = false ∧ (!tripleOk scs0 named.sfn named.slot named.sym || decide (acc + s512 < T0)) = true then (St.badActivation, 0, 0)
  else
    let (T, scs) := match s.cal.bench with
      | some b => if (b.running || b.fixed) && isReconf vals && decide (b.start ≤ T0) && decide (T0 < b.end_) then
            (let B := s.nextOk vals (max b.end_ (acc + (if c.late then us1000 else us50))) c; (B, s.gridAt vals B c.dir))
          else (T0, if bit w 11 then s.gridAt vals T0 (if slot then c.dir else 2) else scs0)
      | none => (T0, if bit w 11 then s.gridAt vals T0 (if slot then c.dir else 2) else scs0)
    if slot && !s.onSlot vals T c then (St.badActivation, 0, 0)
    else if c.late && decide (T < acc + us1000) then (St.swapTooLate, 0, 0)
    else (St.ok, T, scs)

/-- COMMIT_ACT of an instant in a numerology (Table 14-2, NOW 0). -/
def State.actWord (s : State) (T : Int) (scs : Nat) : Nat :=
  let n := s.slotOf scs T
  airFields scs n (symAt scs (T - s.slotStart scs n).toNat) + scs * 2 ^ 12

/-! ### Acceptance -/

/-- The FCONV that the accepted commits and this one leave, with its clearance (R183): judged after every one of them. -/
def State.fconvOf (s : State) (vals : SMap Nat) : Nat × Nat × Option Nat :=
  let s1 := s.withCommit s.time_ 0 vals
  let far := s1.commits.foldl (fun m c => max m c.at_) s1.time_
  let los := ((List.range 4).filter (fun l => s1.at_ far (loIdx l) 1 == 1)).map (fun l => (s1.divsAt far l).freq)
  let cur := s.commits.foldl (fun v c => (smFind c.vals (key 0x2420 6)).getD v) (s.o 0x2420 6)
  let new := s1.chooseFconv far los (s1.at_ far 0x2420 5) cur
  (cur, new, s1.clearance far los new)

/-- A carrier's or a chain's restart is noted for the touchstones of its slot: SCS or NRB of an enabled carrier, or FCONV (R102,
R184). -/
def State.noteRestarts (s s0 : State) (T : Int) (vals : SMap Nat) : State :=
  let add := fun (s : State) (dir : Nat) (e : Nat × Int) =>
    if dir = 0 then { s with dl := { s.dl with restart := s.dl.restart ++ [e] } }
    else { s with ul := { s.ul with restart := s.ul.restart ++ [e] } }
  [0, 1].foldl (fun s dir => (List.range 4).foldl (fun s c =>
    let n := s.slotOf (s.carScs T dir c) T
    if !s.carActive T dir c then s
    else if (smFind vals (key 0x2420 6)).isSome then add s dir (c + 16, n)
    else if s0.carActive T dir c && decide (s.carScs T dir c ≠ s0.carScs T dir c ∨ s.carNrb T dir c ≠ s0.carNrb T dir c) then
      add s dir (c, n)
    else s) s) s

/-- What acceptance does at once: demands, computed dividers, tables committed, gates of newly enabled paths to pinch-off (R161), a
handover abandoned (Table 7-4). -/
def State.accepted (s s0 : State) (T : Int) (vals : SMap Nat) : State :=
  let s := (vals.filter (fun kv => kv.1 != key 0x2420 6)).foldl (fun s kv => s.seto (kv.1 / 256) (kv.1 % 256) kv.2) s
  let s := (List.range 4).foldl (fun s l =>
    if ((smFind vals (key (loIdx l) 2)).isSome || (smFind vals (key (loIdx l) 3)).isSome) && s.at_ T (loIdx l) 3 == 0 then
      s.setBuf l (s.divsAt T l) else s) s
  let s := [0, 1].foldl (fun s dir =>
    let s := if smFind vals (key (0x3100 + dir) 5) = some 1 then
        (s.seto (0x3100 + dir) 4 3).modTb dir (fun t => { t with swap := some (t.bank, T), swapped := false }) else s
    if smFind vals (key (0x3200 + dir) 3) = some 1 then
      (s.seto (0x3200 + dir) 2 2).modTb dir (fun t => { t with sched := some T, schedDone := false }) else s) s
  let s := allPaths.foldl (fun s n =>
    if s.txOn T n && !s0.txOn T n && s.domOn Dom.hk && s.pin .gate n == 0 then s.setPin .gate n 1 else s) s
  let s := match s.clk.hand with
    | some h => if hasIdx vals (loIdx h.x) (loIdx h.x) || hasIdx vals (loIdx h.sp) (loIdx h.sp) || hasIdx vals 0x2410 0x2410 then
        -- a spare that the commit makes active keeps the credit it has (R185)
        (if s.at_ T (loIdx h.sp) 1 = 1 then s.handAbandon.book .lo h.sp loCost else s.handAbandon) else s
    | none => s
  s.noteRestarts s0 T vals

/-- The value a commit sets beside the staged ones: FCONV when its choice changes it (R183, R184). -/
def State.withFconv (s : State) (vals : SMap Nat) : SMap Nat :=
  let f := s.fconvOf vals
  if f.2.1 = f.1 then vals else smInsert vals (key 0x2420 6) f.2.1

/-- The alarm and the clearance of the chosen FCONV (R183). DESIGN CHOICE (assumption 72): with no carrier enabled and no LO active there
is no distance to take: FCONV_CLEAR shows 65,535 and FCONV clears. -/
def State.fconvSeen (s : State) (d : Option Nat) : State :=
  (s.seto 0x2420 7 (min 65535 ((d.getD (65535 * 1000000000)) / 1000000000))).alarmIf Al.fconvSpur 0 (!clears? d)

/-- Judges a commit of staged values (R340). -/
def State.judgeCommit (s : State) (w : Nat) (staged : SMap Nat) : Nat × State :=
  let vals := s.withFconv staged
  let (st, T, scs) := s.instantOf w vals
  if st ≠ 0 then (st, s)
  else
    let s1 := s.withCommit T scs vals
    let st := s1.rulesOf s T s.time_ staged
    if st ≠ 0 then (st, s)
    else if (s1.newDoms s T).any (fun d => decide (s.domState d ∈ [2, 3])) then (St.powerBusy, s)
    else
      let r := s1.creditOf s T
      if !r.1 then (St.ledgerRefused, r.2)
      else
        let s2 := (r.2.accepted s T vals).fconvSeen (s.fconvOf staged).2.2
        (St.ok, (s2.seto 0x1F00 5 (s2.actWord T scs)).freeStage)

/-- A COMMIT write by a requester (R339, R340); COMMIT_LAST_STATUS records its status. -/
def State.commitWrite (s : State) (r : Req) (w : Nat) : Nat × State :=
  let x := match s.stage with
    | none => (St.nothingStaged, s)
    | some g =>
      if g.owner ≠ reqWord r then (St.notOwner, s)
      else
        let s := { s with stage := some { g with leaseEnd := s.stageEnd } }.setLock 27 ⟨g.owner, some s.stageEnd⟩
        if g.vals = [] then (St.nothingStaged, s)
        else if 8 ≤ s.commits.length then (St.commitFull, s)
        else s.judgeCommit w g.vals
  (x.1, x.2.seto 0x1F00 6 x.1)

/-- STAGE_DISCARD (R338): the owner empties and frees the set. -/
def State.stageDiscard (s : State) (r : Req) (v : Nat) : Nat × State :=
  if v = 0 then acts s
  else match s.stage with
    | some g => if g.owner = reqWord r then acts s.freeStage else (St.notOwner, s)
    | none => (St.notOwner, s)

/-- STAGE_LEASE_EXPIRY (R342, R345): a COMMIT in the cycle in which the lease ends renews it (Table 14-13). -/
def State.stageLease (s : State) : State :=
  match s.stage with
  | some g => if g.leaseEnd < s.now then ((s.loseStage).bump 0x1013 28 1).raise Al.commitLease 0 else s
  | none => s

/-! ### The commands -/

def execCommit (t : Tick) (r : Req) (w : Nat) (s : State) : Host.Outcome State Fault Refusal :=
  s.run t (fun s => s.writeBy r 0x1F00 1 (objBytes 0x1F00 1 w) (fun s v => s.commitWrite r v))

def execStageDiscard (t : Tick) (r : Req) (v : Nat) (s : State) : Host.Outcome State Fault Refusal :=
  s.run t (fun s => s.writeBy r 0x1F00 7 (objBytes 0x1F00 7 v) (fun s v => s.stageDiscard r v))

def execStageLeaseExpiry (t : Tick) (s : State) : Host.Outcome State Fault Refusal := s.run t State.stageLease

end Sys2Proof.Machine
end

