-- ==== Sys2Proof/Machine/Hk.lean ====
section
/-!
DEFINITION. Housekeeping (chapter 17): the conversions and their ring, the judgement of each round, protection of the
paths, and the aux DAC.
-/

namespace Sys2Proof.Machine

/-! ### Conversions (R406 to R409) -/

/-- Sub-positions of a channel (Table 17-1). -/
def subsOf (c : Nat) : Nat := if 24 ≤ c ∧ c < 32 then 24 else if c = 33 ∨ 64 ≤ c then 0 else 1

/-- The 247 conversions of a round, in order (R407): channel and sub-position. -/
def hkList : List (Nat × Nat) := (List.range 64).flatMap (fun c => (List.range (subsOf c)).map (fun i => (c, i)))

/-- The sensor a channel reads. -/
def sensorOf (c : Nat) : Option Nat :=
  if 34 ≤ c ∧ c < 58 then some (c - 34) else if c = 58 ∨ c = 59 then some (c - 30) else if 60 ≤ c ∧ c < 64 then some (c - 36) else none

/-- The channel of a sensor. -/
def chanOf (n : Nat) : Nat := if n < 24 then n + 34 else if n < 28 then n + 36 else n + 30

/-- Word 0 of a ring entry (Table 17-2). -/
def hkWord (c i : Nat) (notReady shot susp : Bool) (code : Nat) : Nat :=
  c * 2 ^ 26 + i * 2 ^ 21 + b2n notReady * 2 ^ 20 + b2n shot * 2 ^ 19 + b2n susp * 2 ^ 18 + code % 4096

/-- CH15 writes an entry into the ring (R379): an entry that has not been read and is overwritten counts as lost. -/
def State.ringWrite (s : State) (w0 w1 : Nat) : State :=
  let i := s.o 0x9000 4
  let s := (s.wr32 (0x30000000 + 8 * i) w0).wr32 (0x30000000 + 8 * i + 4) w1
  let s := if s.hk.unread < 4096 then s.modHk (fun h => { h with unread := h.unread + 1 })
    else
      let sec := (s.time_ / (tSec : Int)).toNat
      let s := s.bump 0x9000 6 1
      if s.hk.ringOver = some sec then s else (s.raise Al.hkRingOverrun 0).modHk (fun h => { h with ringOver := some sec })
  let n := (i + 1) % 4096
  let s := s.seto 0x9000 4 n
  if n % max (s.o 0x9000 7) 1 = 0 then s.trigger 0x1A else s

/-- HK_RING_RD is written (R379). -/
def State.ringRead (s : State) (v : Nat) : Nat × State :=
  acts ((s.seto 0x9000 5 v).modHk (fun h => { h with unread := (s.o 0x9000 4 + 4096 - v) % 4096 }))

/-- HK_ROUND_START: the counter has passed a multiple of 10 ms (R407). -/
def State.hkRound (s : State) : State :=
  let k := s.time_ / ((10 * tMs : Nat) : Int)
  if !s.domOn Dom.hk ∨ s.clk.hkStopped = true ∨ s.hk.pos < 247 ∨ s.hk.roundAt = some k then s
  else (s.select 5 0).modHk (fun h => { h with pos := 0, roundAt := some k, bad := false, judged := false, tx := [], suspAt := s.o 0x7101 1 })

/-- HK_REF_READY (R408). -/
def State.hkReady (s : State) : State :=
  match s.hk.refAt with
  | some t => if t + 2 * tMs ≤ s.now then s.seto 0x7000 1 1 else s
  | none => s

/-- HK_ONESHOT (R409). -/
def State.hkOneshot (s : State) (v : Nat) : Nat × State :=
  if subsOf (bits v 8 6) ≤ bits v 0 5 then (St.badValue, s)
  else if s.hk.oneshot.isSome then (St.hkBusy, s)
  else acts (s.modHk (fun h => { h with oneshot := some v, shot := decide (h.pos = 247) }))

/-- The path whose detector a channel and sub-position read. -/
def detPath (c i : Nat) : Nat := if c < 28 then 24 * (c - 24) + i else 24 * (c - 28) + i

/-- One conversion that ends now: its entry and, if the reference was ready when it started, its code. -/
def State.convert (s : State) (c i code : Nat) (shot : Bool) : State :=
  let T := s.time_ - ((tUs : Nat) : Int)
  let notReady := match s.hk.refAt with | some t => decide (s.now < t + 2 * tMs + tUs) | none => true
  let susp := match sensorOf c with | some n => bit s.hk.suspAt n | none => false
  let w := hkWord c i notReady shot susp code
  let s := s.ringWrite w ((T / (tSec : Int) % 4).toNat * 2 ^ 30 + (T % (tSec : Int)).toNat / tNs)
  let s := if shot then s.seto 0x7000 3 w else s
  if notReady then (s.bump 0x7220 4 1).modHk (fun h => { h with bad := h.bad || !shot })
  else if shot then s
  else
    let on := decide (24 ≤ c) && decide (c < 32) && s.pinAt T .driver (detPath c i) == 1 && s.pin .driver (detPath c i) == 1
    s.modHk (fun h => { h with codes := smInsert h.codes (32 * c + i) (code % 4096 + 1),
                               tx := if on then h.tx ++ [32 * c + i] else h.tx })

/-- The last valid code of a channel and sub-position. -/
def State.hkCode (s : State) (c i : Nat) : Option Nat := (smFind s.hk.codes (32 * c + i)).map (· - 1)

/-! ### The hardware trip of an area (R411, R412) -/

/-- Sensors of an area: tiles 0 to 11, core 12, lanes 13. -/
def areaSensors (a : Nat) : List Nat := if a < 12 then [2 * a, 2 * a + 1] else if a = 12 then [24, 25, 26, 27] else [28, 29]

/-- A code reads at or above a temperature in 0.1 °C. -/
def codeFrom (code : Nat) (t : Int) : Bool := decide (16 * (t + 640) ≤ 10 * (code : Int))

/-- The check of one area at the end of a round. -/
def State.tripArea (s : State) (a : Nat) : State :=
  let cs := ((areaSensors a).filter (fun n => !bit s.hk.suspAt n)).map (fun n => (s.hkCode (chanOf n) 0).getD 0)
  let lim := s.ai 0x7103 3
  let hot := decide (cs ≠ []) && cs.all (fun c => codeFrom c lim)
  let cool := decide (cs ≠ []) && cs.all (fun c => !codeFrom c (lim - 100) || decide (16 * (lim - 100 + 640) = 10 * (c : Int)))
  let n := if hot then smGet 0 s.hk.tripN a + 1 else 0
  let s := s.modHk (fun h => { h with tripN := amod 14 0 h.tripN a (fun _ => n) })
  if 2 ≤ n ∧ bit s.hk.trip a = false then (s.modHk (fun h => { h with trip := withBit h.trip a true })).raise Al.tjTrip a
  else if cool && bit s.hk.trip a then (s.modHk (fun h => { h with trip := withBit h.trip a false })).clearAl Al.tjTrip a
  else s

/-- The trips of a round. -/
def State.tripJudge (s : State) : State :=
  if s.hk.bad then s
  else
    let t := s.hk.trip
    let s := (List.range 14).foldl State.tripArea s
    if s.hk.trip = t then s else s.gbAll

/-- HK_CONVERSION with the raw code: the one-shot that is converting, or the next conversion of the round. -/
def State.hkConv (s : State) (code : Nat) : State :=
  if !s.domOn Dom.hk || s.clk.hkStopped then s
  else if s.hk.shot then
    match s.hk.oneshot with
    | some v => (s.convert (bits v 8 6) (bits v 0 5) code true).modHk (fun h => { h with oneshot := none, shot := false })
    | none => s
  else if s.hk.pos < 247 then
    let x := hkList.getD s.hk.pos (0, 0)
    let s := (s.convert x.1 x.2 code false).modHk (fun h => { h with pos := h.pos + 1 })
    if s.hk.pos = 247 then
      ((s.bump 0x7000 5 1).modHk (fun h => { h with shot := h.oneshot.isSome })).tripJudge
    else s
  else s

/-! ### The judgement of a round (R410, R411, R415, R416, R423) -/

/-- Neighbours of a sensor (R410). -/
def neighbours (n : Nat) : List Nat :=
  if n < 24 then
    let k := n / 2
    (List.range 24).filter (fun m => decide (m ≠ n) && decide (m / 2 + 1 = k ∨ m / 2 = k ∨ m / 2 = k + 1))
  else if n < 28 then [24, 25, 26, 27].filter (fun m => m != n)
  else [if n = 28 then 29 else 28, 24, 25, 26, 27]

/-- A kelvin in the unit of offsets. -/
def kelvin : Int := 1000000000

/-- The temperature a code stands for, in 10^-9 °C; firmware corrects HK62 on stepping A1 (A1-02). -/
def tempOf (n code : Nat) : Int := (((code + (if n = 26 ∧ 2621 < code then 3 else 0) : Nat) : Int) - 1024) * 62500000

/-- 10^-9 °C to 0.1 °C, to nearest, ties to even (DESIGN CHOICE, assumption 18). -/
def toTenths (t : Int) : Int := divHEi t 100000000

/-- One sensor of the last round, judged against its neighbours as they stood before: the sensor, TS_TEMP, and whether it has just
become suspect. -/
def Sensor.judge (l : List Sensor) (n : Nat) (x : Sensor) (shown : Int) : Sensor × Int × Bool :=
  match x.code with
  | none => (x, shown, false)
  | some c =>
    let T := tempOf n c
    let ms := (neighbours n).filterMap (fun m => match l[m]? with
      | some y => if y.suspect then none else y.code.map (tempOf m)
      | none => none)
    if ms.length < 2 then (x, if x.suspect then shown else toTenths T, false)
    else
      let M := divHEi (ms.foldl (· + ·) 0) ms.length
      let off := if x.suspect then x.off else clampI (-6 * kelvin) (6 * kelvin) (x.off + divHEi (T - M - x.off) 360000)
      let d := (T - M - x.off).natAbs
      if x.suspect then
        let n := if d ≤ 4 * kelvin then x.inN + 1 else 0
        if 100 ≤ n then ({ x with suspect := false, inN := 0, outN := 0 }, toTenths T, false)
        else ({ x with inN := n }, toTenths (M + x.off), false)
      else
        let n := if 8 * kelvin < d then x.outN + 1 else 0
        if 3 ≤ n then ({ x with suspect := true, off := off, outN := 0, inN := 0 }, toTenths (M + off), true)
        else ({ x with off := off, outN := n }, toTenths T, false)

/-- Every sensor. -/
def State.judgeSensors (s : State) : State :=
  let l := (List.range 30).map (fun n => let x := smGet Sensor.init s.hk.sens n
    { x with code := s.hkCode (chanOf n) 0 })
  let r := (List.range 30).map (fun n => Sensor.judge l n (l.getD n Sensor.init) (s.oi 0x7100 (n + 1)))
  let s := s.modHk (fun h => { h with sens := atab 30 Sensor.init (fun n => (r.getD n (Sensor.init, 0, false)).1) })
  (List.range 30).foldl (fun s n =>
    let x := r.getD n (Sensor.init, 0, false)
    let s := (s.setoi 0x7100 (n + 1) x.2.1).setBit 0x7101 1 n x.1.suspect
    if x.2.2 then (s.bump 0x7220 3 1).raise Al.tsSuspect n
    else if x.1.suspect then s else s.clearAl Al.tsSuspect n) s

/-- Temperature of an area, in 0.1 °C. -/
def State.areaTemp (s : State) (a : Nat) : Option Int :=
  match ((areaSensors a).map (fun n => s.oi 0x7100 (n + 1))).filter (fun t => decide (t ≠ -32768)) with
  | [] => none
  | t :: l => some (l.foldl max t)

/-- Lower boundary of a band in 0.1 °C (Table 17-3). -/
def bandFrom (b : Nat) : Int := [-32768, -100, 200, 500, 800, 1000].getD b 0

/-- The band an area moves to. -/
def bandUp (t : Int) : Nat → Nat → Nat
  | 0, b => b
  | n + 1, b => if b < 5 ∧ bandFrom (b + 1) ≤ t then bandUp t n (b + 1) else b
def bandDown (t : Int) : Nat → Nat → Nat
  | 0, b => b
  | n + 1, b => if 0 < b ∧ t ≤ bandFrom b - 30 then bandDown t n (b - 1) else b

/-- Bands and TJ_WARN of every area. -/
def State.judgeAreas (s : State) : State :=
  (List.range 14).foldl (fun s a =>
    match s.areaTemp a with
    | some t =>
      let s := s.modHk (fun h => { h with areaNext := amod 14 2 h.areaNext a (fun b => bandDown t 5 (bandUp t 5 b)) })
      if s.ai 0x7103 2 ≤ t then s.alarmIf Al.tjWarn a true
      else if t ≤ s.ai 0x7103 2 - 30 then s.clearAl Al.tjWarn a else s
    | none => s) s

/-- Nominal voltage of a rail in millivolts (Table 20-2, R416). -/
def State.railNominal (s : State) (r : Nat) : Nat := if r = 0 then s.o 0x4800 3 else [900, 1000, 1200, 1800, 950, 1200, 1800, 900].getD r 0

/-- a / b to nearest, ties to even, for naturals. -/
def mulDiv (a b : Nat) : Nat := divHE a b

/-- Rails, VMID and drain currents (R416, R419). -/
def State.judgeRails (s : State) : State :=
  let s := (List.range 8).foldl (fun s r =>
    let c := (s.hkCode r 0).getD 0
    let nom := s.railNominal r
    let out := decide (s.a 0x7000 4 * nom * 2048 < 100 * (1000 * c - 2048 * nom + (2048 * nom - 1000 * c)))
    let n := if out then smGet 0 s.hk.railN r + 1 else 0
    let s := (s.seto 0x7001 (r + 1) (mulDiv (1000 * c) 2048)).modHk (fun h => { h with railN := amod 8 0 h.railN r (fun _ => n) })
    if 3 ≤ n then s.alarmIf Al.railRange r true else if n = 0 then s.clearAl Al.railRange r else s) s
  let s := (List.range 12).foldl (fun s k =>
    let i := mulDiv ((s.hkCode (12 + k) 0).getD 0 * s.a 0x7003 (k + 1)) 4096
    let n := if s.a 0x7004 (k + 1) < i then smGet 0 s.hk.idsN k + 1 else 0
    let s := (s.seto 0x7002 (k + 1) i).modHk (fun h => { h with idsN := amod 12 0 h.idsN k (fun _ => n) })
    if 3 ≤ n then s.alarmIf Al.idsLimit k true else if n = 0 then s.clearAl Al.idsLimit k else s) s
  let v := mulDiv (1000 * (s.hkCode 32 0).getD 0) 4096
  let n := if v < 800 ∨ 1000 < v then s.hk.vmidN + 1 else 0
  let s := (s.seto 0x7000 6 v).modHk (fun h => { h with vmidN := n, vmidBad := if 3 ≤ n then true else if n = 0 then false else h.vmidBad })
  (s.alarmIf Al.vmidFault 0 s.hk.vmidBad).gbAll

/-- The natural logarithm of a / b in units of 2^-96, by 2 artanh of (m - 1) / (m + 1) for m in [1, 2): the series to its
40th term. -/
def lnSeries (z2 : Int) : Nat → Nat → Int → Int
  | 0, _, _ => 0
  | n + 1, k, p => p / (2 * k + 1) + lnSeries z2 n (k + 1) (p * z2 / 2 ^ 96)
def lnNorm (a b : Nat) : Int :=
  let z : Int := ((a : Int) - b) * 2 ^ 96 / ((a : Int) + b)
  2 * lnSeries (z * z / 2 ^ 96) 40 0 z
def lnFix (a b : Nat) : Int :=
  let i := bitLen 128 a
  let j := bitLen 128 b
  ((i : Int) - j) * lnNorm 2 1 + lnNorm (a * 2 ^ j) (b * 2 ^ i)

/-- What a current span sources at code 4,096, in µA (Table 17-4). -/
def spanMicroamps (span : Nat) : Nat := if span = 4 then 500 else 2000

/-- The output of a channel (Table 17-4): for a voltage span in units of a 4,096th of a millivolt, with VMID in mV; for a current span in
units of a 4,096th of a microampere. -/
def auxOutput (span code vmid : Nat) : Int :=
  if span = 0 then 1000 * code
  else if span = 1 then 1600 * code
  else if span = 2 then 4096 * vmid + 1000 * ((code : Int) - 2048)
  else if span = 3 then 4096 * vmid + 1600 * ((code : Int) - 2048)
  else spanMicroamps span * code

/-- TH_TEMP in 0.1 °C (R423): R = V / I from the code and the source's code and span; none where no temperature is stated. -/
def thTemp (code src span r0 b : Nat) : Option Int :=
  if code = 0 ∨ src = 0 ∨ r0 = 0 ∨ b = 0 then none
  else
    -- R / R0 = code / 4096 V over the source's current, over R0
    let l := lnFix (code * 1000000) (spanMicroamps span * src * r0)
    let num := 298150 * (b : Int) * 2 ^ 96
    let den := 100 * (b : Int) * 2 ^ 96 + 29815 * l
    if den ≤ 0 then none else some (clampI (-32767) 32767 (divHEi (2 * num - 5463 * den) (2 * den)))

/-- The thermistors. A resistance of zero or an infinite one has no stated temperature: it is free (assumption 2). -/
def State.judgeTh (s : State) : State :=
  (List.range 4).foldl (fun s j =>
    let x := s.a 0x7104 (j + 1)
    let w := s.a 0x7200 (x + 1)
    if 31 < x ∨ (w % 8 ≠ 4 ∧ w % 8 ≠ 5) ∨ bit (s.o 0x7202 1) x = true then (s.setoi 0x7107 (j + 1) (-32768)).clearAl Al.thLimit j
    else
      let c := (s.hkCode (8 + j) 0).getD 0
      let src := match (smGet AuxOut.init s.hk.aux x).out with | some v => v | none => 0
      let r := match thTemp c src (w % 8) (s.a 0x7105 (j + 1)) (s.a 0x7106 (j + 1)) with
        | some t => (t, s)
        | none => let d := s.draw 16; (toInt 16 d.1, d.2)
      (r.2.setoi 0x7107 (j + 1) r.1).alarmIf Al.thLimit j (decide (s.ai 0x7108 (j + 1) < r.1) && decide (r.1 ≠ -32768))) s

/-- A difference of detector codes in 0.1 dB (R415), to nearest, ties to even (DESIGN CHOICE, assumption 18). -/
def State.detDb (s : State) (d : Int) : Int := divHEi (d * 100000) ((4096 * max (s.a 0x7014 1) 1 : Nat) : Int)

/-- The VSWR monitor: paths both of whose conversions fell inside a TX symbol. -/
def State.judgeVswr (s : State) : State :=
  allPaths.foldl (fun s n =>
    let kf := 32 * (24 + n / 24) + n % 24
    let kr := 32 * (28 + n / 24) + n % 24
    let f : Int := ((smGet 1 s.hk.codes kf - 1 : Nat) : Int)
    let s := if kf ∈ s.hk.tx ∧ n ∈ s.hk.icptSet then
        s.setoi 0x7010 (n + 1) (satI 16 (smGet 0 s.hk.icpt n + s.detDb f)) else s
    if kf ∈ s.hk.tx ∧ kr ∈ s.hk.tx then
      let rl := satI 16 (s.detDb (f - ((smGet 1 s.hk.codes kr - 1 : Nat) : Int)) + s.ai 0x7013 (n + 1))
      let w := s.ai 0x7014 2
      let lo := if rl < w then smGet 0 s.hk.low n + 1 else 0
      let hi := if w + 10 < rl then smGet 0 s.hk.high n + 1 else 0
      let s := (s.setoi 0x7011 (n + 1) rl).modHk (fun h => { h with low := smSet 0 h.low n (min lo 10), high := smSet 0 h.high n (min hi 10) })
      if 10 ≤ lo then s.alarmIf Al.vswrWarn n true else if 10 ≤ hi then s.clearAl Al.vswrWarn n else s
    else s) s

/-- BAND_JUDGE: once per round, by the control processor; a round with a conversion before the reference was ready feeds
nothing (R408, R411). -/
def State.bandJudge (s : State) : State :=
  if s.hk.pos < 247 ∨ s.hk.roundAt = none ∨ s.hk.judged = true ∨ s.hk.bad = true ∨ s.cpAbsent.isSome = true ∨ s.domOn Dom.hk = false then s
  else (((((s.modHk (fun h => { h with judged := true })).judgeSensors).judgeAreas).judgeRails).judgeTh).judgeVswr

/-- Judged bands are applied at a slot boundary, unless the control processor is absent (R16, R384, R411, R421). -/
def State.bandApply (s : State) : State :=
  if s.cpLost then s
  else
    let s := (List.range 14).foldl (fun s a => s.seto 0x7102 (a + 1) (smGet 2 s.hk.areaNext a)) s
    let s := (List.range 12).foldl (fun s k => s.latchBand k) s
    let d := listMax ((List.range 14).map (smGet 2 s.hk.areaNext))
    if d = s.band then s else ({ s with band := d }.seto 0x7103 1 d).ledgerJudge

/-! ### PA protection (R413 to R415) -/

/-- RFL_TRIP of a path: its comparator is armed while it is enabled for transmit and HK is ON. -/
def State.rflTrip (s : State) (n : Nat) : State :=
  if !(decide (n < 96) && s.txOn s.time_ n && s.domOn Dom.hk) then s
  else
    let s := ((s.bump 0x7220 1 1).blockPath n 3).raise Al.rflTrip n
    s.modHk (fun h => { h with trips := h.trips.filter (fun x => decide (x.1 ≠ n ∨ s.now < x.2 + 60 * tSec)) ++ [(n, s.now)] })

/-- Instants of a path's trips. -/
def State.tripsOf (s : State) (n : Nat) : List Nat := (s.hk.trips.filter (fun x => x.1 == n)).map (fun x => x.2)

/-- RFL_RETRY_CLEAR: in retry mode, RFL_HOLDOFF after the last trip, unless it was the third within 10 s (R414). -/
def State.rflRetry (s : State) (n : Nat) : State :=
  match (s.tripsOf n).getLast? with
  | some t =>
    let near := (s.tripsOf n).filter (fun u => decide (t ≤ u + 10 * tSec))
    if s.a 0x7014 4 = 1 ∧ bit (s.block n) 3 = true ∧ t + s.a 0x7014 5 * tMs ≤ s.now ∧ near.length < 3 then
      let s := (s.setBlock n 3 false).clearAl Al.rflTrip n
      { s with rf := { s.rf with held := s.rf.held.filter (fun x => decide (x.1 ≠ n)) ++ [(n, none)] } }
    else s
  | none => s

/-- VSWR_CAL on OXx (R415): when a calibration is due the monitor asks for a privileged grant, during a TX run of the next path
in turn; once its capture runs, the coupled forward power in 0.1 dBm sets the path's intercept, and the grant is dropped. -/
def State.vswrCal (s : State) (x : Nat) (pwr : Option Int) : State :=
  match pwr with
  | none =>
    let last := smGet 0 s.hk.vswrAt x
    let t := smGet 0 s.hk.turn x
    let n? := ((List.range 12).map (fun i => 12 * x + (t + i) % 12)).find? (fun n => s.pin .driver n == 1)
    match n? with
    | some n =>
      if s.orxOn x = false ∨ s.domOn Dom.hk = false ∨ s.now < last + s.a 0x7014 6 * tSec ∨ s.holder x = 13 ∨
        (s.ox x).queue.any (fun q => q.who == 13) = true then s
      else (s.orxAsk x 13 (n % 12) none).modHk (fun h => { h with
        turn := amod 8 0 h.turn x (fun _ => (n % 12 + 1) % 12), vswrAt := amod 8 0 h.vswrAt x (fun _ => s.now) })
    | none => s
  | some p =>
    if s.holder x ≠ 13 ∨ (s.ox x).settled.isNone = true then s
    else
      let n := 12 * x + (s.ox x).sel
      let s := match s.hkCode (24 + n / 24) (n % 24) with
        | some c => s.modHk (fun h => { h with
            icpt := smSet 0 h.icpt n (p - s.detDb (c : Int)), icptSet := if n ∈ h.icptSet then h.icptSet else h.icptSet ++ [n] })
        | none => s
      s.orxDrop x 13

/-- GB_FAULT_DETECT: a readback mismatch (cause 0) begins or ends; every other cause follows from state. -/
def State.gbDetect (s : State) (n cause : Nat) (on : Bool) : State :=
  if 95 < n then s else if cause = 0 then s.gbCause n 0 on else s.gbDerive n

/-! ### The aux DAC (R417 to R419, R421, R422) -/

/-- AUX_CODE of channel x (R418, Table 17-8); a code change takes the mirror legs last selected (Table 9-1). -/
def State.auxCode (s : State) (x v : Nat) : Nat × State :=
  let s := (if s.o 0x7201 (x + 1) = v then s else s.select 2 x).seto 0x7201 (x + 1) v
  let a := smGet AuxOut.init s.hk.aux x
  let set := fun (b : AuxOut) => s.modHk (fun h => { h with aux := amod 32 AuxOut.init h.aux x (fun _ => b) })
  let span := s.a 0x7200 (x + 1) % 8
  acts (match a.out, a.hold with
    | none, _ => s
    | some c, none => if c / 256 = v / 256 then set ⟨some v, none⟩ else set ⟨some c, some (v, s.now + holdOf span)⟩
    | some c, some (w, e) => set ⟨some c, some (v, if w / 256 = v / 256 then e else s.now + holdOf span)⟩)

/-- DEGLITCH_HOLD_END of AUX channel x; the holds of GB channels are read from their edges. -/
def State.holdEnd (s : State) (x : Nat) : State :=
  match (smGet AuxOut.init s.hk.aux x).hold with
  | some (v, e) => if e ≤ s.now then s.modHk (fun h => { h with aux := amod 32 AuxOut.init h.aux x (fun _ => ⟨some v, none⟩) }) else s
  | none => s

/-- AUX_COMPLIANCE of channel x: a current output has been near VDDA_18, or away from it, for 10 µs (R419). -/
def State.auxCompl (s : State) (x : Nat) (on : Bool) : State :=
  let cur := decide (s.a 0x7200 (x + 1) % 8 ∈ [4, 5]) && (smGet AuxOut.init s.hk.aux x).out.isSome
  if 31 < x then s
  else if on then (if cur then (s.setBit 0x7202 1 x true).alarmIf Al.auxCompliance x true else s)
  else (s.setBit 0x7202 1 x false).clearAl Al.auxCompliance x

/-! ### The commands -/

def execHkRoundStart (t : Tick) (s : State) : Host.Outcome State Fault Refusal := s.run t State.hkRound
def execHkConversion (t : Tick) (code : Nat) (s : State) : Host.Outcome State Fault Refusal := s.run t (fun s => s.hkConv code)
def execHkRefReady (t : Tick) (s : State) : Host.Outcome State Fault Refusal := s.run t State.hkReady
def execHkOneshot (t : Tick) (r : Req) (v : Nat) (s : State) : Host.Outcome State Fault Refusal :=
  s.run t (fun s => s.writeBy r 0x7000 2 (objBytes 0x7000 2 v) State.hkOneshot)
def execBandJudge (t : Tick) (s : State) : Host.Outcome State Fault Refusal := s.run t State.bandJudge
def execVswrCal (t : Tick) (x : Nat) (pwr : Option Int) (s : State) : Host.Outcome State Fault Refusal :=
  s.run t (fun s => if 7 < x then s else s.vswrCal x pwr)
def execRflTrip (t : Tick) (path : Nat) (s : State) : Host.Outcome State Fault Refusal := s.run t (fun s => s.rflTrip path)
def execRflRetryClear (t : Tick) (path : Nat) (s : State) : Host.Outcome State Fault Refusal := s.run t (fun s => s.rflRetry path)
def execAuxCode (t : Tick) (r : Req) (x v : Nat) (s : State) : Host.Outcome State Fault Refusal :=
  s.run t (fun s => s.writeBy r 0x7201 (x % 32 + 1) (objBytes 0x7201 1 v) (fun s v => s.auxCode (x % 32) v))
def execDeglitchHoldEnd (t : Tick) (x : Nat) (s : State) : Host.Outcome State Fault Refusal := s.run t (fun s => s.holdEnd x)
def execAuxCompliance (t : Tick) (x : Nat) (on : Bool) (s : State) : Host.Outcome State Fault Refusal := s.run t (fun s => s.auxCompl x on)
def execGbFaultDetect (t : Tick) (path cause : Nat) (on : Bool) (s : State) : Host.Outcome State Fault Refusal :=
  s.run t (fun s => s.gbDetect path cause on)

end Sys2Proof.Machine
end

