-- ==== Sys2Proof/Machine/Start.lean ====
section
/-!
DEFINITION. Rails and reset (R446, R447, R455 to R458), the start-up order (R437, R449, R451, R452), the wake sequence (R398,
R400), the return of the control processor (R15), and credit that is asked for again (R19).
-/

namespace Sys2Proof.Machine

/-! ### The control processor returns (R15, R328, R455) -/

/-- The class A packets that a port kept are taken now. -/
def State.takeWaiting (s : State) (p : Nat) : State :=
  let l := (s.port p).aWait
  l.foldl (fun s k => s.classA p k) (s.modPort p (fun q => { q with aWait := [] }))

/-- Alarms held back until firmware runs (R446, R447, R449, R457). -/
def State.startAlarms (s : State) : State :=
  let l := s.start.alarms
  l.foldl (fun s a => s.raise a.1 a.2) (s.modStart (fun x => { x with alarms := [] }))

/-- The control processor is there again. -/
def State.cpBack (s : State) : State :=
  let s := { s with cpAbsent := none, cpLost := false }
  let s := s.clearAl Al.cpAbsent 0
  [0, 1, 2].foldl State.takeWaiting s.startAlarms

/-- No cause of an absence is left: no restart, CP on and started, CTRL not on the AON clock. -/
def State.cpReady (s : State) : Bool :=
  s.start.restart.isNone && s.cpRuns && !bit (s.o 0x2420 8) 6

/-- CP is ON: the local host port takes frames (R351, R399). -/
def State.lhpUp (s : State) : State := { s with lhp := { s.lhp with hxoff := false } }

/-- CONTROL_RESTART_DONE. -/
def State.restartDone (s : State) : State :=
  if s.start.restart.isNone then s
  else
    let s := s.modStart (fun x => { x with restart := none })
    if s.cpReady then s.cpBack else s

/-- CLK_PLL_RELOCK. -/
def State.ctrlBack (s : State) (n : Nat) : State :=
  let s := s.ctrlRelock n
  if s.cpAbsent.isSome ∧ s.cpReady then s.cpBack else s

/-- CP_ABSENT_TIMEOUT (R16): the requests that wait are answered, adaptation stops, coefficients are stale. -/
def State.cpTimeout (s : State) : State :=
  match s.cpAbsent with
  | some t =>
    if s.cpLost = true ∨ s.now < t + 30 * tMs ∨ s.cpRuns = false then s
    else
      let s := { s with cpLost := true }
      let s := s.raise Al.cpAbsent 0
      let s := allPaths.foldl (fun s n => if s.dpdMode n = 2 then ((s.abandonDpd n).why n 5).goStale n else s) s
      let l := s.mq ++ s.lhp.inq.map (fun x => x.m)
      l.foldl (fun s m => s.answer m.req m.op m.w1 St.cpAbsent [])
        { s with mq := [], lhp := { s.lhp with inq := [], hxoff := false } }
  | none => s

/-! ### Reset kinds (Table 19-7) -/

/-- Objects that survive every reset: the OTP's (R432, R435). -/
def otpKeys : List Nat := [key 0x8000 0x0A, key 0x8000 0x0D]

/-- Objects held in the calibration store: credentials, FW_TRIAL_TIME, SESSION_LEASE (R445), and the ageing records. -/
def storeKeys : List Nat :=
  (List.range 8).map (fun n => key 0x8021 (n + 1)) ++ (List.range 8).map (fun n => key 0x8022 (n + 1)) ++
  [key 0x8000 7, key 0x8020 6]

/-- Copies named objects of one state into another. -/
def State.keepKeys (s s0 : State) (l : List Nat) : State :=
  l.foldl (fun s k => s.setBoth (k / 256) (k % 256) (s0.o (k / 256) (k % 256))) s

/-- A power-on (1) or pin (2) reset begins: the machine as after reset, but for what Table 19-7 keeps, what the outside drives,
and local time. -/
def State.resetTo (s : State) (held cause : Nat) : State :=
  let pin := decide (held = 2)
  let z := State.reset
  let r : State := { z with
    now := s.now, timeBase := -(s.now : Int), free := s.free, cpAbsent := some s.now,
    lanes := atab 24 Lane.init (fun i => { Lane.init with los := (smGet Lane.init s.lanes i).los }),
    rf := { z.rf with cx := { z.rf.cx with gnt := s.rf.cx.gnt } } }
  let st : Start := { z.start with
    rails := s.start.rails, goodAt := s.start.goodAt, held := held, low := s.start.low, cause := cause,
    mirrors := s.start.mirrors, mirrorAt := s.start.mirrorAt, firstAt := s.start.firstAt,
    vid := if pin then s.start.vid else 0, credAt := if pin then s.start.credAt else none }
  let r := { r with start := st }
  let r := (r.keepKeys s otpKeys).seto 0x5070 1 cause
  if pin then
    let r := r.keepKeys s (storeKeys ++ [key 0x4800 2, key 0x4800 3])
    { r with cal := { r.cal with store := s.cal.store } }
  else r

/-- Every rail's monitor reports good. -/
def State.railsGood (s : State) : Bool := s.start.rails == 255

/-- RAIL_GOOD. -/
def State.railGood (s : State) (r : Nat) : State :=
  if 7 < r ∨ bit s.start.rails r = true then s
  else
    let s := s.modStart (fun x => { x with rails := withBit x.rails r true })
    if s.railsGood then s.modStart (fun x => { x with goodAt := some s.now, firstAt := some s.now }) else s

/-- RAIL_BAD: reset is held, or a power-on reset begins, a brownout if VDD_AON stayed good (R446). -/
def State.railBad (s : State) (r : Nat) : State :=
  if 7 < r then s
  else
    let held := s.start.held
    let s := s.modStart (fun x => { x with rails := withBit x.rails r false, goodAt := none })
    if held ≠ 1 then s.resetTo 1 (if r = 7 then 0x01 else 0x81)
    else if r = 7 then (s.modStart (fun x => { x with cause := 1 })).seto 0x5070 1 1
    else s

/-! ### Start-up (Table 19-4) -/

/-- PLLs ask for their credit, each that has none. -/
def State.pllAsk (s : State) (l : List Nat) : Bool × State :=
  l.foldl (fun (a : Bool × State) n =>
    if a.2.granted .pll n then a
    else
      let r := a.2.ask .pll n (pllCost n) Dom.tm
      (a.1 && r.1, r.2)) (true, s)

/-- A holder asks for its credit unless it has it. -/
def State.needs (s : Bool × State) (k : GKind) (n : Nat) (cost : List Nat) (d : Nat) : Bool × State :=
  if s.2.granted k n then s
  else
    let r := s.2.ask k n cost d
    (s.1 && r.1, r.2)

/-- The ROM boots: at step 2 of Table 19-4, or on a wake whose patch RAM failed its check. -/
def State.inBoot (s : State) : Bool := s.start.step == 2 || (decide (3 < s.start.step) && s.power.wakeStep == 2)

/-- The credit of the step in progress: CTRL and CP; the ROM's checks, or the link that a bundle comes by; HK, TM, the REF input
and the PLLs (R452). -/
def State.startAsk (s : State) : State :=
  let r :=
    if s.start.step = 1 then State.needs (s.pllAsk [3]) .dom Dom.cp (domCost Dom.cp) Dom.cp
    else if s.inBoot then
      (if s.start.romWait then s.pllAsk [2] else State.needs (true, s) .fwVerify 0 secCost Dom.cp)
    else if s.start.step = 4 then
      let a := State.needs (true, s) .dom Dom.tm (domCost Dom.tm) Dom.tm
      let a := State.needs a .timeLogic 0 (costOn rCore 3) Dom.tm
      let a := State.needs a .dom Dom.hk (domCost Dom.hk) Dom.hk
      let a := State.needs a .refIn 0 (costOn r18 3) Dom.tm
      let b := a.2.pllAsk [2, 5, 0, 1, 4]
      (a.1 && b.1, b.2)
    else (true, s)
  r.2.modStart (fun x => { x with ok := r.1, tryAt := s.now })

/-- The ROM waits for a bundle, over the link or the LHP, and answers requests itself (R437, R438). -/
def State.romWaits (s : State) : State :=
  { s.modStart (fun x => { x with romWait := true, boot := [], ok := false }) with cpAbsent := none, cpLost := false }.startAsk

/-- The boot source of the straps: flash, or a bundle that comes by the link or the host (R437, R447). -/
def State.bootStart (s : State) : State :=
  let src := bits (s.o 0x5070 2) 2 2
  if src = 1 ∨ src = 2 then s.romWaits
  else ((s.modStart (fun x => { x with boot := [0, 1], ok := false, romWait := false })).startAsk)

/-- Internal reset is released: the straps are sampled, AO's cost is booked, step 1 begins (R446, R447, R452). -/
def State.resetRelease (s : State) (role src : Nat) (auto : Bool) : State :=
  let role := role % 4
  let src := src % 4
  let s := s.seto 0x5070 2 (b2n auto * 16 + src * 4 + role)
  let s := s.seto 0x5070 1 s.start.cause
  let s := (s.setBoth 0x1100 1 (if role = 3 then 0 else role)).setBoth 0x1100 3 (b2n auto)
  let s := if auto ∧ role = 2 then s.seto 0x1100 2 1 else s
  let al := (if role = 3 then [(Al.roleStrap, 0)] else []) ++ (if src = 3 then [(Al.bootsrcStrap, 0)] else []) ++
    (if 0x80 ≤ s.start.cause then [(Al.brownout, 0)] else []) ++ (if s.start.cause = 3 then [(Al.linkReset, 1)] else [])
  (s.modStart (fun x => { x with held := 0, low := none, step := 1, alarms := x.alarms ++ al })).startAsk

/-- RESET_HOLD_EXPIRY with the straps. A RESET_N that is low then keeps the device in reset. -/
def State.holdExpiry (s : State) (role src : Nat) (auto : Bool) : State :=
  match s.start.goodAt with
  | some t =>
    if s.start.held ≠ 1 ∨ s.railsGood = false ∨ s.now < t + 5 * tMs then s
    else if s.start.low.isSome then s.modStart (fun x => { x with held := 2 })
    else s.resetRelease role src auto
  | none => s

/-- RESET_N_ASSERT: low for 1 µs. -/
def State.resetN (s : State) : State :=
  let s := s.modStart (fun x => { x with low := some s.now })
  if s.start.held = 1 then s else s.resetTo 2 2

/-- RESET_N_RELEASE with the straps: 100 µs after RESET_N was deasserted, or after a pin reset by command began. -/
def State.resetNRelease (s : State) (role src : Nat) (auto : Bool) : State :=
  if s.start.held = 1 then s.modStart (fun x => { x with low := none })
  else if s.start.held = 2 ∧ (match s.start.low with | some t => decide (t + 100 * tUs ≤ s.now) | none => false) = true then
    s.resetRelease role src auto
  else s

/-- Ageing objects that the calibration store restores. -/
def ageKeys : List Nat := [4, 5, 6, 7, 8].map (key 0x4800) ++ (List.range 36).map (fun m => key 0x4801 (m + 1))

/-- The retired cells and spares of every path as the calibration store holds them, or as OTP recorded them at Nalhel test
while it holds none (R163). -/
def State.showStored (s : State) : State :=
  let g := fun n a j otp => let v := smGet 0 s.cal.store (s.assayKey n a)
    if v = 0 then otp else ((unpackInts 8192 v).reverse.getD j 0).toNat
  allPaths.foldl (fun s n =>
    ((s.seto 0x2110 (n + 1) (g n 0 0 (Config.otpPath 0 n))).seto 0x2111 (n + 1) (g n 0 1 (Config.otpPath 1 n))).seto
      0x2112 (n + 1) (g n 1 0 (Config.otpPath 2 n))) s

/-- What a calibration store restores at the firmware's start: ageing and its records, the REXT deviation, sensor offsets; VID begins to
rise (R234, R410, R451). -/
def State.storeApply (s : State) : State :=
  let g := fun k => smGet 0 s.cal.store k
  let s := s.showStored
  let s1 := ageKeys.foldl (fun s k => if g k = 0 then s else s.seto (k / 256) (k % 256) (g k - 1)) s
  let ints := fun k => (unpackInts 8192 (g k)).reverse
  let days := (allPaths.map (fun n => (n, ints (daysKey n)))).filter (fun x => decide (x.2 ≠ []))
  let s1 := s1.modCal (fun c => { c with
    trim := (ints rextKey).head?, tjSum := (ints tjKey).getD 0 0, tjN := ((ints tjKey).getD 1 0).toNat, paDays := days,
    paFirst := (allPaths.map (fun n => (n, ints (firstKey n)))).filter (fun x => decide (x.2 ≠ [])) })
  let s1 := days.foldl (fun s x => s.setoi 0x4802 (x.1 + 1) (paTrend x.2)) s1
  let s1 := s1.modHk (fun h => { h with sens := atab 30 Sensor.init (fun i =>
    let x := smGet Sensor.init h.sens i
    let v := g (0x2000000 + i)
    if v = 0 then x else { x with off := toInt 64 (v % 2 ^ 64) }) })
  let goal := g (key 0x4800 2) - 1
  if s1.start.vid < goal then s1.modStart (fun x => { x with vidGoal := some goal, vidAt := s.now }) else s1

/-- Every stored result and every credential is lost, and the planner is to bench every group once ahead of the rotation (Table 16-10,
R441). -/
def State.storeLost (s : State) : State :=
  let s := storeKeys.foldl (fun s k => s.setBoth (k / 256) (k % 256) (dflt k)) s
  let s := if (s.lock 26).owner ≠ 0 ∧ s.sec.slot ≠ 0xFF then s.sessionEnd else s
  let s := allPaths.foldl (fun s n => (List.range 6).foldl (fun s b => s.seto (0x4010 + b) (n + 1) 0) s) s
  (s.modCal (fun c => { c with
    store := [], storeQ := [], had := [], corr := [], resAt := [], overSince := [], last := none, trim := none,
    displaced := List.range s.groups })).showStored

/-- The newest flash mirror whose CRC is good. -/
def newestMirror (l : List (Option (Nat × SMap Nat))) (bad : List Nat) : Option (SMap Nat) :=
  let m := fun i => if i ∈ bad then none else l.getD i none
  match m 0, m 1 with
  | some a, some b => if a.1 < b.1 then some b.2 else some a.2
  | some a, none => some a.2
  | none, some b => some b.2
  | none, none => none

/-- The calibration store is loaded: from flash after a power-on reset, else it is the one in AO (R449). -/
def State.storeLoad (s : State) (bad : List Nat) : State :=
  let s := if s.o 0x5070 1 % 16 ≠ 1 then s
    else match newestMirror s.start.mirrors bad with
      | some m =>
        let s := s.modCal (fun c => { c with store := m })
        storeKeys.foldl (fun s k => match smFind m k with | some v => s.setBoth (k / 256) (k % 256) v | none => s) s
      | none => s.storeLost.modStart (fun x => { x with alarms := x.alarms ++ [(Al.calStoreLost, 0)] })
  s.storeApply

/-- Phase A starts once step 3 is over and VID is restored (R451, R452). -/
def State.phaseA (s : State) : State :=
  if s.start.step = 6 ∧ s.start.vidGoal = none ∧ s.cal.step = 0 then (s.modCal (fun c => { c with step := 1 })).stepBegin else s

/-- The link domains of enabled ports are powered; they take their cost in DETECT. -/
def State.linksOn (s : State) : State :=
  [0, 1, 2].foldl (fun s p => if s.a (0x6000 + p) 1 = 1 ∧ s.domState (portDom p) = 0 then s.setDom (portDom p) 1 else s) s

/-- PLLs that have credit declare lock. -/
def State.lockAll (s : State) (l : List Nat) : State :=
  l.foldl (fun s n => if s.granted .pll n && !s.pllLocked n then s.pllLock n else s) s

/-- STARTUP_STEP_DONE: the step in progress completes, and the next begins; `bad` names flash mirrors whose CRC is wrong. -/
def State.startStep (s : State) (bad : List Nat) : State :=
  if !s.start.ok ∨ s.start.held ≠ 0 then s
  else if s.start.step = 1 then
    ((((s.lockAll [3]).setDom Dom.cp 1).lhpUp).modStart (fun x => { x with step := 2, ok := false })).bootStart
  else if s.start.step = 2 then
    (if s.start.romWait then (s.lockAll [2]).linksOn else s)
  else if s.start.step = 3 then
    ((s.storeLoad bad).modStart (fun x => { x with step := 4, ok := false })).cpBack.startAsk
  else if s.start.step = 4 then
    let s := ((s.lockAll [2, 5, 0, 1, 4]).setDom Dom.tm 1).linksOn
    ((s.domUp Dom.hk).modStart (fun x => { x with step := 6 })).phaseA
  else s

/-- BOOT_CANDIDATE_DONE: the FW_VERSION fields of both copies, and the bytes of the copy that was read and checked. The higher
version is tried first, copy 0 on a tie (R437). -/
def State.bootDone (s : State) (v0 v1 : Nat) (bundle : List Nat) : State :=
  if s.granted .fwVerify 0 = false ∨ s.inBoot = false then s
  else
    match s.start.boot with
    | [] => s
    | _ :: l =>
      let first := if v0 < v1 then 1 else 0
      let copy := if l = [] then 1 - first else first
      let s := s.release .fwVerify 0
      match s.bundleStatus (readerOf bundle) with
      | 0 =>
        let s := if l = [] then s.modStart (fun x => { x with
            alarms := x.alarms ++ (if copy = 1 then [(Al.bootFallback, 0)] else []) }) else s
        s.bootImage (bundle.take 512) ((if l = [] then 8 else 0) + 4 * copy)
      | _ =>
        if l ≠ [] then (s.modStart (fun x => { x with boot := l, ok := false })).startAsk
        else ((s.seto 0x8000 1 2).modStart (fun x => { x with boot := [] })).romWaits

/-- VID_STEP: one step every 20 ms, once the higher factor fits (R451, R385). -/
def State.vidStep (s : State) : State :=
  match s.start.vidGoal with
  | some g =>
    let v := s.start.vid + 1
    if s.now < s.start.vidAt + 20 * tMs ∨ s.cap rCore < bookedOf (s.base rCore) (s.factorAt v rCore) then s
    else
      let s := (s.seto 0x4800 2 v).seto 0x4800 3 (900 + 5 * v)
      (s.modStart (fun x => { x with vid := v, vidAt := s.now, vidGoal := if g ≤ v then none else some g })).phaseA
  | none => s

/-- The first symbol is at the reference plane: start-up is complete, START_TIME in ms to the nearest. -/
def State.firstSymbol (s : State) : State :=
  if s.start.step ≠ 6 then s
  else
    match s.start.firstAt with
    | some t => (s.seto 0x5070 5 ((s.now - t + tMs / 2) / tMs)).modStart (fun x => { x with step := 9, firstAt := none })
    | none => s.modStart (fun x => { x with step := 9 })

/-! ### The calibration store in flash (R449) -/

/-- What a mirror holds. -/
def State.storeImage (s : State) : SMap Nat :=
  storeKeys.foldl (fun m k => smInsert m k (s.o (k / 256) (k % 256))) s.cal.store

/-- FLASH_MIRROR_WRITE into the older mirror: due hourly, after a change to the credentials, and at the entry to Dormant. -/
def State.mirrorWrite (s : State) : State :=
  let due := decide (s.start.mirrorAt + 3600 * tSec ≤ s.now) || s.start.credAt.isSome || s.power.hand.any (fun h => h.dormant)
  if !due ∨ s.cpAbsent.isSome then s
  else
    let n : Nat → Nat := fun i => match s.start.mirrors.getD i none with | some m => m.1 + 1 | none => 0
    let i := if n 0 ≤ n 1 then 0 else 1
    s.modStart (fun x => { x with
      mirrors := lmod x.mirrors i (fun _ => some (max (n 0) (n 1) % 2 ^ 32, s.storeImage)), mirrorAt := s.now, credAt := none })

/-! ### Resets by command (R455 to R457) -/

/-- Owners that a reset of domain d resets (R345, Table 14-22). -/
def ownedBy (d w : Nat) : Bool :=
  (d == 19 && (w == ownVswr || w == ownHk)) || (d == 20 && w == ownTxSeq) ||
  (d == 14 && ownKind w == 1 && decide (0x100 ≤ ownId w) && decide (ownId w < 0x300))

/-- What the logic of a domain loses, its power and credit in place. -/
def State.domWipe (s : State) (d : Nat) : State :=
  let g := s.grants
  let back := fun (s : State) => { s with grants := g }
  if d < 12 then back (s.tileOff d)
  else if d = 12 then
    back { (s.tblOff 0).tblOff 1 with
      dl := { s.dl with syms := [], fastQ := [], running := none, out := [] }, ul := { s.ul with sects := [], own := [], child := [] } }
  else if d = 13 then back ((List.range 8).foldl (fun s x => s.orxForce x) s)
  else if d = 14 then
    (allPaths.foldl (fun s n => if (s.dp n).att.isSome || (s.dp n).pend.isSome then s.abandonDpd n else s) s).dropMade (fun _ => true)
  else if d < 18 then s.portDown (d - 15) false
  else if d = 19 then back s.hkOff
  else
    let s := ((s.stopAll false).chainsStop).tmOff
    let s := back (s.modPower (fun p => { p with keepTime := false }))
    let s := { s.seto 0x2420 8 0xC0 with timeBase := -(s.now : Int) }
    [0, 1, 2].foldl (fun s p => if s.portState p = 0 then s else s.portDown p false) s.cpGone

/-- Domain reset of domain d (R456). -/
def State.domReset (s : State) (d : Nat) : State :=
  let s := s.bump 0x5070 7 1
  if s.domState d ≠ 1 then s
  else
    let s := if d < 12 then (pathsOf d).foldl (fun s n => if s.txOn s.time_ n then s.stopPath n else s) s else s
    let s := (s.resetHook (ownedBy d)).domWipe d
    (s.setDom d 4).modPower (fun p => { p with waking := smInsert p.waking d (s.now + 10 * tUs) })

/-- What RESET_REQ v is answered. -/
def resetStatus (v : Nat) : Nat :=
  let k := v / 256
  let d := v % 256
  if k = 0 ∨ 3 < k then St.badValue
  else if k = 3 ∧ (d = 18 ∨ d = 21) then St.resetDomainBad
  else if k = 3 ∧ 21 < d then St.badValue
  else St.ok

/-- A pin reset by command: as if RESET_N had been low (R455). -/
def State.pinReset (s : State) (cause : Nat) : State := (s.modStart (fun x => { x with low := some s.now })).resetTo 2 cause

/-- The reset of an accepted RESET_REQ, once the answer has left. -/
def State.resetAct (s : State) (v : Nat) : State :=
  if v / 256 = 1 then s.pinReset 8 else if v / 256 = 2 then s.ctrlRestart 6 else s.domReset (v % 256)

/-- RESET_REQ. -/
def State.resetReq (s : State) (r : Req) (data : List Nat) : State :=
  let taken := s.writeTaken r 0x5070 3 data (fun _ v => resetStatus v)
  let s := s.writeBy r 0x5070 3 data (fun s v => (resetStatus v, s))
  match taken with
  | some v => s.resetAct v
  | none => s

/-- LMG_RESET on port U (R457). -/
def State.lmgReset (s : State) (a1 a2 : Nat) : State :=
  if s.o 0x5070 4 = 0 ∨ s.start.held ≠ 0 then s
  else if a1 = 1 then s.pinReset 3
  else
    let al := fun (s : State) => if s.cpAbsent.isSome then s.modStart (fun x => { x with alarms := x.alarms ++ [(Al.linkReset, a1)] })
      else s.raise Al.linkReset a1
    if a1 = 2 then al (s.ctrlRestart 7)
    else if a1 = 3 ∧ a2 < 21 ∧ a2 ≠ 18 then al (s.domReset a2)
    else s

/-- CHILD_RESET of a child port. -/
def State.childReset (s : State) (p v : Nat) : Nat × State :=
  if !s.active p then (St.childNotActive, s) else acts (s.sendCtl p (lmg 0x20 (v / 256) (v % 256) 0 0 0))

/-! ### Waking from Dormant (R398, R400) -/

/-- A retained bank fails its check. -/
def State.retFail (s : State) (b : Nat) : State := (s.bump 0x5050 5 1).raise Al.retCrc b

/-- Objects whose state is not in the shadow: hardware, AO, patch RAM and the calibration store hold it. -/
def keptIndex (k : Nat) : Bool :=
  let i := k / 256
  i == 0x1000 || i == 0x2420 || i == 0x4800 || i == 0x4801 || i == 0x5022 || i == 0x6100 || decide (i / 256 = 0x80) ||
  (decide (0x4010 ≤ i) && decide (i ≤ 0x4015)) || k == key 0x5020 8 || k == key 0x5070 1 || k == key 0x5070 2 ||
  k == key 0x3100 6 || k == key 0x3101 6 || ((i == 0x6000 || i == 0x6001 || i == 0x6002) && decide (5 ≤ k % 256))

/-- The shadow is lost: defaults as after power-on, no log, no address (Table 16-10). -/
def State.shadowLost (s : State) : State :=
  let s := { s with
    obj := s.obj.filter (fun x => keptIndex x.1), act := s.act.filter (fun x => keptIndex x.1), held := [],
    log := [], alarms := [], commits := [], stage := none }
  let w := s.o 0x5070 2
  let role := w % 4
  let auto := bit w 4
  let s := (s.setBoth 0x1100 1 (if role = 3 then 0 else role)).setBoth 0x1100 3 (b2n auto)
  (if auto ∧ role = 2 then s.seto 0x1100 2 1 else s).showStored

/-- Banks 9 and 10 at step 2: the calibration store, and the patch RAM, which sends CP to its boot source. -/
def State.wakeCp (s : State) (bad : List Nat) : State :=
  let fails := fun b => decide (b ∈ bad) && decide (b ∈ s.power.signed)
  let s1 := (s.setDom Dom.cp 1).lhpUp
  let s1 := if fails 9 then ((s1.retFail 9).storeLost).modPower (fun p => { p with brief := false }) else s1
  if fails 10 then (s1.retFail 10).bootStart else s1.wakeGo 3

/-- Bank 8 at step 3; then firmware runs. -/
def State.wakeShadow (s : State) (bad : List Nat) : State :=
  let s := if 8 ∈ s.power.signed ∧ 8 ∈ bad then s.shadowLost.retFail 8
    else if 11 ∈ s.power.signed then s.shadowLost else s
  s.cpBack.wakeGo 4

/-- The weight banks that were signed are checked before use; one whose CRC-32 does not match is invalid (R398). -/
def State.bankCheck (s : State) (bad : List Nat) : State :=
  let s := (List.range 8).foldl (fun s w =>
    if w ∈ s.power.signed ∧ w ∈ bad then ((s.clearMem (bankAt w) bankBytes).bankBad w).retFail w else s) s
  s.modPower (fun p => { p with signed := p.signed.filter (fun w => decide (8 ≤ w)) })

/-- DOMAIN_READY; `bad` names retained banks of BF whose CRC-32 does not match (R398). -/
def State.domReadyChecked (s : State) (d : Nat) (bad : List Nat) : State :=
  (if d = Dom.bf ∧ s.domDue d = true then s.bankCheck bad else s).domIsReady d

/-- Banks 0 to 7 at step 5. -/
def State.wakeBf (s : State) (bad : List Nat) : State :=
  let s := s.bankCheck bad
  (if s.domOn Dom.bf then s else s.domUp Dom.bf).wakeGo 6

/-- Step 7: the domains are up, calibration begins. -/
def State.wakeLast (s : State) : State :=
  let s := (if s.domOn Dom.hk then s else s.domUp Dom.hk).modPower (fun p => { p with wakeStep := 0, signed := [] })
  ((s.modCal (fun c => { c with step := 1, stepAt := none })).stepBegin).wakeSettled

/-- WAKE_STEP_DONE: the step in progress completes; `bad` names banks whose CRC-32 does not match (R398). -/
def State.wakeStepDone (s : State) (bad : List Nat) : State :=
  if !s.power.wakeOk then s
  else match s.power.wakeStep with
    | 1 => ((s.lockAll [3, 2, 5]).setDom Dom.tm 1).wakeGo 2
    | 2 => if s.start.romWait then (s.lockAll [2]).linksOn else if s.start.boot ≠ [] then s else s.wakeCp bad
    | 3 => s.wakeShadow bad
    | 4 => s.wakeGo 5
    | 5 => s.wakeBf bad
    | 6 => (s.lockAll [0, 1, 4]).wakeGo 7
    | 7 => s.wakeLast
    | _ => s

/-! ### Asking again (R19, Table 1-7) -/

/-- LEDGER_RETRY: every refused step that last asked 100 µs ago or more asks again: domains stalled on a first access ahead of the rest
(R19). -/
def State.ledgerRetry (s : State) : State :=
  let old := fun t => decide (t + 100 * tUs ≤ s.now)
  let s := (s.power.pend.filter (fun x => old x.2)).foldl (fun s x => s.wakeDomain x.1) s
  let s := if s.start.held = 0 ∧ s.start.step ∈ [1, 2, 4] ∧ s.start.ok = false ∧ old s.start.tryAt then s.startAsk else s
  let s := if s.power.wakeStep ≠ 0 ∧ s.power.wakeOk = false ∧ old s.power.wakeTry then s.wakeTake
    else if s.power.wakeStep = 2 ∧ (s.start.boot ≠ [] ∨ s.start.romWait = true) ∧ s.start.ok = false ∧ old s.start.tryAt then s.startAsk else s
  let s := (List.range 16).foldl (fun s n => match (s.ch n).retryAt with
    | some t => if t ≤ s.now then s.chCredit n else s
    | none => s) s
  s.secRetry

/-! ### The commands -/

def execLedgerRetry (t : Tick) (s : State) : Host.Outcome State Fault Refusal := s.run t State.ledgerRetry
def execControlRestartDone (t : Tick) (s : State) : Host.Outcome State Fault Refusal := s.run t State.restartDone
def execClkPllRelock (t : Tick) (pll : Nat) (s : State) : Host.Outcome State Fault Refusal := s.run t (fun s => s.ctrlBack pll)
def execCpAbsentTimeout (t : Tick) (s : State) : Host.Outcome State Fault Refusal := s.run t State.cpTimeout
def execRailGood (t : Tick) (rail : Nat) (s : State) : Host.Outcome State Fault Refusal := s.run t (fun s => s.railGood rail)
def execRailBad (t : Tick) (rail : Nat) (s : State) : Host.Outcome State Fault Refusal := s.run t (fun s => s.railBad rail)
def execResetHoldExpiry (t : Tick) (role src : Nat) (auto : Bool) (s : State) : Host.Outcome State Fault Refusal :=
  s.run t (fun s => s.holdExpiry role src auto)
def execResetNAssert (t : Tick) (s : State) : Host.Outcome State Fault Refusal := s.run t State.resetN
def execResetNRelease (t : Tick) (role src : Nat) (auto : Bool) (s : State) : Host.Outcome State Fault Refusal :=
  s.run t (fun s => s.resetNRelease role src auto)
def execResetReqPin (t : Tick) (r : Req) (s : State) : Host.Outcome State Fault Refusal := s.run t (fun s => s.resetReq r [1, 0])
def execResetReqRestart (t : Tick) (r : Req) (s : State) : Host.Outcome State Fault Refusal := s.run t (fun s => s.resetReq r [2, 0])
def execResetReqDomain (t : Tick) (r : Req) (d : Nat) (s : State) : Host.Outcome State Fault Refusal :=
  s.run t (fun s => s.resetReq r [3, d % 256])
def execLmgReset (t : Tick) (p : Nat) (m : List Nat) (s : State) : Host.Outcome State Fault Refusal :=
  s.run t (fun s =>
    let x := s.lmgTake p m
    if x.1 = true ∧ p = 0 ∧ m.getD 0 0 = 0x20 then x.2.lmgReset (m.getD 1 0) (m.getD 2 0) else x.2)
def execChildReset (t : Tick) (r : Req) (n v : Nat) (s : State) : Host.Outcome State Fault Refusal :=
  s.run t (fun s => s.writeBy r 0x5071 (n % 2 + 1) (objBytes 0x5071 1 v) (fun s v => s.childReset (n % 2 + 1) v))
def execFlashMirrorWrite (t : Tick) (s : State) : Host.Outcome State Fault Refusal := s.run t State.mirrorWrite
def execVidStep (t : Tick) (s : State) : Host.Outcome State Fault Refusal := s.run t State.vidStep
def execStartupStepDone (t : Tick) (bad : List Nat) (s : State) : Host.Outcome State Fault Refusal := s.run t (fun s => s.startStep bad)
def execBootCandidateDone (t : Tick) (v0 v1 : Nat) (bundle : List Nat) (s : State) : Host.Outcome State Fault Refusal :=
  s.run t (fun s => s.bootDone v0 v1 bundle)
def execDomainReady (t : Tick) (d : DomUp) (s : State) : Host.Outcome State Fault Refusal :=
  s.run t (fun s => s.domReadyChecked d.dom d.bad)
def execWakeStepDone (t : Tick) (bad : List Nat) (s : State) : Host.Outcome State Fault Refusal := s.run t (fun s => s.wakeStepDone bad)

end Sys2Proof.Machine
end

