-- ==== Sys2Proof/Machine/Activate.lean ====
section
/-!
DEFINITION. The activation of a commit (R341): every object takes effect at its instant, each in the manner of its own rule.
In this file `s0` is the state before the commit's values are in force, and `vals` what it sets.
-/

namespace Sys2Proof.Machine

/-- The values are in force. -/
def State.applyVals (s : State) (vals : SMap Nat) : State :=
  vals.foldl (fun s kv => if kv.1 = key 0x2420 6 then s.seto 0x2420 6 kv.2 else s.seta (kv.1 / 256) (kv.1 % 256) kv.2) s

/-- Tables whose swap is due (R65, R66). -/
def State.actTables (s : State) (vals : SMap Nat) : State :=
  [0, 1].foldl (fun s dir =>
    let s := if smFind vals (key (0x3100 + dir) 5) = some 1 then s.swapBoundary dir else s
    if smFind vals (key (0x3200 + dir) 3) = some 1 then s.schedBoundary dir else s) s

/-- Synthesisers (R174, R175, R453): loads, power. -/
def State.actLo (s s0 : State) (vals : SMap Nat) : State :=
  (List.range 4).foldl (fun s l =>
    let i := loIdx l
    let on := s.a i 1 == 1
    let was := s0.a i 1 == 1
    let named := (smFind vals (key i 2)).isSome || (smFind vals (key i 3)).isSome
    let s := if s.a i 3 = 0 ∧ (named || (on && !was)) = true ∧ (s.a i 2 ≠ 0) then s.loadDivs l (divsFor (s.a i 2)) else s
    let s := if s.a i 9 = 1 then (if s.a i 3 = 1 then s.loadDivs l (s.divBuf l) else s).setBoth i 9 0 else s
    if on && !was then (if s.loOn l then s else s.loUp l)
    else if was && !on then s.loDown l else s) s

/-- FCONV changes (R184): the CONV PLL re-locks, and each path's corrections come from the calibration store. -/
def State.actFconv (s s0 : State) : State :=
  if s.o 0x2420 6 = s0.o 0x2420 6 then s
  else
    let s := (s.setBit 0x2420 8 1 false).loadConv
    let s := (s.rsRebase s0).ulRebase s0
    { s with dl := { s.dl with chfOld := [] }, ul := { s.ul with chfOld := [] }
             clk := { s.clk with pllAt := amod 6 none s.clk.pllAt 1 (fun _ => none) } }

/-- Carriers (R99 to R102, R113): starts, restarts, channel switches, filter sets. -/
def State.actCarriers (s s0 : State) (vals : SMap Nat) : State :=
  let T := s.time_
  let fconv := (smFind vals (key 0x2420 6)).isSome
  [0, 1].foldl (fun s dir => (List.range 4).foldl (fun s c =>
    let i := carIdx dir c
    let scs := s.carScs T dir c
    let on := s.carActive T dir c
    let was := s0.carActive T dir c
    let chf := if dir = 0 then 7 else 6
    let gone := fun (s : State) => s.chfDrop dir (fun x => x.car == c)
    if !on then gone s
    else if !was then (gone s).suppress dir 255 c (spanStart scs)
    else if fconv then (gone s).suppress dir 255 c (slotDur scs + spanStart scs)
    else if scs ≠ s0.carScs T dir c ∨ s.carNrb T dir c ≠ s0.carNrb T dir c then
      (gone s).suppress dir 255 c (symSamples scs 0 * tSample + spanStart scs)
    else
      let s := if s.a i 4 ≠ s0.a i 4 then s.suppress dir 255 c spanSwitch else s
      if s.a i chf ≠ s0.a i chf then
        s.chfMark dir c (allPaths.filter (fun n => if dir = 0 then s.txOn T n else s.rxOn T n)) (s0.a i chf)
          (s0.o (if dir = 0 then 0x3020 else 0x3024) (s0.a i chf))
      else s) s) s

/-- Tiles whose last transmit path stops inside a TX run make the tile's part of the exit (Table 6-5); gate channels of a group
without an enabled path stop driving once the exit sequence has completed (R160, R422). -/
def State.tilesStop (s s0 : State) : State :=
  let T := s.time_
  let s := (List.range 12).foldl (fun s k =>
    if bit s.rf.txRun k && !s.tileTx T k then
      let s := s.edge (T + ns 1300 + s.skew 0x2008 (k + 1)) .trsw k 0
      let s := if s.fdd then s else s.edge (T + ns 1500 + s.skew 0x2009 (k + 1)) .lnabyp k 0
      s.runEnd k
    else s) s
  allPaths.foldl (fun s n =>
    if s0.txOn T n && !s.txOn T n && !((List.range 16).any (fun i => s.txOn T (16 * (n / 16) + i))) then
      if s0.pin .txon n = 1 then s.gateEdge (T + ns 3300) n 0 else s.setPin .gate n 0
    else s) s

/-- Paths that start and stop (R99, R113, R161), and tiles that another LO feeds from now on (R178). -/
def State.actPaths (s s0 : State) : State :=
  let T := s.time_
  let scs := s.gridScs
  let s := allPaths.foldl (fun s n =>
    let s := if s.txOn T n && !s0.txOn T n then s.suppress 0 n 255 (s.spanPath 0)
      else if s0.txOn T n && !s.txOn T n then (s.mutePath n).chfDrop 0 (fun x => x.path == n) else s
    if s.rxOn T n && !s0.rxOn T n then s.suppress 1 n 255 (s.spanPath 1)
    else if s0.rxOn T n && !s.rxOn T n then (s.setPin .rxStage n 0).chfDrop 1 (fun x => x.path == n) else s) s
  let s := s.tilesStop s0
  (List.range 12).foldl (fun s k =>
    if s.a 0x2410 (k + 1) = s0.a 0x2410 (k + 1) ∨ !s.tileOn T k then s
    else
      let d := fun (s : State) (dir : Nat) => symSamples scs 0 * tSample + s.spanPath dir
      let s := (pathsOf k).foldl (fun s n =>
        let s := if s.txOn T n then (s.mutePath n).suppress 0 n 255 (d s 0) else s
        if s.rxOn T n then (s.setPin .rxStage n 0).suppress 1 n 255 (d s 1) else s) s
      let count := fun (s : State) (dir : Nat) => listSum ((List.range 4).map (fun c => b2n (s.carActive T dir c)))
      let s := if s.tileTx T k then s.bump 0x3031 0x0D (count s 0) else s
      let s := if s.tileRx T k then s.bump 0x3035 7 (count s 1) else s
      { s with ul := { s.ul with moved := s.ul.moved.filter (fun (x : Nat × Int) => decide (x.1 ≠ k)) ++ [(k, T)] } }.runEnd k) s

/-- Ports and the role (R244, R269, R315 to R317). -/
def State.actPorts (s s0 : State) : State :=
  let s := if s.role ≠ s0.role ∧ s.role ≠ 1 ∧ s.role ≠ 2 then
      [1, 2].foldl (fun s p => (s.childNone p).setBoth (0x6000 + p) 1 0) s
    else s
  let s := if s.a 0x1100 3 = 1 ∧ s.role = 2 ∧ s.addr = 0 then s.seto 0x1100 2 1 else s
  let s := [0, 1, 2].foldl (fun s p =>
    let on := s.a (0x6000 + p) 1 == 1
    let was := s0.a (0x6000 + p) 1 == 1
    if was && !on then (if p = 0 then s.portDown p false else (s.portDown p false).childNone p)
    else if on && was && decide (s.a (0x6000 + p) 2 ≠ s0.a (0x6000 + p) 2 ∨ s.a (0x6000 + p) 3 ≠ s0.a (0x6000 + p) 3) &&
        decide (s.portState p ≠ 0) then s.portDown p false
    else s) s
  s.judgeRole

/-- Time (R46, R301, R303, R307): a root that runs freely is locked; outputs aim at their next edge at least 2 µs from the
acceptance, which the activation is not before (an edge between the two is not emitted). -/
def State.actTime (s s0 : State) (vals : SMap Nat) : State :=
  let free := fun (s : State) => s.role == 2 && s.a 0x1200 1 == 2
  let s := if free s && !free s0 && s.pllLocked 4 then (s.setY 0).timeLock else s
  let s := (List.range 4).foldl (fun s n =>
    if hasIdx vals (0x1230 + n) (0x1230 + n) then
      { s with time := { s.time with tpo := amod 4 Tpo.init s.time.tpo n (fun p => s.tpoAim n s.time_ { p with from_ := s.time_ }) } }
    else s) s
  (s.hopBudget 1).hopBudget 2

/-- The aux DAC (R417 to R424): AUX outputs start and stop, GB channels of groups without a path stop, causes follow. -/
def State.actBias (s s0 : State) : State :=
  let s := (List.range 32).foldl (fun s x =>
    let on := bit (s.a 0x7200 (x + 1)) 3
    let was := bit (s0.a 0x7200 (x + 1)) 3
    if on && !was then
      (if s.domOn Dom.hk then s.modHk (fun h => { h with aux := amod 32 AuxOut.init h.aux x (fun _ => ⟨some (s.o 0x7201 (x + 1)), none⟩) }) else s)
    else if was && !on then s.modHk (fun h => { h with aux := amod 32 AuxOut.init h.aux x (fun _ => ⟨none, none⟩) })
    else s) s
  let s := allPaths.foldl (fun s n =>
    let old := s0.gateCode n (s0.pin .gate n)
    let d := holdFor (s0.a 0x7210 (n + 1) % 8) old (s.gateCode n (s0.pin .gate n))
    if s.a 0x7210 (n + 1) = s0.a 0x7210 (n + 1) ∨ d = 0 then s else s.gateHold n old (s.time_ + d)) s
  s.gbAll

/-- The objects of RF, coexistence and power: CX_ENABLE 0 drops a request (Table 6-8); a tile whose paths are all shed powers down
by the handshake (R393). -/
def State.actShed (s s0 : State) : State :=
  let T := s.time_
  let s := if s.a 0x2040 1 = 0 ∧ s.rf.cx.req = true then s.cxDrop else s
  let tiles := (List.range 12).filter (fun k => s.domOn k && (pathsOf k).all (s.pathShed T) && !(pathsOf k).all (s0.pathShed T))
  if tiles = [] ∨ s.powerBusy then s else s.handAsk false tiles

/-- Grants follow what is in force and what is accepted (R104, R160, R393): the blocks of the commit's holders are rebooked. What
paths that stop inside a TX run give back stays booked until their exit sequences have completed, 3.3 µs later. -/
def State.rebook (s s0 : State) : State :=
  let T := s.time_
  let out := allPaths.filter (fun n => s0.txOn T n && !s.txOn T n && s0.pin .txon n == 1)
  let late := fun (k : GKind) (n : Nat) => match k with
    | .pathTx => out.any (fun p => p == n)
    | .tileDl => out.any (fun p => tileOf p == n)
    | .carDlTile => out.any (fun p => tileOf p == n / 4)
    | .auxChan => out.any (fun p => p / 16 == n)
    | _ => false
  ((s.costsAt s.time_).zip (s0.costsAt s.time_)).foldl (fun s x =>
    if x.1.2.2.1 = x.2.2.2.1 then s
    else match s.wanted.find? (fun w => decide (w.1 = x.1.1 ∧ w.2.1 = x.1.2.1)) with
      | some w =>
        if late w.1 w.2.1 && decide (costMax w.2.2.1 (s.costOf w.1 w.2.1) = s.costOf w.1 w.2.1) then
          { s with rf := { s.rf with exits := s.rf.exits ++ [(s.now + 3300 * tNs, Grant.mk w.1 w.2.1 w.2.2.1)] } }
        else s.book w.1 w.2.1 w.2.2.1
      | none => s) s

/-- The child-address set of a port is judged again after an activation (R343): `s0` had the routes in force before it. -/
def State.routesIn (s s0 : State) (vals : SMap Nat) (p : Nat) : State :=
  let i := 0x1100 + p
  let due := [6, 7, 8, 9].map (fun j => (j, (smFind vals (key i j)).getD (s0.routeDue p j)))
  ([6, 7, 8, 9].foldl (fun s j => s.seta i j (s0.a i j)) s).childSet p due

/-- What a commit replaces, kept for two milliseconds: what was in force at an instant that has passed. -/
def State.notePast (s : State) (c : PCommit) : State :=
  let old : PCommit := { c with vals := c.vals.map (fun kv => (kv.1, s.a (kv.1 / 256) (kv.1 % 256))) }
  { s with past := old :: s.past.filter (fun p => decide (s.time_ < p.at_ + ((2 * tMs : Nat) : Int))) }

/-- One commit takes effect. -/
def State.applyCommit (s : State) (c : PCommit) : State :=
  let s0 := s
  let v := c.vals
  let s := (s.notePast c).applyVals v
  let s := if s.a 0x2420 1 = 1 ∧ s0.a 0x2420 1 ≠ 1 then s.refCrystal else s
  let s := ((s.actTables v).actLo s0 v).actFconv s0
  let s := ((s.actCarriers s0 v).actPaths s0).chfCount
  let s := (((s.actPorts s0).actTime s0 v).dpdCommit s0 v (decide (s.gridStart c.at_ = c.at_))).calCommit s0 v
  let s := if isReconf v then s.modCal (fun q => { q with reconfAt := some c.at_ }) else s
  let s := ((s.actBias s0).actShed s0).rebook s0
  let s := [1, 2].foldl (fun s p => s.routesIn s0 v p) s
  let s := (s.alarmIf Al.loNoSpare 0 s.noSpare).gatesRx
  if smFind v (key 0x8000 5) = some 1 then (s.setBoth 0x8000 5 0).fwSwap else s

/-- COMMIT_ACTIVATION: the commits whose instant has come, in the order of their instants, then of acceptance (R341). -/
def State.activate (s : State) : State :=
  let due := s.commits.filter (fun c => decide (c.at_ ≤ s.time_))
  let s := { s with commits := s.commits.filter (fun c => decide (s.time_ < c.at_)) }
  let first := due.foldl (fun m c => min m c.at_) s.time_
  if due = [] then s else ((sortBy (fun c => (c.at_ - first).toNat) due).foldl State.applyCommit s).chainMark

def execCommitActivation (t : Tick) (s : State) : Host.Outcome State Fault Refusal := s.run t State.activate

end Sys2Proof.Machine
end

