-- ==== Sys2Proof/Machine/Boundary.lean ====
section
/-!
DEFINITION. What happens at slot, symbol and frame boundaries of the air-time grid (R13, R20, R125 and the rules that name a
boundary).
-/

namespace Sys2Proof.Machine

/-! ### Slots -/

/-- Chains that a datapath PLL stopped restart at this boundary (R169): every active carrier loses the slot. -/
def State.chainsResume (s : State) : State :=
  if !s.clk.resume then s
  else
    let T := s.time_
    let all := fun (dir : Nat) => ((List.range 4).filter (s.carActive T dir)).map (fun c => (c + 16, s.slotOf (s.carScs T dir c) T))
    let s := s.bump 0x3031 0x0D (all 0).length
    let s := [0, 1].foldl (fun s dir => ((List.range 4).filter (s.carActive T dir)).foldl (fun s c =>
      let scs := s.carScs T dir c
      s.suppress dir 255 c (slotDur scs + spanStart scs)) (s.chfDrop dir (fun _ => true))) s
    { s.chfCount with
      clk := { s.clk with resume := false }
      dl := { s.chfCount.dl with stopped := false, restart := s.dl.restart ++ all 0 }
      ul := { s.chfCount.ul with restart := s.ul.restart ++ all 1 } }

/-- An armed handover, unless a reconfiguration is applied at this boundary (R179, Table 7-4). -/
def State.handBoundary (s : State) (T : Int) : State :=
  match s.clk.hand with
  | some h =>
    if h.stage ≠ 3 ∨ T ∈ s.reconfs ∨ s.cal.reconfAt = some T then s else (s.assayMoved h.x).handover
  | none => s

/-- G of the slot, EIRP_SHORT and its alarm (R86). -/
def State.eirpSlot (s : State) (T : Int) : State :=
  let short := (s.gain T).2
  let s := s.seto 0x3030 8 (s.gain T).1
  let s := if short then s.bump 0x3031 0x0B 1 else s
  let s := if short && !s.dl.shortRun then s.raise Al.eirpShort 0
    else if !short && s.dl.shortRun then s.clearAl Al.eirpShort 0 else s
  { s with dl := { s.dl with shortRun := short } }

/-- Gates of groups that hold no credit drive nothing (R424). -/
def State.gatesIdle (s : State) : State :=
  allPaths.foldl (fun s n =>
    if !s.granted .auxChan (n / 16) && decide (s.pin .gate n ≠ 0) then s.setPin .gate n 0 else s) s

/-- The once-per-slot alarms of the slot that ends. -/
def State.slotRaise (s : State) : State :=
  s.slotAlarms.foldl (fun s x => s.raise x.1 x.2) { s with slotAlarms := [] }

/-- Counters whose CLEAR takes effect at a slot boundary (R163, R187, R213, R238, R330). -/
def slotClears (i : Nat) : Option (Nat × Nat) :=
  if i = 0x1100 then some (0x0B, 3)
  else if i = 0x2130 then some (1, 5)
  else if i = 0x2141 then some (1, 6)
  else if i = 0x2430 then some (1, 5)
  else if i = 0x4110 then some (1, 7)
  else if i = 0x4420 then some (1, 7)
  else if i = 0x4300 then some (3, 3)
  else none

/-- They are zeroed. -/
def State.clearsSlot (s : State) : State :=
  let due := s.clears.filter (fun i => (slotClears i).isSome || i == 0x4216)
  let s := { s with clears := s.clears.filter (fun i => !((slotClears i).isSome || i == 0x4216)) }
  due.foldl (fun s i =>
    if i = 0x4216 then [0x4211, 0x4212, 0x4213, 0x4214, 0x4215].foldl (fun s j => s.zeroRange j 1 8) s
    else match slotClears i with
      | some (lo, n) => s.zeroRange i lo n
      | none => s) s

/-- A slot of RADIO_SCS begins: a nap slot is counted, and after the last of a run of them the chains of every enabled path restart
(R395, R99, R113). -/
def State.napSlotEdge (s : State) (n : Int) : State :=
  if s.napSlot n then (s.bump 0x5050 2 1).modPower (fun p => { p with napped := true })
  else if !s.power.napped then s
  else
    let s := s.modPower (fun p => { p with napped := false, napping := false })
    allPaths.foldl (fun s p =>
      let s := if s.txEnAct s.time_ p then s.suppress 0 p 255 (s.spanPath 0) else s
      if s.rxEnAct s.time_ p then s.suppress 1 p 255 (s.spanPath 1) else s) s

/-- SLOT_BOUNDARY: absolute slot n of a numerology starts. What is common to the device happens at the boundaries of the grid's own
numerology (DESIGN CHOICE, assumption 23); nap slots are those of RADIO_SCS (R395). A commit that activates here acts first, in
whatever order the two commands stand (R341). -/
def State.slotBoundary (s : State) (scs : Nat) (n : Int) : State :=
  let T := s.slotStart scs n
  if s.time_ < T then s
  else
    let s := s.activate
    let s := if scs = s.a 0x2020 2 then s.napSlotEdge n else s
    if scs ≠ s.gridScs then s
    else
      let s := (s.chainsResume.bandApply.benchBoundary T).handBoundary T
      let s := (s.unhold T).gatesRx
      let s := ((s.eirpSlot T).tornJudge 0).tornJudge 1
      let s := ((((s.childAsk 1).childAsk 2).dpdBoundary).blowBoundary).gbAll
      let s := (s.gatesIdle.slotRaise.clearsSlot).ledgerJudge
      s.chainMark.trigger 0x15

/-! ### Symbols -/

/-- TX symbols of enabled paths that a fault blocks (R152), and the bits that last for a run cleared outside it (R149, R159). -/
def State.blockedSymbol (s : State) (tx : Bool) : State :=
  let on := allPaths.filter (s.txOn s.time_)
  if tx then s.bump 0x2130 3 (on.filter (fun n => bit (s.block n) 0 || bit (s.block n) 3)).length
  else allPaths.foldl (fun s n =>
    if bit s.rf.txRun (tileOf n) then s
    else
      let s := if bit (s.block n) 1 then s.setBlock n 1 false else s
      if bit (s.block n) 4 then s.setBlock n 4 false else s) { s with rf := { s.rf with denied := false } }

/-- Tiles whose RX LO is not ready for the RX symbol that starts at T (R151). DESIGN CHOICE (assumption 70): the check at a symbol's
start is made at its start at the reference plane. -/
def State.rxSymbol (s : State) (T : Int) (rx : Bool) : State :=
  if !rx then s
  else ((List.range 12).filter (fun k => s.tileRx T k && !s.loReady (s.rxLo T k))).foldl (fun s k => s.rxLate T k) s

/-- An armed handover whose LO has lost lock, unless a reconfiguration is applied at this boundary (R180, Table 7-4). -/
def State.handUrgent (s : State) (T : Int) : State :=
  match s.clk.hand with
  | some h =>
    if !h.urgent || h.stage != 3 || decide (T ∈ s.reconfs) || decide (s.cal.reconfAt = some T) then s else (s.assayMoved h.x).handover
  | none => s

/-- Paths that doze in this symbol: those of transmitting tiles whose output is zero, benched ones apart. Between two TX symbols the
edges are those of Table 16-8, and after the last symbol of a run that transmits those of Table 6-5 (R394); a symbol that follows and
dozes too takes back the edges that would end the doze, at its touchstone. -/
def State.doze (s : State) (scs : Nat) (n : Int) (k : Nat) (tx : Bool) : State :=
  let T := s.time_
  let was := s.dl.dozing
  let ps := if s.a 0x5040 4 = 1 ∧ tx = true then
      allPaths.filter (fun p => s.mayTx T p && bit s.rf.txRun (tileOf p) && s.dozes T p) else []
  let O := s.tAir scs n k - s.txBoard
  let D : Int := ((symSamples scs k * tSample : Nat) : Int)
  let more := txCode (if k = 13 then s.patCode T (n + 1) 0 else s.patCode T n (k + 1))
  let s := { s.bump 0x5050 1 ps.length with dl := { s.dl with dozing := ps } }
  ps.foldl (fun s p =>
    let sk := s.skew 0x2004 (p + 1)
    let on := decide (s.pin .driver p = 1)
    let s := if !on then s
      else if more then (s.edge (O + ns 500) .driver p 0).edge (O + ns 600 + sk) .txon p 0
      else (s.edge O .driver p 0).edge (O + ns 100 + sk) .txon p 0
    if more && (on || decide (p ∈ was)) then (s.edge (O + D - ns 2000 + sk) .txon p 1).edge (O + D - ns 500) .driver p 1 else s) s

/-- SYMBOL_BOUNDARY: symbol k of absolute slot n of a numerology starts at the reference plane (R13, R135, R136, R144, R180, R181). -/
def State.symBoundary (s : State) (scs : Nat) (n : Int) (k : Nat) : State :=
  if s.time_ < s.tAir scs n k ∨ 14 ≤ k then s
  else
    let T := s.tAir scs n k
    let s := s.activate
    let s := [1, 2].foldl (fun s p => if (s.chst p).removeNow then s.removeChild p else s) s
    let s := if scs ≠ s.gridScs then s
      else ((s.countSats.attenApply.stepsApply.handUrgent T).chainMark).trigger 0x16
    if scs ≠ s.a 0x2020 2 then s
    else
      let c := s.patCode s.time_ n k
      let s := ((s.blockedSymbol (txCode c)).rxSymbol T (rxCode c)).doze scs n k (txCode c)
      if txCode c && decide (s.cal.step = 9) && allPaths.any (fun p => decide (s.pin .driver p = 1)) then s.firstSymbol else s

/-! ### Frames -/

/-- FRAME_BOUNDARY: a REMOVED child whose port is trained, that reports time lock, and of which a well-formed packet has come, is
admitted from this frame on (R125, Table 5-7). -/
def State.frameBoundary (s : State) : State :=
  let n := s.slotOf 0 s.time_
  let T := s.slotStart 0 (n - n % 10)
  [1, 2].foldl (fun s p =>
    if s.chState p = 2 ∧ s.active p = true ∧ smGet false s.time.childLocked (p - 1) = true ∧ (s.chst p).wellFormed = true then
      ((s.seto (chIdx p) 1 1).modCh p (fun c => { c with admitFrom := some T, run := 0, removeNow := false })).clearAl
        Al.ulChildRemoved p
    else s) s

/-! ### The commands -/

def execSlotBoundary (t : Tick) (scs : Nat) (slot : Int) (s : State) : Host.Outcome State Fault Refusal :=
  s.run t (fun s => s.slotBoundary scs slot)

def execSymbolBoundary (t : Tick) (scs : Nat) (slot : Int) (sym : Nat) (s : State) : Host.Outcome State Fault Refusal :=
  s.run t (fun s => s.symBoundary scs slot sym)

def execFrameBoundary (t : Tick) (s : State) : Host.Outcome State Fault Refusal := s.run t State.frameBoundary

end Sys2Proof.Machine
end

