-- ==== Sys2Proof/Machine/Reads.lean ====
section
/-!
DEFINITION. What an object reads as (R334, R337), the event log's read (R350), and OBJ_READ.
-/

namespace Sys2Proof.Machine

/-! ### Values the device computes when they are read -/

/-- LOCK_OWNER of a lock (R344); CH15 is the housekeeping block's whenever HK is powered (R370). -/
def State.ownerView (s : State) (n : Nat) : Nat :=
  if n = 25 ∧ s.domOn Dom.hk = true then ownHk else (s.lock n).owner

/-- LOCK_LEFT of a lock in microseconds (R344); a lease longer than the object holds reads a value that the spec leaves open. -/
def State.leftView (s : State) (n : Nat) : Nat :=
  match (s.lock n).leaseEnd with
  | some t =>
    let us := (t - s.now) / tUs
    if (s.lock n).owner = 0 then 0xFFFFFFFF else if us < 0xFFFFFFFF then us else Config.lockLeftLong us % 2 ^ 32
  | none => 0xFFFFFFFF

/-- The value of a demand's actual partner (R163, R337). -/
def State.actual (s : State) (d sub : Nat) : Nat :=
  if d = 0x2000 then b2n (s.txEnAct s.time_ (sub - 1))
  else if d = 0x2001 then b2n (s.rxEnAct s.time_ (sub - 1))
  else if d = 0x2002 ∨ d = 0x2003 then s.attenNow (d - 0x2002) (sub - 1)
  else s.a d sub

/-- Identity, locks, host ports, tree and time (chapters 12 to 14). -/
def State.viewControl (s : State) (i sub : Nat) : Nat :=
  if i = 0x1000 then (if sub = 6 then Config.uniqueId else s.o i sub)
  else if i = 0x1011 then s.ownerView (sub - 1)
  else if i = 0x1012 then s.leftView (sub - 1)
  else if i = 0x1100 then
    (if sub = 4 then (if s.role = 2 then 0 else s.o i sub)
     else if sub = 5 then s.subtreeNodes
     else if sub = 6 then s.subtreeDepth
     else if sub = 7 then s.summary
     else if sub = 8 then s.ownSummary
     else s.o i sub)
  else if (i = 0x1101 ∨ i = 0x1102) ∧ sub = 1 ∧ s.a 0x1100 3 = 1 then s.childAddr (i - 0x1100)
  else if i = 0x1200 ∧ sub = 0x0C then time96 s.time_
  else if i = 0x1F00 then
    (if sub = 2 then b2n s.stage.isSome
     else if sub = 3 then (match s.stage with | some g => g.vals.length | none => 0)
     else if sub = 4 then s.commits.length
     else s.o i sub)
  else s.o i sub

/-- Predistortion, observation, calibration (chapters 08 and 09). -/
def State.viewDpd (s : State) (i sub : Nat) : Nat :=
  if i = 0x4100 then s.dpdState (sub - 1)
  else if i = 0x4101 then s.coefAge (sub - 1)
  else if i = 0x4300 ∧ sub = 1 then
    (List.range 24).foldl (fun m c => if s.granted .dcCore c then withBit m c true else m) 0
  else if i = 0x4300 ∧ sub = 2 then s.dcBusy
  else if i = 0x4802 then (if s.dpdMode (sub - 1) = 2 then s.o i sub else 0)
  else if i = 0x4412 then
    (match smGet 0 s.cal.retAt (sub - 1) with
     | 0 => 0
     | t + 1 => (s.now - t) / tSec)
  else s.o i sub

/-- Ledger, power, links, housekeeping, hallmark, DMA (chapters 10, 15 to 18). -/
def State.viewRest (s : State) (i sub : Nat) : Nat :=
  if i = 0x5001 then s.base (sub - 1)
  else if i = 0x5002 then s.booked (sub - 1)
  else if i = 0x5003 then s.factor (sub - 1)
  else if i = 0x5004 then ceilOf (sub - 1)
  else if i = 0x5020 ∧ sub = 2 then s.deviceState
  else if i = 0x6220 ∧ sub = 2 then s.mTags.length
  else if i = 0x7211 then s.gbCodeAct (sub - 1)
  else if i = 0x8010 ∨ i = 0x8011 then
    (let c := Config.certificate (i - 0x8010)
     if sub = 1 then c.length
     else ofBytesBE (((c.drop (4096 * (sub - 2))) ++ List.replicate 4096 0).take 4096))
  else if i = 0x9000 ∧ sub = 1 then
    (List.range 16).foldl (fun m c => if s.granted .dmaChan c then withBit m c true else m) 0
  else if i = 0x9010 ∧ sub = 2 then s.chPrio 15
  else if (0x9020 ≤ i ∧ i ≤ 0x9023) ∧ sub = 8 then s.capState (i - 0x9020)
  else s.o i sub

/-- The value an object reads as, whoever reads it; subindex 0 is the count (R332), but where an
object table lays an object there (0x1208, 0x1209, 0x1220 to 0x1222; assumption 24). -/
def State.view (s : State) (i sub : Nat) : Nat :=
  if sub = 0 ∧ (dictRow i 0).isNone then (match dictIndex i with | some e => e.count | none => 0)
  else if demandIndex i ≠ i then s.actual (demandIndex i) sub
  else if i = 0x2121 then s.radioState (sub - 1)
  else if i < 0x2000 then s.viewControl i sub
  else if i < 0x5000 then s.viewDpd i sub
  else s.viewRest i sub

/-- Length of what an object reads as; a count is U8 (R332). -/
def readLen (i sub : Nat) : Nat := if sub = 0 ∧ (dictRow i 0).isNone then 1 else width (key i sub)

/-- The bytes of a value an object reads as. -/
def readBytes (i sub v : Nat) : List Nat := bytesBE (readLen i sub) v

/-! ### The event log (R350) -/

/-- An entry as it is read (Table 14-9). -/
def LogEntry.bytes (e : LogEntry) : List Nat :=
  bytesBE 2 e.code ++ [0, 0] ++ bytesBE 4 (e.kind * 2 ^ 30 + e.origin) ++ bytesBE 4 e.detail ++ bytesBE 4 e.sec ++ bytesBE 4 e.ns

/-- Entries not read yet. -/
def State.unread (s : State) : Nat := (s.o 0xA000 3 + 2 ^ 32 - s.o 0xA000 4) % 2 ^ 32

/-- LOG_READ: the oldest unread entry, and LOG_NEXT moves past it; with none, 20 zero bytes. -/
def State.logRead (s : State) : Nat × List Nat × State :=
  if s.unread = 0 then (St.ok, List.replicate 20 0, s)
  else match s.log[s.log.length - s.unread]? with
    | some e => (St.ok, e.bytes, s.bump 0xA000 4 1)
    | none => (St.ok, List.replicate 20 0, s)

/-- LOG_CLEAR. -/
def State.logClear (s : State) (v : Nat) : Nat × State :=
  if v = 0 then acts s else acts ((({ s with log := [] }.seto 0xA000 3 0).seto 0xA000 4 0).seto 0xA000 6 0)

/-! ### OBJ_READ -/

/-- A read that has passed the common judgement: its status, its data, the state after. -/
def State.objRead (s : State) (r : Req) (i sub : Nat) : Nat × List Nat × State :=
  if i = 0xA000 ∧ sub = 5 then s.logRead
  else if (i = 0x1238 ∨ i = 0x1239) ∧ sub = 2 then s.tciStamp (i - 0x1238)
  else if i = 0x8020 ∧ sub = 1 then s.challenge r
  else if i = 0x8030 ∧ ((sub = 4 ∧ s.o 0x8030 2 = 1) ∨ (sub = 5 ∧ (s.o 0x8030 2 = 1 ∨ s.o 0x8030 2 = 2))) then (St.attestBusy, [], s)
  else if i = 0x1010 ∧ sub = 3 then (St.ok, bytesBE 1 (s.level r), s)
  else if hasActual i = true ∧ sub ≠ 0 then
    let d := s.view i sub
    let a := s.actual i sub
    (if d = a then St.ok else St.differs, readBytes i sub d ++ readBytes i sub a, s)
  else (St.ok, readBytes i sub (s.view i sub), s)

/-! ### The commands -/

def execObjRead (t : Tick) (r : Req) (i sub : Nat) (s : State) : Host.Outcome State Fault Refusal :=
  s.run t (fun s => s.readBy r i sub (fun s => s.objRead r i sub))

def execLogRead (t : Tick) (r : Req) (s : State) : Host.Outcome State Fault Refusal :=
  s.run t (fun s => s.readBy r 0xA000 5 State.logRead)

end Sys2Proof.Machine
end

