-- ==== Sys2Proof/Machine/Writes.lean ====
section
/-!
DEFINITION. What a write of each object does (R333, R334, R337, R338, R343, R50): the CLEARs, the immediate sets, the objects
without a rule of their own, and the commands of the other chapters as a write reaches them.
-/

namespace Sys2Proof.Machine

/-! ### Clears (R50, R106, R131, R163, R187, R211, R238, R270, R290, R313, R330, R362, R381, R405, R426) -/

/-- Subindex of CLEAR in an index that has one. -/
def clearSub (i : Nat) : Option Nat :=
  (([(0x1020, 8), (0x1100, 0x0E), (0x1204, 6), (0x2130, 6), (0x2141, 7), (0x2430, 6), (0x3031, 0x0E), (0x3035, 9), (0x3036, 0x0D),
    (0x3037, 0x0D), (0x3300, 0x0C), (0x4110, 8), (0x4216, 1), (0x4300, 6), (0x4420, 8), (0x5005, 0x17), (0x5050, 6), (0x6010, 0x13),
    (0x6011, 0x13), (0x6012, 0x13), (0x6111, 6), (0x7220, 5), (0x9000, 8)] : List (Nat × Nat)).find? (fun x => x.1 == i)).map
    (fun x => x.2)

/-- A CLEAR: at once for the indices that say so, else at the boundary that its chapter names, where it waits. -/
def State.clearWrite (s : State) (i v : Nat) : Nat × State :=
  if v = 0 then acts s
  else if i = 0x1020 then acts (s.zeroRange 0x1020 3 5)
  else if i = 0x5005 then acts (s.zeroRange 0x5005 1 22)
  else if i = 0x5050 then acts (s.zeroRange 0x5050 1 5)
  else if i = 0x7220 then acts (s.zeroRange 0x7220 1 4)
  else if i = 0x9000 then acts (((s.seto 0x9000 2 0).seto 0x9000 3 0).seto 0x9000 6 0)
  else acts (if i ∈ s.clears then s else { s with clears := s.clears ++ [i] })

/-! ### Immediate sets (R343, Table 14-3) -/

/-- An object of an immediate set that is written directly. -/
def isImmediate (i sub : Nat) : Bool :=
  (decide (i = 0x1020) && (sub == 1 || sub == 2)) || ((i == 0x1101 || i == 0x1102) && sub == 1)

/-- The LHP watermarks are consistent. -/
def State.lhpMarksOk (s : State) : Bool := decide (s.o 0x1020 2 < s.o 0x1020 1)

/-- A write of a watermark: it is stored, and the set applies whole or is held. -/
def State.lhpMark (s : State) (sub v : Nat) : Nat × State :=
  let s := s.seto 0x1020 sub v
  if s.lhpMarksOk then
    (St.ok, ((s.seta 0x1020 1 (s.o 0x1020 1)).seta 0x1020 2 (s.o 0x1020 2)).alarmIf Al.cfgMismatch 0x1020 false)
  else (St.held, s.alarmIf Al.cfgMismatch 0x1020 true)

/-- A write of CHILD_ADDR: refused in automatic mode (R319). -/
def State.childAddrWrite (s : State) (p v : Nat) : Nat × State :=
  if s.a 0x1100 3 = 1 then (St.addrAuto, s)
  else
    let s := (s.seto (0x1100 + p) 1 v).childSet p (s.routesDue p)
    (if s.raised Al.cfgMismatch (0x1100 + p) then St.held else St.ok, s)

/-- A write of an immediate set's object. -/
def State.immediate (s : State) (i sub v : Nat) : Nat × State :=
  if i = 0x1020 then s.lhpMark sub v else s.childAddrWrite (i - 0x1100) v

/-! ### Staged writes (R338) -/

/-- A staged write and what its own rule refuses at once: CHILD_ROUTE in automatic mode (R319), a badly formed term set
(R191). -/
def State.stagedWrite (s : State) (r : Req) (i sub v : Nat) : Nat × State :=
  if (i = 0x1101 ∨ i = 0x1102) ∧ 6 ≤ sub ∧ s.a 0x1100 3 = 1 then (St.addrAuto, s)
  else if i = 0x4003 ∧ termsOk v = false then (St.badValue, s)
  else s.stageWrite r i sub v

/-- STAGE_LEASE: every write renews the lease of the set (R338). -/
def State.stageLeaseWrite (s : State) (v : Nat) : Nat × State :=
  let s := s.seto 0x1F00 8 v
  match s.stage with
  | some g => acts ({ s with stage := some { g with leaseEnd := s.stageEnd } }.setLock 27 ⟨g.owner, some s.stageEnd⟩)
  | none => acts s

/-! ### Objects with a small rule of their own -/

/-- CHF_USER and its uplink partner: every tap within 18 bits; running paths of a carrier that names the set keep the old
coefficients until they can load (R101, R113). -/
def State.chfUser (s : State) (dir sub v : Nat) : Nat × State :=
  let tap := fun j => toInt 32 (bits v (32 * (47 - j)) 32)
  if (List.range 48).any (fun j => decide (tap j < -131072) || decide (131071 < tap j)) then (St.badValue, s)
  else
    let T := s.time_
    let i := if dir = 0 then 0x3020 else 0x3024
    let old := s.o i sub
    let named := (List.range 4).filter (fun c =>
      s.carActive T dir c && decide (s.a (carIdx dir c) (if dir = 0 then 7 else 6) = sub))
    let ps := allPaths.filter (fun n => if dir = 0 then s.txOn T n else s.rxOn T n)
    acts (named.foldl (fun s c => s.chfMark dir c ps sub old) (s.seto i sub v)).chfCount

/-- DPD_SHADOW: not while the path adapts (R197). -/
def State.shadowWrite (s : State) (n v : Nat) : Nat × State :=
  if s.dpdMode n = 2 then (St.dpdAdapting, s) else acts (s.seto 0x4004 (n + 1) v)

/-- CH_AT: an air time in the layout of Table 14-2, NOW 0; it is the next to come (R6, Table 15-6). -/
def State.chAt (s : State) (r : Req) (n v : Nat) : Nat × State :=
  if bit v 11 = true ∨ s.wordAt v s.time_ = none then (St.badValue, s)
  else s.chOwned r n (fun s =>
    let s := s.seto (chIdx9 n) 5 v
    acts (if s.o (chIdx9 n) 3 = 0x17 then s.modChan n (fun c => { c with trigAt := s.now, fired := 0 }) else s))

/-- CH_PRIO, CH_TIMER, CH_LEASE of a channel: by its owner only; a lease written is the lease that then runs (R370, R381). -/
def State.chSet (s : State) (r : Req) (n sub v : Nat) : Nat × State :=
  s.chOwned r n (fun s => (s.seto (chIdx9 n) sub v).chOwned r n acts)

/-- The most units that CAP_LEN may ask for at a point (Table 15-4); none for packets. -/
def State.capLenMax (s : State) (b : Nat) : Option Nat :=
  let p := s.o (capIdx b) 1
  if p = 2 then some 65528
  else if p = 4 ∨ p = 5 then none
  else some (capMax / (96 * max 1 (s.carNrb s.time_ (capDir p) (s.o (capIdx b) 3))))

/-- CAP_PATH of a buffer names one path: 96 to 126 name none (R11); 127, every path of the node, and above lie outside the
object's range (R333). -/
def State.capPath (s : State) (b v : Nat) : Nat × State :=
  if 126 < v then (St.badValue, s) else if 95 < v then (St.badPath, s) else acts (s.seto (capIdx b) 2 v)

/-- CAP_AT and CAP_LEN of a buffer. -/
def State.capAt (s : State) (b v : Nat) : Nat × State :=
  if bit v 11 = false ∧ s.wordAt v s.time_ = none then (St.badValue, s) else acts (s.seto (capIdx b) 5 v)
def State.capLen (s : State) (b v : Nat) : Nat × State :=
  let big := match s.capLenMax b with | some m => decide (m < v) | none => false
  if v = 0 ∨ big = true then (St.badValue, s) else acts (s.seto (capIdx b) 6 v)

/-! ### A write of any object -/

/-- Chapters 02 to 07 (indices 0x2000 to 0x3FFF). -/
def State.writeRf (s : State) (i sub v : Nat) : Nat × State :=
  if i = 0x2002 ∨ i = 0x2003 then s.attenWrite (i - 0x2002) (sub - 1) v
  else if i = 0x2007 then s.gbClear (sub - 1) v
  else if 0x2400 ≤ i ∧ i ≤ 0x2403 ∧ 4 ≤ sub ∧ sub ≤ 7 then s.divWrite (i - 0x2400) sub v
  else if 0x2400 ≤ i ∧ i ≤ 0x2403 ∧ sub = 8 then s.loLoadNow (i - 0x2400) v
  else if 0x2400 ≤ i ∧ i ≤ 0x2403 ∧ sub = 0x0A then s.loStep (i - 0x2400) v
  else if i = 0x3020 then s.chfUser 0 sub v
  else if i = 0x3024 then s.chfUser 1 sub v
  else if (i = 0x3100 ∨ i = 0x3101) ∧ sub = 3 then s.stageOpen (i - 0x3100) v
  else if (i = 0x3100 ∨ i = 0x3101) ∧ sub = 7 then s.bankMark (i - 0x3100) v
  else if (i = 0x3200 ∨ i = 0x3201) ∧ sub = 1 then s.schedClone (i - 0x3200) v
  else acts (s.seto i sub v)

/-- Chapters 08 to 11 and 16 to 18 (indices 0x4000 to 0x7FFF). -/
def State.writeSys (s : State) (i sub v : Nat) : Nat × State :=
  if i = 0x4004 then s.shadowWrite (sub - 1) v
  else if i = 0x4400 ∧ sub = 8 then s.benchNow v
  else if i = 0x5000 then s.capWrite (sub - 1) v
  else if i = 0x5020 ∧ sub = 1 then s.powerReq v
  else if i = 0x5021 then s.domReq (sub - 1) v
  else if i = 0x5071 then s.childReset sub v
  else if i = 0x6110 then s.lanePresets v
  else if i = 0x6120 then s.laneTest ((sub - 1) / 8) ((sub - 1) % 8) v
  else if i = 0x6124 then s.laneInject ((sub - 1) / 8) ((sub - 1) % 8) v
  else if i = 0x7000 ∧ sub = 2 then s.hkOneshot v
  else if i = 0x7201 then s.auxCode (sub - 1) v
  else acts (s.seto i sub v)

/-- Hallmark, DMA, log (indices from 0x8000); a session or a report may be answered later (R443). -/
def State.writeHigh (s : State) (r : Req) (i sub v : Nat) : Option Nat × State :=
  let now := fun (x : Nat × State) => (some x.1, x.2)
  if i = 0x8000 ∧ sub = 3 then now (s.fwVerify r v)
  else if i = 0x8000 ∧ sub = 6 then now (s.fwConfirm v)
  else if i = 0x8020 ∧ sub = 2 then now (s.respRsa r v)
  else if i = 0x8020 ∧ sub = 3 then now (s.respSlh r v)
  else if i = 0x8020 ∧ sub = 4 then s.sessionOpen r v
  else if i = 0x8020 ∧ sub = 5 then now (s.sessionClose r v)
  else if i = 0x8021 then now (s.credWrite (sub - 1) v)
  else if i = 0x8023 ∧ sub = 1 then now (s.credRevoke v)
  else if i = 0x8030 ∧ sub = 1 then s.attestReq r v
  else if i = 0x9000 ∧ sub = 5 then now (s.ringRead v)
  else if 0x9001 ≤ i ∧ i ≤ 0x9010 then
    (let n := i - 0x9001
     now (if sub = 1 then s.chClaim r n v
      else if sub = 3 then s.chTrig r n v
      else if sub = 5 then s.chAt r n v
      else if sub = 6 then s.chStart r n v
      else if sub = 7 then s.chDoorbell r n v
      else if sub = 8 then s.chStop r n v
      else s.chSet r n sub v))
  else if 0x9020 ≤ i ∧ i ≤ 0x9023 ∧ sub = 2 then now (s.capPath (i - 0x9020) v)
  else if 0x9020 ≤ i ∧ i ≤ 0x9023 ∧ sub = 5 then now (s.capAt (i - 0x9020) v)
  else if 0x9020 ≤ i ∧ i ≤ 0x9023 ∧ sub = 6 then now (s.capLen (i - 0x9020) v)
  else if 0x9020 ≤ i ∧ i ≤ 0x9023 ∧ sub = 7 then now (s.capArm (i - 0x9020) v)
  else if i = 0xA000 ∧ sub = 7 then now (s.logClear v)
  else now (acts (s.seto i sub v))

/-- What a write that has passed the common judgement does, each object by its own rule; an object without one takes the
value. -/
def State.writeRule (s : State) (r : Req) (i sub v : Nat) : Option Nat × State :=
  let now := fun (x : Nat × State) => (some x.1, x.2)
  if isStaged i sub then now (s.stagedWrite r i sub v)
  else if clearSub i = some sub then now (s.clearWrite i v)
  else if isImmediate i sub then now (s.immediate i sub v)
  else if i = 0x1200 ∧ sub = 0x0A then now (s.timeSet v)
  else if i = 0x123C then now (acts (s.timeAlarm (sub - 1) v))
  else if i = 0x1F00 ∧ sub = 1 then now (s.commitWrite r v)
  else if i = 0x1F00 ∧ sub = 7 then now (s.stageDiscard r v)
  else if i = 0x1F00 ∧ sub = 8 then now (s.stageLeaseWrite v)
  else if i < 0x2000 then now (acts (s.seto i sub v))
  else if i < 0x4000 then now (s.writeRf i sub v)
  else if i < 0x8000 then now (s.writeSys i sub v)
  else s.writeHigh r i sub v

/-- A write request of an object. NODE_ADDR and RESET_REQ act once their answer has left (R317, R455). -/
def State.objWrite (s : State) (r : Req) (one : Bool) (i sub : Nat) (data : List Nat) : State :=
  if i = 0x1100 ∧ sub = 2 then s.nodeAddrWrite r one data
  else if i = 0x5070 ∧ sub = 3 then s.resetReq r data
  else s.writeLate r i sub data (fun s v => s.writeRule r i sub v)

/-! ### Requests in turn (R254, R256) -/

/-- A request is executed by its OPCODE (Table 10-12). -/
def State.request (s : State) (m : MReq) : State :=
  let i := m.w1 / 65536
  let sub := m.w1 / 256 % 256
  if m.op = 1 then s.readBy m.req i sub (fun s => s.objRead m.req i sub)
  else if m.op = 2 then
    let s := s.objWrite m.req m.one i sub m.data
    -- a session or a report that waits for credit stays in service until it is answered (R255, R443)
    if s.sec.openWait.any (fun x => decide (x.req = m.req)) || s.sec.attWait.any (fun x => decide (x.1 = m.req)) then s.keep m else s
  else if m.op = 3 ∨ m.op = 4 then s.memRequest m
  else s.serve m.req m.op m.w1 (fun s => (St.badOpcode, [], s))

/-! ### Leases and alarms that run out -/

/-- LOCK_LEASE_EXPIRY of a lock: forced release to its safe state, counted, with the alarm of its chapter. A lease has run out
once its last instant is past, so a renewal in the cycle in which it ends still renews it (R345). -/
def State.lockLease (s : State) (n : Nat) : State :=
  match (s.lock n).leaseEnd with
  | some t =>
    if (s.lock n).owner = 0 ∨ s.now ≤ t ∨ 28 ≤ n then s
    else if n < 8 then s.orxLease n
    else if n = 9 then s.cxLease
    else if n = 27 then s.stageLease
    else
      let s := (s.safeState n).bump 0x1013 (n + 1) 1
      if 10 ≤ n ∧ n < 26 then s.raise Al.dmaLease (n - 10) else s
  | none => s

/-- Alarms whose rule names a condition that ends: they clear with it (R349). -/
def condAlarms : List Nat :=
  [Al.cpAbsent, Al.cfgMismatch, Al.refDrift, Al.refUnlockedTime, Al.chfPending, Al.eirpShort, Al.hopBudget, Al.ulChildRemoved,
   Al.ulChfPending, Al.gbFault, Al.clkUnlock, Al.refLost, Al.loUnlock, Al.loNoSpare, Al.fconvSpur, Al.dpdStale, Al.rextFault,
   Al.calOverdue, Al.benchStarved, Al.ageMargin, Al.avsMax, Al.timeUnlock, Al.rootSourceLost, Al.sysOffsetMismatch,
   Al.roleConflict, Al.childAddrMismatch, Al.depthExceeded, Al.ledgerOver, Al.rflTrip, Al.vswrWarn, Al.tsSuspect, Al.tjWarn,
   Al.tjTrip, Al.vmidFault, Al.auxCompliance, Al.railRange, Al.idsLimit, Al.thLimit, Al.sessionLockout]

/-- ALARM_HOLD_EXPIRY of an instance (R349). -/
def State.alarmHold (s : State) (code detail : Nat) : State :=
  match s.alarms.find? (fun a => decide (a.code = code ∧ a.detail = detail)) with
  | some a => if code ∈ condAlarms ∨ s.now < a.since + s.o 0xA000 2 * tSec then s else s.clearAl code detail
  | none => s

/-! ### The commands -/

def execObjWrite (t : Tick) (r : Req) (i sub : Nat) (data : List Nat) (s : State) : Host.Outcome State Fault Refusal :=
  s.run t (fun s => s.objWrite r false i sub data)

def execStagedWrite (t : Tick) (r : Req) (i sub v : Nat) (s : State) : Host.Outcome State Fault Refusal :=
  s.run t (fun s => if isStaged i sub then s.writeBy r i sub (objBytes i sub v) (fun s v => s.stagedWrite r i sub v) else s)

def execImmediateSetWrite (t : Tick) (r : Req) (i sub v : Nat) (s : State) : Host.Outcome State Fault Refusal :=
  s.run t (fun s => if isImmediate i sub then s.writeBy r i sub (objBytes i sub v) (fun s v => s.immediate i sub v) else s)

def execCounterClear (t : Tick) (r : Req) (i v : Nat) (s : State) : Host.Outcome State Fault Refusal :=
  s.run t (fun s => match clearSub i with
    | some sub => s.writeBy r i sub (objBytes i sub v) (fun s v => s.clearWrite i v)
    | none => s)

def execLogClear (t : Tick) (r : Req) (v : Nat) (s : State) : Host.Outcome State Fault Refusal :=
  s.run t (fun s => s.writeBy r 0xA000 7 (objBytes 0xA000 7 v) (fun s v => s.logClear v))

def execLockLeaseExpiry (t : Tick) (n : Nat) (s : State) : Host.Outcome State Fault Refusal := s.run t (fun s => s.lockLease n)

def execAlarmHoldExpiry (t : Tick) (code detail : Nat) (s : State) : Host.Outcome State Fault Refusal :=
  s.run t (fun s => s.alarmHold code detail)

end Sys2Proof.Machine
end

