-- ==== Sys2Proof/Machine/Lhp.lean ====
section
/-!
DEFINITION. The local host port (R351 to R355), and the turn of the next management request (R254 to R256).
-/

namespace Sys2Proof.Machine

/-! ### Queues (R355) -/

/-- Bytes of each queue. -/
def lhpSize : Nat := 36864

/-- Bytes in the request queue. -/
def State.lhpInBytes (s : State) : Nat := listSum (s.lhp.inq.map (fun x => x.size))

/-- HXOFF follows the request queue: asserted from LHP_HIGH percent, deasserted at LHP_LOW percent (R355). -/
def State.lhpFlow (s : State) : State :=
  let n := 100 * s.lhpInBytes
  if s.a 0x1020 1 * lhpSize ≤ n then { s with lhp := { s.lhp with hxoff := true } }
  else if n ≤ s.a 0x1020 2 * lhpSize then { s with lhp := { s.lhp with hxoff := false } }
  else s

/-- Frames are taken: not in reset, not before CP is ON, not in the transaction that woke the device (R351, R399). -/
def State.lhpTakes (s : State) : Bool := s.start.held == 0 && s.domOn Dom.cp && !s.lhp.ignore

/-- A status frame with a code (Table 14-10). It carries no tag; PRIO, TAG and NODE are not stated: free. -/
def State.lhpStatus (s : State) (code : Nat) : State :=
  let d := s.draw 27
  d.2.lhpPush (lhpFrame 3 (d.1 % 4) (d.1 / 4 % 128) (d.1 / 512) [code, 0, 0, 0])

/-! ### Transactions and frames (R351 to R354) -/

/-- LHP_TRANSACTION_START: the SPI mode is that of SCLK at the falling edge of SCS_N; a Dormant device wakes, and ignores the
frames of the transaction (R351, R399). -/
def State.lhpStart (s : State) (sclk : Bool) : State :=
  let asleep := s.power.dormant || decide (s.power.wakeStep ≠ 0) && !s.domOn Dom.cp
  let s := { s with lhp := { s.lhp with spiMode := if sclk then 3 else 0, ignore := asleep } }
  s.wakeSource 1

/-- A tag of the LHP is outstanding (R354). -/
def State.lhpTagUsed (s : State) (tag : Nat) : Bool :=
  s.lhp.inq.any (fun x => x.m.req.tag == tag) || s.inService.any (fun m => m.req.kind == 3 && m.req.tag == tag) ||
  s.mTags.any (fun m => m.lhp && m.tag == tag)

/-- A frame that has passed its CRC: it joins the request queue, unless it does not fit or its tag is refused (R353, R354). -/
def State.lhpAccept (s : State) (f : List Nat) : State :=
  let tag := f.getD 2 0 % 128
  let node := ofBytesBE ((f.drop 3).take 3) % 2 ^ 18
  let m := mReqOf ⟨3, 0, 0, tag, f.getD 1 0 % 4, false⟩ s.now false ((f.drop 8).take (f.length - 12))
  if lhpSize < s.lhpInBytes + f.length then (s.bump 0x1020 5 1).lhpStatus 3
  else if 63 < tag then s.answer m.req m.op m.w1 St.badTag []
  else if s.lhpTagUsed tag then
    let keep := s.inService
    { s.answer m.req m.op m.w1 St.tagBusy [] with inService := keep }
  else ({ s with lhp := { s.lhp with inq := s.lhp.inq ++ [LhpIn.mk node m f.length] } }.bump 0x1020 7 1).lhpFlow

/-- Inbound bytes of a transaction: the receiver looks for SOF, and ends each frame by its length. After a bad TYPE or LEN it
looks for SOF again from the byte after the failed one (R352, R353). Bytes of a frame that is not whole are left out. -/
def State.lhpScan (s : State) : Nat → List Nat → State
  | 0, _ => s
  | _, [] => s
  | k + 1, b :: l =>
    let f := b :: l
    let len := ofBytesBE ((f.drop 6).take 2)
    if b ≠ 0xA5 then s.lhpScan k l
    else if f.length < 2 then s
    else if f.getD 1 0 / 16 ≠ 1 then ((s.bump 0x1020 4 1).lhpStatus 5).lhpScan k (f.drop 2)
    else if f.length < 8 then s
    else if len % 4 ≠ 0 ∨ len < 8 ∨ 8192 < len then ((s.bump 0x1020 4 1).lhpStatus 2).lhpScan k (f.drop 8)
    else if f.length < 12 + len then s
    else if crc32 (f.take (8 + len)) ≠ ofBytesBE ((f.drop (8 + len)).take 4) then
      ((s.bump 0x1020 3 1).lhpStatus 1).lhpScan k (f.drop (12 + len))
    else (s.lhpAccept (f.take (12 + len))).lhpScan k (f.drop (12 + len))

/-- LHP_FRAME_RECEIVE. -/
def State.lhpReceive (s : State) (l : List Nat) : State := if s.lhpTakes then s.lhpScan l.length l else s

/-- LHP_FRAME_ABANDON: SCS_N rises inside a frame (R352, R353). -/
def State.lhpAbandon (s : State) : State := if s.lhpTakes then (s.bump 0x1020 6 1).lhpStatus 4 else s

/-- LHP_RESPONSE_SENT: the last CRC byte of the first frame of the response queue has been clocked out (R352, R355). -/
def State.lhpSent (s : State) : State :=
  { s with lhp := { s.lhp with out := s.lhp.out.tail, havail := !s.lhp.out.tail.isEmpty } }

/-! ### The turn of a request -/

/-- A request from the LHP for another node goes on as class M (R354, Table 13-3). A broadcast write is executed here too, goes
to every ACTIVE child port, and is not answered; its tag is free at once (R322). -/
def State.lhpForward (s : State) (x : LhpIn) : State :=
  let m := x.m
  let pk : Pkt := ⟨x.node, Cls.m, m.req.prio, s.addr, m.req.tag, 0, false, false, false, false, false, m.payload⟩
  if s.addr = 0 then s.answer m.req m.op m.w1 St.noRoute []
  else if x.node = 0x3FFFF then
    if m.op = 2 ∨ m.op = 4 then
      let s := s.request { m with req := { m.req with bcast := true } }
      [1, 2].foldl (fun s q => s.send q pk true none) s
    else s.routeMiss
  else
    let p := s.portOf x.node
    if !s.active p then s.answer m.req m.op m.w1 St.noRoute []
    else
      { s with mTags := s.mTags ++ [MTag.mk x.node m.req.tag m.req.prio (m.op * 2 ^ 28 + m.count) m.w1 p s.now true] }.send p pk true none

/-- A memory request whose port is held by a waiting vector keeps its place in the queue (R70). -/
def State.mHeld (s : State) (m : MReq) : Bool :=
  (m.op == 3 || m.op == 4) && (match regionOf m.w1 m.count with | some g => s.portHeld g | none => false)

/-- The request that comes before another: the higher PRIO, else the earlier arrival (R256). -/
def before (a b : MReq) : Bool := decide (b.req.prio < a.req.prio) || (a.req.prio == b.req.prio && decide (a.arrived ≤ b.arrived))

/-- The first of a list by that order. -/
def firstOf (l : List MReq) : Option MReq :=
  l.foldl (fun a m => match a with
    | none => some m
    | some b => if before b m then some b else some m) none

/-- The next request of the M queue, and of the LHP's, which gives none while the response queue is at LHP_HIGH (R355). -/
def State.nextM (s : State) : Option MReq := firstOf (s.mq.filter (fun m => !s.mHeld m))
def State.nextLhp (s : State) : Option LhpIn :=
  if s.a 0x1020 1 * lhpSize ≤ 100 * s.lhpOutBytes then none
  else
    let l := s.lhp.inq.filter (fun x => !(decide (x.node = 0 ∨ x.node = s.addr) && s.mHeld x.m))
    match firstOf (l.map (fun x => x.m)) with
    | some m => l.find? (fun x => decide (x.m = m))
    | none => none

/-- The LHP's next request is taken. -/
def State.takeLhp (s : State) (x : LhpIn) : State :=
  let s := { s with lhp := { s.lhp with inq := s.lhp.inq.erase x } }.lhpFlow
  if x.node = 0 ∨ x.node = s.addr then s.request x.m else s.lhpForward x

/-- The M queue's next request is taken. -/
def State.takeM (s : State) (m : MReq) : State := { s with mq := s.mq.erase m }.request m

/-- M_REQUEST_DISPATCH: while the control processor is absent requests wait, and past 30 ms each is answered (R16). -/
def State.dispatch (s : State) : State :=
  if s.cpAbsent.isSome ∧ s.cpLost = false then s
  else match s.nextM, s.nextLhp with
    | some m, some x => if before m x.m then s.takeM m else s.takeLhp x
    | some m, none => s.takeM m
    | none, some x => s.takeLhp x
    | none, none => s

/-! ### The commands -/

def execLhpTransactionStart (t : Tick) (sclk : Bool) (s : State) : Host.Outcome State Fault Refusal :=
  s.run t (fun s => s.lhpStart sclk)
def execLhpFrameReceive (t : Tick) (l : List Nat) (s : State) : Host.Outcome State Fault Refusal := s.run t (fun s => s.lhpReceive l)
def execLhpFrameAbandon (t : Tick) (s : State) : Host.Outcome State Fault Refusal := s.run t State.lhpAbandon
def execLhpResponseSent (t : Tick) (s : State) : Host.Outcome State Fault Refusal := s.run t State.lhpSent
def execMRequestDispatch (t : Tick) (s : State) : Host.Outcome State Fault Refusal := s.run t State.dispatch

end Sys2Proof.Machine
end

