-- ==== Sys2Proof/Machine/Swp.lean ====
section
/-!
DEFINITION. The status window port (R356 to R359): the shadow's words, their stale bits, and the refreshes that rewrite them. A
read changes nothing, so it is no command: swpRead is what SWD drives.
-/

namespace Sys2Proof.Machine

/-! ### SWP_MAP (R359) -/

/-- The entry of a map for word k of groups 8 to 127. -/
def mapEntry (map k : Nat) : Nat := bits map (32 * (1799 - k)) 32

/-- The fields of an entry (Table 14-12). -/
def entIndex (e : Nat) : Nat := bits e 16 16
def entSub (e : Nat) : Nat := bits e 8 8
def entMapped (e : Nat) : Bool := bit e 7
def entHalf (e : Nat) : Nat := bits e 3 2

/-- A type that no word shows. -/
def wideType (t : ObjTy) : Bool := match t with | .oct _ => true | .dom _ => true | .time96 => true | _ => false

/-- An entry is invalid: its object is absent, cannot be read at Observe, has a type no word shows, or has no such half. -/
def entInvalid (e : Nat) : Bool :=
  match lookup (entIndex e) (entSub e) with
  | (0, some r) => decide (2 ≤ r.lvl) || r.mode == .wo || wideType r.ty || decide (r.ty.len ≤ 2 * entHalf e)
  | (0, none) => decide (entHalf e ≠ 0)
  | _ => true

/-- The word an entry shows. -/
def State.entWord (s : State) (e : Nat) : Nat :=
  if entMapped e && !entInvalid e then bits (s.view (entIndex e) (entSub e)) (16 * entHalf e) 16 else 0

/-- The word mirrors a demand whose actual partner differs. -/
def State.entDiffers (s : State) (e : Nat) : Bool :=
  hasActual (entIndex e) && decide (entSub e ≠ 0) && decide (s.view (entIndex e) (entSub e) ≠ s.actual (entIndex e) (entSub e))

/-! ### What hardware writes (Table 14-11) -/

/-- Headroom of a rail. -/
def State.headroom (s : State) (r : Nat) : Nat := s.cap r - s.booked r

/-- The highest TS_TEMP (R411). -/
def State.hottest (s : State) : Int :=
  ((List.range 30).map (fun n => s.oi 0x7100 (n + 1))).foldl max (-32768)

/-- Words of group 0 from hardware. -/
def State.swpHw0 (s : State) (w : Nat) : Nat :=
  if w = 0 then 0x9600
  else if w = 1 then 0x00A1
  else if w = 2 then b2n s.cpAbsent.isNone * 256 + s.o 0x1200 0x0B * 16 + s.deviceState
  else if w = 9 then s.o 0x4800 3
  else if w = 10 then ofInt 16 s.hottest
  else (s.time_ / (tSec : Int)).toNat % 65536

/-- The words of groups 0 to 2 that hardware rewrites: address and value. -/
def State.swpHw (s : State) : List (Nat × Nat) :=
  [0, 1, 2, 9, 10, 11].map (fun w => (w, s.swpHw0 w)) ++
  (List.range 10).map (fun w => (16 + w, s.o 0x3300 (w + 2) % 65536)) ++
  (List.range 8).map (fun r => (32 + r, s.headroom r % 65536))

/-- Puts words into the shadow. -/
def State.swpPut (s : State) (l : List (Nat × Nat)) : State :=
  { s with swp := { s.swp with words := l.foldl (fun m x => smSet 0 m x.1 x.2) s.swp.words } }

/-- SWP_HW_REFRESH, every 100 µs (R358). -/
def State.swpHwRefresh (s : State) : State :=
  let early := match s.swp.hwAt with | some t => decide (s.now < t + 100 * tUs) | none => false
  if early || decide (s.start.held ≠ 0) then s
  else
    let s := s.swpPut s.swpHw
    { s with swp := { s.swp with hwAt := some s.now } }

/-- SWP_REFRESH: the control processor writes groups 8 to 127 by the map in force from now on, and the refresh sequence counts
(R357 to R359). -/
def State.swpRefresh (s : State) : State :=
  let early := match s.swp.cpAt with | some t => decide (s.now < t + s.o 0x1021 2 * tUs) | none => false
  if early || s.cpAbsent.isSome || decide (s.start.held ≠ 0) then s
  else
    let map := s.o 0x1021 1
    let seq := (smGet 0 s.swp.words 12 + 1) % 65536
    let s := s.swpPut ((List.range 1800).map (fun k => (16 * (8 + k / 15) + k % 15, s.entWord (mapEntry map k))) ++ [(12, seq)])
    { s with swp := { s.swp with map := map, cpAt := some s.now } }

/-! ### What the port shows -/

/-- A refresh lies SWP_MAX_AGE or more back. -/
def State.swpOld (s : State) (at_ : Option Nat) : Bool :=
  match at_ with | some t => decide (t + s.o 0x1021 3 * tMs ≤ s.now) | none => true

/-- The stale bit of word w of group g, from 0 to 14 (R358). -/
def State.swpStale (s : State) (g w : Nat) : Bool :=
  if g = 0 then
    (if w ∈ swpCpWords then s.cpAbsent.isSome && s.swpOld s.cpAbsent
     else if w = 12 then s.swpOld s.swp.cpAt
     else s.swpOld s.swp.hwAt || (w == 10 && !s.domOn Dom.hk))
  else if g = 1 then decide (w < 10) && (s.swpOld s.swp.hwAt || !s.domOn (Config.srcDomain 0x3300 % 22))
  else if g = 2 then decide (w < 8) && s.swpOld s.swp.hwAt
  else if g < 8 then false
  else
    let k := 15 * (g - 8) + w
    let e := mapEntry s.swp.map k
    if entMapped e then
      entInvalid e || s.swpOld s.swp.cpAt || s.entDiffers e || !s.domOn (Config.srcDomain (entIndex e) % 22)
    else entMapped (mapEntry (s.o 0x1021 1) k)

/-- SWD[15:0] at SWA[10:0] while SWOE_N is asserted (R356, R357): word 15 of a group holds its stale bits. -/
def State.swpRead (s : State) (a : Nat) : Nat :=
  let g := a / 16 % 128
  let w := a % 16
  if w = 15 then (List.range 15).foldl (fun m j => if s.swpStale g j then withBit m j true else m) 0
  else if g = 0 ∧ w ∈ swpCpWords ∧ s.cpAbsent = none then s.swpCpWord w
  else smGet 0 s.swp.words (16 * g + w)

/-! ### The commands -/

def execSwpRefresh (t : Tick) (s : State) : Host.Outcome State Fault Refusal := s.run t State.swpRefresh
def execSwpHwRefresh (t : Tick) (s : State) : Host.Outcome State Fault Refusal := s.run t State.swpHwRefresh

end Sys2Proof.Machine
end

