-- ==== Sys2Proof/Machine/Dispatch.lean ====
section
/-!
DEFINITION. One arm per command: a direct call of its meaning.
-/

namespace Sys2Proof.Machine

def exec (i : Instr) (s : State) : Host.Outcome State Fault Refusal :=
  match i with
  | .slotBoundary t scs slot => Sys2Proof.Machine.execSlotBoundary t scs slot s
  | .symbolBoundary t scs slot sym => Sys2Proof.Machine.execSymbolBoundary t scs slot sym s
  | .frameBoundary t => Sys2Proof.Machine.execFrameBoundary t s
  | .commitActivation t => Sys2Proof.Machine.execCommitActivation t s
  | .cpAbsentTimeout t => Sys2Proof.Machine.execCpAbsentTimeout t s
  | .controlRestartDone t => Sys2Proof.Machine.execControlRestartDone t s
  | .ledgerRequest t reqs => Sys2Proof.Machine.execLedgerRequest t reqs s
  | .ledgerRetry t => Sys2Proof.Machine.execLedgerRetry t s
  | .dlPacketArrival t p => Sys2Proof.Machine.execDlPacketArrival t p s
  | .sectionArrival t p => Sys2Proof.Machine.execSectionArrival t p s
  | .cWindowClose t car slot sym => Sys2Proof.Machine.execCWindowClose t car slot sym s
  | .beamformDone t car slot sym lo hi => Sys2Proof.Machine.execBeamformDone t car slot sym lo hi s
  | .fastPathRecomputeStart t => Sys2Proof.Machine.execFastPathRecomputeStart t s
  | .fastPathRecomputeDone t => Sys2Proof.Machine.execFastPathRecomputeDone t s
  | .touchstone t scs slot sym => Sys2Proof.Machine.execTouchstone t scs slot sym s
  | .ulSymbolEnd t e adc => Sys2Proof.Machine.execUlSymbolEnd t e adc s
  | .ulPacketDepart t e p => Sys2Proof.Machine.execUlPacketDepart t e p s
  | .ulChildPacketArrival t port p => Sys2Proof.Machine.execUlChildPacketArrival t port p s
  | .ulCutoff t e p => Sys2Proof.Machine.execUlCutoff t e p s
  | .stageOpen t r dir v => Sys2Proof.Machine.execStageOpen t r dir v s
  | .stageFillDone t dir => Sys2Proof.Machine.execStageFillDone t dir s
  | .stageSwapRelease t dir => Sys2Proof.Machine.execStageSwapRelease t dir s
  | .bankMarkValid t r dir v => Sys2Proof.Machine.execBankMarkValid t r dir v s
  | .schedClone t r dir v => Sys2Proof.Machine.execSchedClone t r dir v s
  | .schedCloneDone t dir => Sys2Proof.Machine.execSchedCloneDone t dir s
  | .suppressionEnd t => Sys2Proof.Machine.execSuppressionEnd t s
  | .txAttenWrite t r path v => Sys2Proof.Machine.execTxAttenWrite t r path v s
  | .rxAttenWrite t r path v => Sys2Proof.Machine.execRxAttenWrite t r path v s
  | .txEntry t lo slot sym => Sys2Proof.Machine.execTxEntry t lo slot sym s
  | .txExit t lo slot sym => Sys2Proof.Machine.execTxExit t lo slot sym s
  | .rxEntry t lo slot sym => Sys2Proof.Machine.execRxEntry t lo slot sym s
  | .rxExit t lo slot sym => Sys2Proof.Machine.execRxExit t lo slot sym s
  | .gbFaultClear t r path v => Sys2Proof.Machine.execGbFaultClear t r path v s
  | .cxRequest t n => Sys2Proof.Machine.execCxRequest t n s
  | .cxTxRequest t => Sys2Proof.Machine.execCxTxRequest t s
  | .cxGrantSeen t => Sys2Proof.Machine.execCxGrantSeen t s
  | .cxGuardExpiry t => Sys2Proof.Machine.execCxGuardExpiry t s
  | .cxInjectionEnd t => Sys2Proof.Machine.execCxInjectionEnd t s
  | .cxgntDeassert t => Sys2Proof.Machine.execCxgntDeassert t s
  | .cxWaitTimeout t => Sys2Proof.Machine.execCxWaitTimeout t s
  | .cxLeaseExpiry t => Sys2Proof.Machine.execCxLeaseExpiry t s
  | .refAccept t khz => Sys2Proof.Machine.execRefAccept t khz s
  | .refLost t => Sys2Proof.Machine.execRefLost t s
  | .refRestore t => Sys2Proof.Machine.execRefRestore t s
  | .clkPllUnlock t pll => Sys2Proof.Machine.execClkPllUnlock t pll s
  | .clkPllRelock t pll => Sys2Proof.Machine.execClkPllRelock t pll s
  | .datapathPllUnlock t n => Sys2Proof.Machine.execDatapathPllUnlock t n s
  | .datapathPllRelock t n => Sys2Proof.Machine.execDatapathPllRelock t n s
  | .loCountWindow t lo count => Sys2Proof.Machine.execLoCountWindow t lo count s
  | .loCycleSlip t lo => Sys2Proof.Machine.execLoCycleSlip t lo s
  | .loLoadNow t r lo v => Sys2Proof.Machine.execLoLoadNow t r lo v s
  | .loPhaseStep t r lo v => Sys2Proof.Machine.execLoPhaseStep t r lo v s
  | .loHandoverStart t x sp => Sys2Proof.Machine.execLoHandoverStart t x sp s
  | .loHandoverArmed m => Sys2Proof.Machine.execLoHandoverArmed m s
  | .dpdAttemptStart t => Sys2Proof.Machine.execDpdAttemptStart t s
  | .dpdCaptureDone t x ref orx => Sys2Proof.Machine.execDpdCaptureDone t x ref orx s
  | .dpdSolveDone t path nmse gain chat => Sys2Proof.Machine.execDpdSolveDone t path nmse gain chat s
  | .dpdPeriodLate t path => Sys2Proof.Machine.execDpdPeriodLate t path s
  | .dpdStaleAgeExpiry t path => Sys2Proof.Machine.execDpdStaleAgeExpiry t path s
  | .orxRequest t x who want => Sys2Proof.Machine.execOrxRequest t x who want s
  | .orxGrant t x => Sys2Proof.Machine.execOrxGrant t x s
  | .orxSettleDone t x => Sys2Proof.Machine.execOrxSettleDone t x s
  | .orxDrop t x => Sys2Proof.Machine.execOrxDrop t x s
  | .orxWithdraw t x => Sys2Proof.Machine.execOrxWithdraw t x s
  | .orxBurstLimitExpiry t x => Sys2Proof.Machine.execOrxBurstLimitExpiry t x s
  | .orxLeaseExpiry t x => Sys2Proof.Machine.execOrxLeaseExpiry t x s
  | .orxPrivWdExpiry t x => Sys2Proof.Machine.execOrxPrivWdExpiry t x s
  | .dcEccError t core double => Sys2Proof.Machine.execDcEccError t core double s
  | .chfPendingTimeout t => Sys2Proof.Machine.execChfPendingTimeout t s
  | .ulChfPendingTimeout t => Sys2Proof.Machine.execUlChfPendingTimeout t s
  | .rextMeasure t dev => Sys2Proof.Machine.execRextMeasure t dev s
  | .startCalStepDone t meas => Sys2Proof.Machine.execStartCalStepDone t meas s
  | .assayDone t path chain => Sys2Proof.Machine.execAssayDone t path chain s
  | .assayResultReady t path assay meas => Sys2Proof.Machine.execAssayResultReady t path assay meas s
  | .calStoreWrite t => Sys2Proof.Machine.execCalStoreWrite t s
  | .calBenchNow t r v => Sys2Proof.Machine.execCalBenchNow t r v s
  | .calOverdueExpiry t path => Sys2Proof.Machine.execCalOverdueExpiry t path s
  | .ageMeasure t counts => Sys2Proof.Machine.execAgeMeasure t counts s
  | .ageHourly t => Sys2Proof.Machine.execAgeHourly t s
  | .avsStep t => Sys2Proof.Machine.execAvsStep t s
  | .paGainDaily t => Sys2Proof.Machine.execPaGainDaily t s
  | .portDetect t p => Sys2Proof.Machine.execPortDetect t p s
  | .laneTrainDone t p x res => Sys2Proof.Machine.execLaneTrainDone t p x res s
  | .portAlignDone t p => Sys2Proof.Machine.execPortAlignDone t p s
  | .lmgTs1 t p x skew m => Sys2Proof.Machine.execLmgTs1 t p x skew m s
  | .lmgTs2 t p x m => Sys2Proof.Machine.execLmgTs2 t p x m s
  | .portRateDone t p => Sys2Proof.Machine.execPortRateDone t p s
  | .portTrainTimeout t p => Sys2Proof.Machine.execPortTrainTimeout t p s
  | .lmgDropReq t p m => Sys2Proof.Machine.execLmgDropReq t p m s
  | .lmgDropAck t p m => Sys2Proof.Machine.execLmgDropAck t p m s
  | .lmgRestoreReq t p m => Sys2Proof.Machine.execLmgRestoreReq t p m s
  | .lmgRestoreAck t p m => Sys2Proof.Machine.execLmgRestoreAck t p m s
  | .lmgReset t p m => Sys2Proof.Machine.execLmgReset t p m s
  | .lmgReqRepeat t p => Sys2Proof.Machine.execLmgReqRepeat t p s
  | .laneLost t p x reason => Sys2Proof.Machine.execLaneLost t p x reason s
  | .laneRestoreReady t p x => Sys2Proof.Machine.execLaneRestoreReady t p x s
  | .epmSend t => Sys2Proof.Machine.execEpmSend t s
  | .epmReceive t p n => Sys2Proof.Machine.execEpmReceive t p n s
  | .packetReceive t p l eop stamp => Sys2Proof.Machine.execPacketReceive t p l eop stamp s
  | .egressPacketStart t p => Sys2Proof.Machine.execEgressPacketStart t p s
  | .fcXoffReceive t p c st => Sys2Proof.Machine.execFcXoffReceive t p c st s
  | .fcXonReceive t p c st => Sys2Proof.Machine.execFcXonReceive t p c st s
  | .fcXoffRefresh t p k => Sys2Proof.Machine.execFcXoffRefresh t p k s
  | .fcHoldTimeout t p k => Sys2Proof.Machine.execFcHoldTimeout t p k s
  | .fcStallExpiry t p k => Sys2Proof.Machine.execFcStallExpiry t p k s
  | .fluReceive t p c stream inside => Sys2Proof.Machine.execFluReceive t p c stream inside s
  | .flushApply t p => Sys2Proof.Machine.execFlushApply t p s
  | .fwdWindowDiscard t p => Sys2Proof.Machine.execFwdWindowDiscard t p s
  | .mRequestDispatch t => Sys2Proof.Machine.execMRequestDispatch t s
  | .objRead t r ix sub => Sys2Proof.Machine.execObjRead t r ix sub s
  | .objWrite t r ix sub data => Sys2Proof.Machine.execObjWrite t r ix sub data s
  | .memRead t r addr count => Sys2Proof.Machine.execMemRead t r addr count s
  | .memWrite t r addr data => Sys2Proof.Machine.execMemWrite t r addr data s
  | .mResponseReceive t p k => Sys2Proof.Machine.execMResponseReceive t p k s
  | .mTimeout t tag => Sys2Proof.Machine.execMTimeout t tag s
  | .proxyForward t p => Sys2Proof.Machine.execProxyForward t p s
  | .proxyTimeout t p src tag => Sys2Proof.Machine.execProxyTimeout t p src tag s
  | .laneTrendUpdate t errs => Sys2Proof.Machine.execLaneTrendUpdate t errs s
  | .laneLos t ix on => Sys2Proof.Machine.execLaneLos t ix on s
  | .laneLossOfLock t ix => Sys2Proof.Machine.execLaneLossOfLock t ix s
  | .portDeepEnter t p => Sys2Proof.Machine.execPortDeepEnter t p s
  | .laneWakeDetect t p kind => Sys2Proof.Machine.execLaneWakeDetect t p kind s
  | .laneDeepExitDone t p => Sys2Proof.Machine.execLaneDeepExitDone t p s
  | .laneTest t r ix v => Sys2Proof.Machine.execLaneTest t r ix v s
  | .laneInject t r ix v => Sys2Proof.Machine.execLaneInject t r ix v s
  | .lanePresets t r v => Sys2Proof.Machine.execLanePresets t r v s
  | .syncSend t p => Sys2Proof.Machine.execSyncSend t p s
  | .syncReceive t l stamp => Sys2Proof.Machine.execSyncReceive t l stamp s
  | .followUpReceive t l => Sys2Proof.Machine.execFollowUpReceive t l s
  | .delayReqSend t => Sys2Proof.Machine.execDelayReqSend t s
  | .delayReqReceive t p l stamp => Sys2Proof.Machine.execDelayReqReceive t p l stamp s
  | .delayRespReceive t l => Sys2Proof.Machine.execDelayRespReceive t l s
  | .announceSend t => Sys2Proof.Machine.execAnnounceSend t s
  | .announceReceive t l => Sys2Proof.Machine.execAnnounceReceive t l s
  | .exchangeTimeout t => Sys2Proof.Machine.execExchangeTimeout t s
  | .ppsEdge t rising ten => Sys2Proof.Machine.execPpsEdge t rising ten s
  | .todFrame t l => Sys2Proof.Machine.execTodFrame t l s
  | .rootSourceLoss t => Sys2Proof.Machine.execRootSourceLoss t s
  | .holdoverExpiry t => Sys2Proof.Machine.execHoldoverExpiry t s
  | .timeSet t r v => Sys2Proof.Machine.execTimeSet t r v s
  | .timeSetReacquire t => Sys2Proof.Machine.execTimeSetReacquire t s
  | .tpoEdge t n => Sys2Proof.Machine.execTpoEdge t n s
  | .tciEdge t n falling => Sys2Proof.Machine.execTciEdge t n falling s
  | .tciStamp t r n => Sys2Proof.Machine.execTciStamp t r n s
  | .timeAlarm t r n v => Sys2Proof.Machine.execTimeAlarm t r n v s
  | .talarm t n => Sys2Proof.Machine.execTalarm t n s
  | .addrAssign t p => Sys2Proof.Machine.execAddrAssign t p s
  | .nodeAddrWrite t r one v => Sys2Proof.Machine.execNodeAddrWrite t r one v s
  | .summarySend t => Sys2Proof.Machine.execSummarySend t s
  | .summaryReceive t p l => Sys2Proof.Machine.execSummaryReceive t p l s
  | .alarmRecordReceive t p code l => Sys2Proof.Machine.execAlarmRecordReceive t p code l s
  | .stagedWrite t r ix sub v => Sys2Proof.Machine.execStagedWrite t r ix sub v s
  | .stageDiscard t r v => Sys2Proof.Machine.execStageDiscard t r v s
  | .commit t r w => Sys2Proof.Machine.execCommit t r w s
  | .stageLeaseExpiry t => Sys2Proof.Machine.execStageLeaseExpiry t s
  | .immediateSetWrite t r ix sub v => Sys2Proof.Machine.execImmediateSetWrite t r ix sub v s
  | .lockLeaseExpiry t n => Sys2Proof.Machine.execLockLeaseExpiry t n s
  | .alarmHoldExpiry t code detail => Sys2Proof.Machine.execAlarmHoldExpiry t code detail s
  | .logRead t r => Sys2Proof.Machine.execLogRead t r s
  | .logClear t r v => Sys2Proof.Machine.execLogClear t r v s
  | .counterClear t r ix v => Sys2Proof.Machine.execCounterClear t r ix v s
  | .lhpTransactionStart t sclk => Sys2Proof.Machine.execLhpTransactionStart t sclk s
  | .lhpFrameReceive t l => Sys2Proof.Machine.execLhpFrameReceive t l s
  | .lhpFrameAbandon t => Sys2Proof.Machine.execLhpFrameAbandon t s
  | .lhpResponseSent t => Sys2Proof.Machine.execLhpResponseSent t s
  | .swpRefresh t => Sys2Proof.Machine.execSwpRefresh t s
  | .swpHwRefresh t => Sys2Proof.Machine.execSwpHwRefresh t s
  | .chClaim t r n => Sys2Proof.Machine.execChClaim t r n s
  | .chRelease t r n => Sys2Proof.Machine.execChRelease t r n s
  | .chStart t r n v => Sys2Proof.Machine.execChStart t r n v s
  | .chDoorbell t r n v => Sys2Proof.Machine.execChDoorbell t r n v s
  | .chStop t r n v => Sys2Proof.Machine.execChStop t r n v s
  | .chTrig t r n v => Sys2Proof.Machine.execChTrig t r n v s
  | .dmaTrigger t n => Sys2Proof.Machine.execDmaTrigger t n s
  | .dmaCopy t n => Sys2Proof.Machine.execDmaCopy t n s
  | .dmaFill t n => Sys2Proof.Machine.execDmaFill t n s
  | .dmaCompare t n => Sys2Proof.Machine.execDmaCompare t n s
  | .dmaBurst t => Sys2Proof.Machine.execDmaBurst t s
  | .capArm t r b v => Sys2Proof.Machine.execCapArm t r b v s
  | .captureComplete t b trunc => Sys2Proof.Machine.execCaptureComplete t b trunc s
  | .scrubRead t addr err => Sys2Proof.Machine.execScrubRead t addr err s
  | .powerReq t r v => Sys2Proof.Machine.execPowerReq t r v s
  | .domainReqDown t r d => Sys2Proof.Machine.execDomainReqDown t r d s
  | .domainReqUp t r d => Sys2Proof.Machine.execDomainReqUp t r d s
  | .domainAnswer t d => Sys2Proof.Machine.execDomainAnswer t d s
  | .domainAnswerTimeout t d => Sys2Proof.Machine.execDomainAnswerTimeout t d s
  | .domainPowerDown t d => Sys2Proof.Machine.execDomainPowerDown t d s
  | .wakePin t => Sys2Proof.Machine.execWakePin t s
  | .wakeStepDone t bad => Sys2Proof.Machine.execWakeStepDone t bad s
  | .firstAccessWake t d => Sys2Proof.Machine.execFirstAccessWake t d s
  | .wakeStallTimeout t d => Sys2Proof.Machine.execWakeStallTimeout t d s
  | .ledgerCapWrite t r rail v => Sys2Proof.Machine.execLedgerCapWrite t r rail v s
  | .napGate t => Sys2Proof.Machine.execNapGate t s
  | .napBias t => Sys2Proof.Machine.execNapBias t s
  | .hkRoundStart t => Sys2Proof.Machine.execHkRoundStart t s
  | .hkConversion t code => Sys2Proof.Machine.execHkConversion t code s
  | .hkRefReady t => Sys2Proof.Machine.execHkRefReady t s
  | .hkOneshot t r v => Sys2Proof.Machine.execHkOneshot t r v s
  | .bandJudge t => Sys2Proof.Machine.execBandJudge t s
  | .vswrCal t x pwr => Sys2Proof.Machine.execVswrCal t x pwr s
  | .rflTrip t path => Sys2Proof.Machine.execRflTrip t path s
  | .rflRetryClear t path => Sys2Proof.Machine.execRflRetryClear t path s
  | .auxCode t r x v => Sys2Proof.Machine.execAuxCode t r x v s
  | .deglitchHoldEnd t x => Sys2Proof.Machine.execDeglitchHoldEnd t x s
  | .auxCompliance t x on => Sys2Proof.Machine.execAuxCompliance t x on s
  | .gbFaultDetect t path cause on => Sys2Proof.Machine.execGbFaultDetect t path cause on s
  | .fwVerify t r v => Sys2Proof.Machine.execFwVerify t r v s
  | .fwVerifyDone t => Sys2Proof.Machine.execFwVerifyDone t s
  | .fwConfirm t r v => Sys2Proof.Machine.execFwConfirm t r v s
  | .fwTrialExpiry t => Sys2Proof.Machine.execFwTrialExpiry t s
  | .otpFuseBlow t ok => Sys2Proof.Machine.execOtpFuseBlow t ok s
  | .watchdogExpiry t => Sys2Proof.Machine.execWatchdogExpiry t s
  | .bootCandidateDone t v0 v1 bundle => Sys2Proof.Machine.execBootCandidateDone t v0 v1 bundle s
  | .sessionChallenge t r => Sys2Proof.Machine.execSessionChallenge t r s
  | .challengeExpiry t => Sys2Proof.Machine.execChallengeExpiry t s
  | .sessionRespRsa t r v => Sys2Proof.Machine.execSessionRespRsa t r v s
  | .sessionRespSlh t r v => Sys2Proof.Machine.execSessionRespSlh t r v s
  | .sessionOpen t r slot => Sys2Proof.Machine.execSessionOpen t r slot s
  | .sessionClose t r v => Sys2Proof.Machine.execSessionClose t r v s
  | .sessionLockoutEnd t => Sys2Proof.Machine.execSessionLockoutEnd t s
  | .credKeys t r n v => Sys2Proof.Machine.execCredKeys t r n v s
  | .credRevoke t r n => Sys2Proof.Machine.execCredRevoke t r n s
  | .attestReq t r nonce => Sys2Proof.Machine.execAttestReq t r nonce s
  | .attestRsaDone t => Sys2Proof.Machine.execAttestRsaDone t s
  | .attestSlhDone t => Sys2Proof.Machine.execAttestSlhDone t s
  | .railGood t rail => Sys2Proof.Machine.execRailGood t rail s
  | .railBad t rail => Sys2Proof.Machine.execRailBad t rail s
  | .resetHoldExpiry t role src auto => Sys2Proof.Machine.execResetHoldExpiry t role src auto s
  | .resetNAssert t => Sys2Proof.Machine.execResetNAssert t s
  | .resetNRelease t role src auto => Sys2Proof.Machine.execResetNRelease t role src auto s
  | .resetReqPin t r => Sys2Proof.Machine.execResetReqPin t r s
  | .resetReqRestart t r => Sys2Proof.Machine.execResetReqRestart t r s
  | .resetReqDomain t r d => Sys2Proof.Machine.execResetReqDomain t r d s
  | .childReset t r n v => Sys2Proof.Machine.execChildReset t r n v s
  | .flashMirrorWrite t => Sys2Proof.Machine.execFlashMirrorWrite t s
  | .vidStep t => Sys2Proof.Machine.execVidStep t s
  | .unlockAlarmClear t ix => Sys2Proof.Machine.execUnlockAlarmClear t ix s
  | .domainReady t d => Sys2Proof.Machine.execDomainReady t d s
  | .standbyReached t lo => Sys2Proof.Machine.execStandbyReached t lo s
  | .startupStepDone t bad => Sys2Proof.Machine.execStartupStepDone t bad s
  | .refSlewDone t => Sys2Proof.Machine.execRefSlewDone t s
  | .timeMissExpiry t => Sys2Proof.Machine.execTimeMissExpiry t s
  | .prbsCheckerSync t ix on n errs => Sys2Proof.Machine.execPrbsCheckerSync t ix on n errs s
  | .hierarchyAlarmClear t p => Sys2Proof.Machine.execHierarchyAlarmClear t p s

end Sys2Proof.Machine
end

