-- ==== Sys2Proof/Safety.lean ====
section
/-!
DEFINITION. The terms claims are stated in: what a command leaves as it was, and what it means that a command completes.
-/

namespace Sys2Proof.Machine

/-- The parts of the state, one for each field; `mem` stands for every byte of the device address map, `obj` for every object. -/
inductive Part where
  | obj | mem | now | pending
  | timeBase | act | held | free | alarms | log | slotAlarms | clears | stage | commits | locks | cpAbsent | cpLost | mq
  | inService | mTags | lhp | swp | grants | band | power | ports | lanes | hier | time | dl | ul | tbl | rf | clk | dpd
  | cal | dma | hk | sec | start | past
deriving DecidableEq, Repr

/-- A part other than the objects is the same in two states. -/
def Part.same (p : Part) (w u : State) : Prop :=
  match p with
  | .obj => True
  | .mem => ∀ a, u.rd8 a = w.rd8 a
  | .now => u.now = w.now
  | .pending => u.pending = w.pending
  | .timeBase => u.timeBase = w.timeBase
  | .act => u.act = w.act
  | .held => u.held = w.held
  | .free => u.free = w.free
  | .alarms => u.alarms = w.alarms
  | .log => u.log = w.log
  | .slotAlarms => u.slotAlarms = w.slotAlarms
  | .clears => u.clears = w.clears
  | .stage => u.stage = w.stage
  | .commits => u.commits = w.commits
  | .locks => u.locks = w.locks
  | .cpAbsent => u.cpAbsent = w.cpAbsent
  | .cpLost => u.cpLost = w.cpLost
  | .mq => u.mq = w.mq
  | .inService => u.inService = w.inService
  | .mTags => u.mTags = w.mTags
  | .lhp => u.lhp = w.lhp
  | .swp => u.swp = w.swp
  | .grants => u.grants = w.grants
  | .band => u.band = w.band
  | .power => u.power = w.power
  | .ports => u.ports = w.ports
  | .lanes => u.lanes = w.lanes
  | .hier => u.hier = w.hier
  | .time => u.time = w.time
  | .dl => u.dl = w.dl
  | .ul => u.ul = w.ul
  | .tbl => u.tbl = w.tbl
  | .rf => u.rf = w.rf
  | .clk => u.clk = w.clk
  | .dpd => u.dpd = w.dpd
  | .cal => u.cal = w.cal
  | .dma => u.dma = w.dma
  | .hk => u.hk = w.hk
  | .sec => u.sec = w.sec
  | .start => u.start = w.start
  | .past => u.past = w.past

/-- The frame: `u` is as `w` is but for the parts `ps`, and for the objects whose keys are `ks` (all objects, if `ps` has `obj`). -/
structure Frame (ps : List Part) (ks : List Nat) (w u : State) : Prop where
  parts : ∀ p, p ∉ ps → p.same w u
  objs : Part.obj ∉ ps → ∀ i j, key i j ∉ ks → u.o i j = w.o i j

/-- A command completes: it answers a next state that `P` relates to the state at the command's instant. -/
def Completes (c : Instr) (t : Tick) (s : State) (P : State → State → Prop) : Prop :=
  ∃ u, exec c s = .next u ∧ P (s.upTo t) u

/-- A counter with n more: it wraps at its width, and stands as it is where there is nothing to count. -/
def State.counted (w : State) (i sub n : Nat) : Nat := if n = 0 then w.o i sub else (w.o i sub + n) % 256 ^ width (key i sub)

/-- A write of `data` to an object reaches the object's rule with the value `v`: the control processor runs, the device is not in
recovery (or the write is the one recovery takes), and the common judgement passes it (R16, R334, R438). -/
structure Reaches (w : State) (r : Req) (i sub : Nat) (data : List Nat) (v : Nat) : Prop where
  present : w.cpLost = false
  answers : w.cpAbsent = none
  normal : ¬ ((w.renew r).recovery = true ∧ ¬ (i = 0x8000 ∧ sub = 3))
  judged : (w.renew r).judgeW r i sub data = (0, v)

/-- The objects that recording an alarm counts: LOG_NEXT, LOG_OLDEST and LOG_LOST. -/
def logKeys : List Nat := [key 0xA000 3, key 0xA000 4, key 0xA000 6]

/-- The parts that recording an alarm writes: the alarms, the log, and the egress of port U. -/
def logParts : List Part := [.alarms, .log, .ports]

/-- The objects that an occurrence of a trigger source counts: CH_TRIG_COUNT and CH_TRIG_LOST of the channels. -/
def trigKeys : List Nat := (List.range 16).flatMap (fun n => [key (0x9001 + n) 0x0B, key (0x9001 + n) 0x0E])

/-- The objects in which the judgement of the watermarks counts: XOFF_SENT of the three ports. -/
def fcKeys : List Nat := [key 0x6200 8, key 0x6201 8, key 0x6202 8]

/-- A class T message that passes the checks of R298 on a port, of a given messageType. -/
def PtpGood (w : State) (p : Nat) (l : List Nat) (mt : Nat) : Prop :=
  ¬ (p = 0 ∧ w.ownSource = true) ∧ l.getD 1 0 % 16 = 2 ∧ l.getD 4 0 = w.a 0x1200 2 ∧ (ptpOf l).mt = mt ∧
  ptpAccepted p mt = true ∧ ofBytesBE ((l.drop 2).take 2) = ptpLen mt ∧ ptpLen mt ≤ l.length

/-- The objects that a loss of time lock writes: TIME_STATE, TIME_UNLOCKS and the log's. -/
def unlockKeys : List Nat := key 0x1200 0x0B :: key 0x1204 2 :: logKeys

/-- The parts that answering a write can change: the session's lease, the requests in service, and where the answer leaves. -/
def writeParts : List Part := [.locks, .inService, .lhp, .ports]

/-- The objects of an index that has one subindex for each lane. -/
def laneKeys (i : Nat) : List Nat := (List.range 24).map (fun n => key i (n + 1))

/-- PATH_TX_BLOCK of every path. -/
def blockKeys : List Nat := (List.range 96).map (fun n => key 0x2106 (n + 1))

/-- The objects that the judgement of a housekeeping round shows, and those that gate-bias faults count in. -/
def judgeKeys : List Nat :=
  (List.range 30).map (fun n => key 0x7100 (n + 1)) ++ [key 0x7101 1, key 0x7220 2, key 0x7220 3, key 0x7000 6, key 0x2130 5] ++
  (List.range 8).map (fun r => key 0x7001 (r + 1)) ++ (List.range 12).map (fun k => key 0x7002 (k + 1)) ++
  (List.range 4).map (fun j => key 0x7107 (j + 1)) ++
  (List.range 96).flatMap (fun n => [key 0x7010 (n + 1), key 0x7011 (n + 1), key 0x7212 (n + 1), key 0x2106 (n + 1)]) ++ logKeys

/-- The objects that training moves on a port: its state, width and lanes in use, and each lane's state and preset. -/
def portKeys (p : Nat) : List Nat :=
  [key (0x6000 + p) 5, key (0x6000 + p) 7, key (0x6000 + p) 8] ++
    lanes8.flatMap (fun x => [key 0x6100 (laneSub p x), key 0x6101 (laneSub p x)])

/-- The lanes that have credit in DETECT, once the port's base cost is granted (R267). -/
def State.detectLanes (w : State) (p : Nat) : Nat :=
  ((w.ask .portBase p (costAdd portDigital portAnalogue) (portDom p)).2.ladder p (List.range (w.a (0x6000 + p) 3)) 0).1

/-- A request is answered with a status and data (R336): it is no longer in service; a requester on the LHP finds the frame in the
response queue, and one behind an ACTIVE port finds the response packet on that port's egress. -/
def Answered (w u : State) (r : Req) (op w1 st : Nat) (data : List Nat) : Prop :=
  (∀ m, m ∈ u.inService → m.req ≠ r) ∧
  (r.bcast = false → r.kind = 3 → u.lhp.out = w.lhp.out ++
    [lhpFrame 2 r.prio r.tag w.addr (pad4 (bytesBE 4 (mWord0 op st data.length) ++ bytesBE 4 w1 ++ data))] ∧ u.lhp.havail = true) ∧
  (r.bcast = false → r.kind = 2 → r.port < 3 → w.active r.port = true → (u.port r.port).egress = (w.port r.port).egress ++
    [EgItem.mk ⟨r.id, Cls.m, r.prio, w.addr, r.tag, 0, false, false, true, false, false,
      pad4 (bytesBE 4 (mWord0 op st data.length) ++ bytesBE 4 w1 ++ data)⟩ true none w.now none])

/-- A request that the control processor executes: it runs, and the device is not in recovery (R16, R438). -/
def Served (w : State) (r : Req) : Prop := w.cpLost = false ∧ w.cpAbsent = none ∧ (w.renew r).recovery = false

/-- Objects without a rule of their own: a write stores the value. -/
def plainObjects : List (Nat × Nat) :=
  [(0x1010, 1), (0x1010, 2), (0x1021, 1), (0x1021, 2), (0x1021, 3), (0x3100, 8), (0x3101, 8), (0x5020, 6), (0x5020, 7), (0x5020, 9),
   (0x5070, 4), (0x8000, 7), (0x8020, 6), (0x9000, 7), (0xA000, 1), (0xA000, 2)] ++
  (List.range 4).flatMap (fun b => [(0x9020 + b, 1), (0x9020 + b, 3), (0x9020 + b, 4)]) ++
  (List.range 96).map (fun n => (0x4403, n + 1))

/-- Objects that a read answers by a rule of its own: the event log, captured stamps, the session challenge, a report that is not
ready, and the requester's own level. -/
def ownReads : List (Nat × Nat) := [(0xA000, 5), (0x1238, 2), (0x1239, 2), (0x8020, 1), (0x8030, 4), (0x8030, 5), (0x1010, 3)]

/-- The descriptor of a channel as it runs once it is started: source, destination and length as its words stand. -/
def State.descRun (w : State) (n : Nat) : DmaRun :=
  let D := w.o (chIdx9 n) 0x0A
  ⟨w.rd32 D / 2 ^ 28, w.rd32 (D + 4), w.rd32 (D + 8), w.rd32 (D + 12) % 2 ^ 24, 0,
    w.rd32 D / 2 ^ 28 == 0 && mustDescend (w.rd32 (D + 4)) (w.rd32 (D + 8)) (w.rd32 (D + 12) % 2 ^ 24)⟩

/-- A channel is about to read a descriptor of an operation, which passes its judgement and waits for no trigger (R373, R377). -/
structure DescReady (w : State) (n op : Nat) : Prop where
  channel : n < 16
  fetches : (w.ch n).fetch = true
  running : w.o (chIdx9 n) 9 = 3
  powered : w.domOn Dom.cp = true
  whole : w.eccHit (w.o (chIdx9 n) 0x0A) 20 = false
  free : bit (w.rd32 (w.o (chIdx9 n) 0x0A)) 26 = false
  good : (w.judgeDesc n (w.o (chIdx9 n) 0x0A)).1 = 0
  some : (w.descRun n).len ≠ 0
  oper : (w.descRun n).op = op

/-- A channel is about to read a well-formed descriptor of an operation with LENGTH 0 (R372, R373, R375). -/
structure DescEmpty (w : State) (n op : Nat) : Prop where
  channel : n < 16
  fetches : (w.ch n).fetch = true
  goes : (w.ch n).stop = false
  running : w.o (chIdx9 n) 9 = 2 ∨ w.o (chIdx9 n) 9 = 3
  powered : w.domOn Dom.cp = true
  whole : w.eccHit (w.o (chIdx9 n) 0x0A) 20 = false
  stands : isDesc (w.o (chIdx9 n) 0x0A) = true
  oper : w.rd32 (w.o (chIdx9 n) 0x0A) / 2 ^ 28 = op
  clean : w.rd32 (w.o (chIdx9 n) 0x0A) % 2 ^ 26 = 0
  zero : w.rd32 (w.o (chIdx9 n) 0x0A + 12) = 0
  next : bit (w.rd32 (w.o (chIdx9 n) 0x0A)) 27 = true ∨ isDesc (w.rd32 (w.o (chIdx9 n) 0x0A + 16)) = true

/-- LEDGER_OVER has been judged for every rail, and no other alarm has changed (R384). -/
def LedgerJudged (w u : State) : Prop :=
  (∀ x, x < 8 → u.raised Al.ledgerOver x = decide (u.cap x < u.booked x)) ∧
  ∀ c d, c ≠ Al.ledgerOver ∨ 8 ≤ d → u.raised c d = w.raised c d

/-- No accepted commit has reached its activation instant (R341). -/
def NoneDue (w : State) : Prop := ∀ c, c ∈ w.commits → w.time_ < c.at_

/-- The instant by which the last sample that a DAC_IN capture is to take has passed (R98, R105). -/
def State.capEnd (w : State) (b : Nat) : Int :=
  w.dacTime (w.rsFirst (w.airSample (w.capb b).start) + ((min (w.capb b).len (capMax / 4) : Nat) : Int) - 1)

/-- The command that starts a channel's descriptor of an operation. -/
def startOf (t : Tick) (n op : Nat) : Instr := if op = 0 then .dmaCopy t n else if op = 1 then .dmaFill t n else .dmaCompare t n

/-- `k` commands from the front of the queue, as long as they answer next states. -/
def stepN : Nat → State → Host.Outcome State Fault Refusal
  | 0, s => .next s
  | k + 1, s =>
    match step s with
    | .next u => stepN k u
    | .fault f => .fault f
    | .refused r => .refused r

/-- The invariant of every step: memory stands in its canonical form. -/
def MemOk (s : State) : Prop := Memory.wf s.mem = true

end Sys2Proof.Machine
end

