-- ==== Sys2Proof/Certificates/Slice0/Obligations.lean ====
section
/-!
DEFINITION. The statements for the provers: what each command of the block does when it completes, and what it leaves as it was;
the queue, the memory's form, and the rules that hold of every command.
-/

section Statements
open Sys2Proof Sys2Proof.Machine
/-! ### Beam tables (chapter 03) -/

/-- R63 to R65, R75: weight staging. STAGE_OPEN names the bank and starts the fill; a clone leaves the bank's bytes in staging and
a zero fill clears it; 100 µs after the swap boundary the bank and staging have exchanged memories; marked banks wait for the next
touchstone or symbol end. -/
def Obligations.WeightStaging : Prop :=
  (∀ (t : Tick) (r : Req) (dir v : Nat) (s : State), dir < 2 → Reaches (s.upTo t) r (0x3100 + dir) 3 (objBytes 0x3100 3 v) v →
    (s.upTo t).o (0x3100 + dir) 4 ≠ 3 →
    Completes (.stageOpen t r dir v) t s fun w u =>
      u.o (0x3100 + dir) 4 = 1 ∧ u.tb dir = { w.tb dir with bank := bits v 0 2, fill := some (w.now, bit v 7) } ∧
      (∀ d, d ≠ dir → u.tb d = w.tb d) ∧ Answered w u r 2 (objWord (0x3100 + dir) 3) 0 [] ∧
      Frame (.tbl :: writeParts) [key (0x3100 + dir) 4] w u) ∧
  (∀ (t : Tick) (r : Req) (dir v : Nat) (s : State), dir < 2 → Reaches (s.upTo t) r (0x3100 + dir) 3 (objBytes 0x3100 3 v) v →
    (s.upTo t).o (0x3100 + dir) 4 = 3 →
    Completes (.stageOpen t r dir v) t s fun w u =>
      Answered w u r 2 (objWord (0x3100 + dir) 3) 0x41 [] ∧ Frame writeParts [] w u) ∧
  (∀ (t : Tick) (dir : Nat) (x : Tick) (s : State), dir < 2 → MemOk s → ((s.upTo t).tb dir).fill = some (x, false) →
    ((s.upTo t).tb dir).bank < 4 →
    Completes (.stageFillDone t dir) t s fun w u =>
      (∀ j, j < bankBytes → u.rd8 (wtStaging dir + j) = w.rd8 (wtBase dir + (w.tb dir).bank * bankBytes + j)) ∧
      (∀ a, (a < wtStaging dir ∨ wtStaging dir + bankBytes ≤ a) → u.rd8 a = w.rd8 a) ∧
      u.o (0x3100 + dir) 4 = 2 ∧ u.tb dir = { w.tb dir with fill := none } ∧ (∀ d, d ≠ dir → u.tb d = w.tb d) ∧
      Frame [.tbl, .mem, .dma] [key (0x3100 + dir) 4] w u) ∧
  (∀ (t : Tick) (dir : Nat) (x : Tick) (s : State), dir < 2 → MemOk s → ((s.upTo t).tb dir).fill = some (x, true) →
    Completes (.stageFillDone t dir) t s fun w u =>
      (∀ j, j < bankBytes → u.rd8 (wtStaging dir + j) = 0) ∧
      (∀ a, (a < wtStaging dir ∨ wtStaging dir + bankBytes ≤ a) → u.rd8 a = w.rd8 a) ∧
      u.o (0x3100 + dir) 4 = 2 ∧ u.tb dir = { w.tb dir with fill := none } ∧ (∀ d, d ≠ dir → u.tb d = w.tb d) ∧
      Frame [.tbl, .mem, .dma] [key (0x3100 + dir) 4] w u) ∧
  (∀ (t : Tick) (dir b : Nat) (B : Int) (s : State), dir < 2 → b < 4 → MemOk s → ((s.upTo t).tb dir).swap = some (b, B) →
    ((s.upTo t).tb dir).swapped = true → B + ((100 * tUs : Nat) : Int) ≤ (s.upTo t).time_ →
    Completes (.stageSwapRelease t dir) t s fun w u =>
      (∀ j, j < bankBytes → u.rd8 (wtBase dir + b * bankBytes + j) = w.rd8 (wtStaging dir + j) ∧
        u.rd8 (wtStaging dir + j) = w.rd8 (wtBase dir + b * bankBytes + j)) ∧
      (∀ a, ((a < wtStaging dir ∨ wtStaging dir + bankBytes ≤ a) ∧ (a < wtBase dir + b * bankBytes ∨
        wtBase dir + (b + 1) * bankBytes ≤ a)) → u.rd8 a = w.rd8 a) ∧
      u.o (0x3100 + dir) 4 = 0 ∧ u.o (0x3100 + dir) 5 = 0 ∧ u.a (0x3100 + dir) 5 = 0 ∧
      u.tb dir = { w.tb dir with swap := none, swapped := false } ∧ (∀ d, d ≠ dir → u.tb d = w.tb d) ∧
      Frame [.tbl, .mem, .dma, .act] [key (0x3100 + dir) 4, key (0x3100 + dir) 5] w u) ∧
  (∀ (t : Tick) (r : Req) (dir v : Nat) (s : State), dir < 2 → Reaches (s.upTo t) r (0x3100 + dir) 7 (objBytes 0x3100 7 v) v →
    Completes (.bankMarkValid t r dir v) t s fun w u =>
      u.tb dir = { w.tb dir with markPend := (w.tb dir).markPend ||| (v % 16) } ∧ (∀ d, d ≠ dir → u.tb d = w.tb d) ∧
      Answered w u r 2 (objWord (0x3100 + dir) 7) 0 [] ∧ Frame (.tbl :: writeParts) [] w u)

/-- R66: the schedule's inactive copy. A clone starts unless a swap is committed, and leaves the active copy's bytes in the inactive
one, but for the words written meanwhile, which are open. -/
def Obligations.ScheduleCopy : Prop :=
  (∀ (t : Tick) (r : Req) (dir : Nat) (s : State), dir < 2 → Reaches (s.upTo t) r (0x3200 + dir) 1 (objBytes 0x3200 1 1) 1 →
    (s.upTo t).o (0x3200 + dir) 2 ≠ 2 →
    Completes (.schedClone t r dir 1) t s fun w u =>
      u.o (0x3200 + dir) 2 = 1 ∧ u.tb dir = { w.tb dir with clone := some (w.now, []) } ∧ (∀ d, d ≠ dir → u.tb d = w.tb d) ∧
      Answered w u r 2 (objWord (0x3200 + dir) 1) 0 [] ∧ Frame (.tbl :: writeParts) [key (0x3200 + dir) 2] w u) ∧
  (∀ (t : Tick) (r : Req) (dir : Nat) (s : State), dir < 2 → Reaches (s.upTo t) r (0x3200 + dir) 1 (objBytes 0x3200 1 1) 1 →
    (s.upTo t).o (0x3200 + dir) 2 = 2 →
    Completes (.schedClone t r dir 1) t s fun w u =>
      Answered w u r 2 (objWord (0x3200 + dir) 1) 0x41 [] ∧ Frame writeParts [] w u) ∧
  (∀ (t : Tick) (dir : Nat) (x : Tick) (l : List Nat) (s : State), dir < 2 → MemOk s → ((s.upTo t).tb dir).clone = some (x, l) →
    (∀ o, o ∈ l → o % 4 = 0 ∧ o < schedBytes) →
    Completes (.schedCloneDone t dir) t s fun w u =>
      (∀ j, (j < schedBytes ∧ j - j % 4 ∉ l) → u.rd8 (schedInactive dir + j) = w.rd8 (schedBase dir + j)) ∧
      (∀ a, (a < schedInactive dir ∨ schedInactive dir + schedBytes ≤ a) → u.rd8 a = w.rd8 a) ∧
      u.free = w.free + l.length ∧
      u.o (0x3200 + dir) 2 = 0 ∧ u.tb dir = { w.tb dir with clone := none } ∧ (∀ d, d ≠ dir → u.tb d = w.tb d) ∧
      Frame [.tbl, .mem, .dma, .free] [key (0x3200 + dir) 2] w u)

/-! ### The downlink (chapters 02 and 04) -/

/-- R80, R81, R30, R35, R36, R489, Tables 4-4 and 10-26: what arrives. A class D packet of one place, whole and in its window, leaves
the first record of each PRB; an early or late one is counted and dropped, one of no place is a format error. A class C section of
one symbol in its window is held: provisional, confirming or uplink. -/
def Obligations.DownlinkArrivals : Prop :=
  (∀ (t : Tick) (p : Pkt) (c k scs : Nat) (n Ts : Int) (s : State),
    (s.upTo t).pktPlaces 0 p.stream (dPrefix p.payload).air.sfn (dPrefix p.payload).air.slot = [(c, k)] →
    (s.upTo t).pktSlot 0 c (dPrefix p.payload).air.sfn (dPrefix p.payload).air.slot = (scs, n, Ts) →
    (dPrefix p.payload).mw ≤ 8 →
    tripleOk scs (dPrefix p.payload).air.sfn (dPrefix p.payload).air.slot (dPrefix p.payload).air.sym = true →
    (dPrefix p.payload).first + (dPrefix p.payload).count ≤ (s.upTo t).carNrb Ts 0 c →
    p.payload.length = dLen (dPrefix p.payload) →
    (s.upTo t).tAir scs n (dPrefix p.payload).air.sym - openU ≤ (s.upTo t).time_ →
    (s.upTo t).time_ ≤ (s.upTo t).tAir scs n (dPrefix p.payload).air.sym - closeU →
    Completes (.dlPacketArrival t p) t s fun w u =>
      u.dsym c n (dPrefix p.payload).air.sym = { w.dsym c n (dPrefix p.payload).air.sym with
        recs := (addRecs (w.dsym c n (dPrefix p.payload).air.sym).recs (dRecs p.stream p.payload (dPrefix p.payload))).1 } ∧
      u.o 0x3031 3 = w.counted 0x3031 3
        (addRecs (w.dsym c n (dPrefix p.payload).air.sym).recs (dRecs p.stream p.payload (dPrefix p.payload))).2 ∧
      (∀ c' n' k', (c', n', k') ≠ (c, n, (dPrefix p.payload).air.sym) → u.dsym c' n' k' = w.dsym c' n' k') ∧
      u.dl = { w.dl with syms := u.dl.syms } ∧ Frame [.dl] [key 0x3031 3] w u) ∧
  (∀ (t : Tick) (p : Pkt) (c k scs : Nat) (n Ts : Int) (s : State),
    (s.upTo t).pktPlaces 0 p.stream (dPrefix p.payload).air.sfn (dPrefix p.payload).air.slot = [(c, k)] →
    (s.upTo t).pktSlot 0 c (dPrefix p.payload).air.sfn (dPrefix p.payload).air.slot = (scs, n, Ts) →
    (dPrefix p.payload).mw ≤ 8 →
    tripleOk scs (dPrefix p.payload).air.sfn (dPrefix p.payload).air.slot (dPrefix p.payload).air.sym = true →
    (dPrefix p.payload).first + (dPrefix p.payload).count ≤ (s.upTo t).carNrb Ts 0 c →
    p.payload.length = dLen (dPrefix p.payload) →
    (s.upTo t).tAir scs n (dPrefix p.payload).air.sym - closeU < (s.upTo t).time_ →
    Completes (.dlPacketArrival t p) t s fun w u =>
      u.o 0x3300 0x0A = (w.o 0x3300 0x0A + 1) % 2 ^ 32 ∧ Frame [] [key 0x3300 0x0A] w u) ∧
  (∀ (t : Tick) (p : Pkt) (s : State),
    (s.upTo t).pktPlaces 0 p.stream (dPrefix p.payload).air.sfn (dPrefix p.payload).air.slot = [] →
    Completes (.dlPacketArrival t p) t s fun w u =>
      u.o 0x3031 4 = (w.o 0x3031 4 + 1) % 2 ^ 32 ∧ (Al.dlFormat, 0) ∈ u.slotAlarms ∧
      Frame [.slotAlarms] [key 0x3031 4] w u) ∧
  (∀ (t : Tick) (p : Pkt) (c j k scs : Nat) (n Ts : Int) (s : State),
    (s.upTo t).pktPlaces (cPrefix p.payload).dir p.stream (cPrefix p.payload).sfn (cPrefix p.payload).slot = [(c, j)] →
    (s.upTo t).pktSlot (cPrefix p.payload).dir c (cPrefix p.payload).sfn (cPrefix p.payload).slot = (scs, n, Ts) →
    (cPrefix p.payload).symStart = k → (cPrefix p.payload).symEnd = k →
    tripleOk scs (cPrefix p.payload).sfn (cPrefix p.payload).slot k = true →
    p.payload.length = cLen (cPrefix p.payload) → p.payload.length ≤ 8192 →
    (s.upTo t).tAir scs n k - offC ≤ (s.upTo t).time_ → (s.upTo t).time_ ≤ (s.upTo t).tAir scs n k - closeC →
    ((cPrefix p.payload).dir = 1 → p.prov = false) →
    Completes (.sectionArrival t p) t s fun w u =>
      ((cPrefix p.payload).dir = 1 → u.dl = { w.dl with arrivals := w.dl.arrivals + 1 } ∧
        sectOf (getSym u.ul.sects c n k).conf p.stream = some
          ⟨cEnts p.payload (cPrefix p.payload), cVecs p.payload (cPrefix p.payload), w.dl.arrivals, true⟩) ∧
      ((cPrefix p.payload).dir ≠ 1 → p.prov = true → sectOf (u.dsym c n k).prov p.stream = some
          ⟨cEnts p.payload (cPrefix p.payload), cVecs p.payload (cPrefix p.payload), w.dl.arrivals, true⟩ ∧
        (u.dsym c n k).provN = (w.dsym c n k).provN ++ [p.stream]) ∧
      ((cPrefix p.payload).dir ≠ 1 → p.prov = false → sectOf (u.dsym c n k).conf p.stream = some
          ⟨cEnts p.payload (cPrefix p.payload), cVecs p.payload (cPrefix p.payload), w.dl.arrivals, true⟩) ∧
      Frame [.dl, .ul] [key 0x3300 3] w u) ∧
  (∀ (t : Tick) (p : Pkt) (s : State),
    (s.upTo t).pktPlaces (cPrefix p.payload).dir p.stream (cPrefix p.payload).sfn (cPrefix p.payload).slot = [] →
    Completes (.sectionArrival t p) t s fun w u =>
      u.o 0x3300 0x0D = (w.o 0x3300 0x0D + 1) % 2 ^ 32 ∧ (Al.sectionBad, 0) ∈ u.slotAlarms ∧
      Frame [.slotAlarms] [key 0x3300 0x0D] w u)

/-- R34 to R40: speculation. The window closes with every unconfirmed stream as no section; the beamformer takes the groups whose
content is known, and those on a prediction count; the fast path takes the first eligible group for its cost and releases it. -/
def Obligations.Speculation : Prop :=
  (∀ (t : Tick) (c k : Nat) (n : Int) (s : State), ((s.upTo t).dsym c n k).closed = false →
    (s.upTo t).yAir 0 ((s.upTo t).dsym c n k) - closeC ≤ (s.upTo t).time_ →
    (s.upTo t).carActive ((s.upTo t).ySlot 0 ((s.upTo t).dsym c n k)).2 0 c = true →
    Completes (.cWindowClose t c n k) t s fun w u =>
      (u.dsym c n k).closed = true ∧ (u.dsym c n k).conf = (w.dsym c n k).conf ∧
      (∀ d, d ∈ (u.dsym c n k).done → (sectOf (w.dsym c n k).conf d.sid).isSome = true ∧ d ∈ (w.dsym c n k).done) ∧
      u.o 0x3300 0x0B = w.counted 0x3300 0x0B
        ((w.dsym c n k).provN.filter (fun sid => (sectOf (w.dsym c n k).conf sid).isNone)).length ∧
      (∀ c' n' k', (c', n', k') ≠ (c, n, k) → u.dsym c' n' k' = w.dsym c' n' k') ∧ (u.port 0).keep = w.stillKept (w.port 0).keep ∧
      Frame [.dl, .ports] (key 0x3300 0x0B :: fcKeys) w u) ∧
  (∀ (t : Tick) (c k lo hi : Nat) (n : Int) (s : State), ((s.upTo t).dsym c n k).fixed = false → (s.upTo t).dl.running = none →
    (s.upTo t).dl.fastQ.any (fun f => f.of ((s.upTo t).dsym c n k) && meets f.lo f.hi lo hi) = false →
    Completes (.beamformDone t c n k lo hi) t s fun w u =>
      (u.dsym c n k).done.take (w.dsym c n k).done.length = (w.dsym c n k).done ∧
      (∀ d, d ∈ (u.dsym c n k).done.drop (w.dsym c n k).done.length → d.piece.lo = lo ∧ d.piece.hi = hi ∧
        d.piece ∈ (w.streamPieces (w.dsym c n k) d.sid).2 ∧ d.pred = (w.streamPieces (w.dsym c n k) d.sid).1 ∧
        (w.dsym c n k).hasData d.sid lo hi = true) ∧
      u.o 0x3300 2 = w.counted 0x3300 2
        (((u.dsym c n k).done.drop (w.dsym c n k).done.length).filter (fun d => d.pred)).length ∧
      Frame [.dl, .tbl] [key 0x3300 2] w u) ∧
  (∀ (t : Tick) (f : FItem) (s : State), (s.upTo t).dl.running = none → (s.upTo t).fastHead = some f →
    Completes (.fastPathRecomputeStart t) t s fun w u =>
      u.dl = { w.dl with running := some (f, w.now + w.fastCost f * fastUnit), fastQ := w.dl.fastQ.erase f } ∧
      Frame [.dl, .tbl] [] w u) ∧
  (∀ (t : Tick) (f : FItem) (e : Tick) (s : State), (s.upTo t).dl.running = some (f, e) → e ≤ (s.upTo t).now →
    ((s.upTo t).dsym f.car f.slot f.sym).fixed = false →
    Completes (.fastPathRecomputeDone t) t s fun w u =>
      u.dl.running = none ∧ u.dl.fastQ = w.dl.fastQ ∧
      u.o 0x3300 4 = w.counted 0x3300 4 (if (f.lo, f.hi) ∈ (w.dsym f.car f.slot f.sym).redone then 0 else 1) ∧
      (u.dsym f.car f.slot f.sym).done.take (w.dsym f.car f.slot f.sym).done.length = (w.dsym f.car f.slot f.sym).done ∧
      Frame [.dl] [key 0x3300 2, key 0x3300 4] w u)

/-- R20, R39, R75, R85, R106: the touchstone. It fixes the slot's bench set and its G and makes marked banks valid; an active carrier for
which nothing is held gets an empty output, and its symbol is fixed. -/
def Obligations.Touchstone : Prop :=
  (∀ (t : Tick) (scs k : Nat) (n : Int) (s : State), (s.upTo t).tAir scs n k - touchOff ≤ (s.upTo t).time_ → k < 14 →
    (∀ c, c < 4 → (s.upTo t).carActive ((s.upTo t).slotStart scs n) 0 c = true →
      (s.upTo t).carScs ((s.upTo t).slotStart scs n) 0 c ≠ scs) → (s.upTo t).clears = [] →
    (s.upTo t).freshNow 0 = [] → (s.upTo t).dl.dozing = [] →
    Completes (.touchstone t scs n k) t s fun w u =>
      (u.tb 0).markPend = 0 ∧ (∀ b, b < 8 → bit (u.o 0x3100 6) b = (bit (w.o 0x3100 6) b || bit (w.tb 0).markPend b)) ∧
      u.gOf scs n (w.slotStart scs n) = w.gOf scs n (w.slotStart scs n) ∧ u.dl.out = w.dl.out ∧
      (∃ b, (w.gridStart (w.slotStart scs n), b) ∈ u.cal.sets ∧ (w.cal.sets.any (fun x => decide (x.1 = w.gridStart (w.slotStart scs n))) =
        true → u.cal.sets = w.cal.sets)) ∧ u.cal = { w.cal with sets := u.cal.sets, bench := u.cal.bench } ∧
      (∀ d, d ≠ 0 → u.tb d = w.tb d) ∧ (u.port 0).keep = w.stillKept (w.port 0).keep ∧
      Frame [.dl, .tbl, .cal, .ports] (key 0x3100 6 :: fcKeys) w u) ∧
  (∀ (t : Tick) (scs k c : Nat) (n : Int) (s : State), (s.upTo t).tAir scs n k - touchOff ≤ (s.upTo t).time_ → k < 14 → c < 4 →
    (s.upTo t).carActive ((s.upTo t).slotStart scs n) 0 c = true → (s.upTo t).carScs ((s.upTo t).slotStart scs n) 0 c = scs →
    (s.upTo t).dl.fastQ = [] → (s.upTo t).dl.running = none → (s.upTo t).dl.restart = [] → (s.upTo t).clears = [] →
    (∀ c', c' < 4 → ((s.upTo t).dsym c' n k).conf = [] ∧ ((s.upTo t).dsym c' n k).recs = [] ∧
      ((s.upTo t).dsym c' n k).fixed = false) →
    (∀ b, b < 4 → (s.upTo t).o (0x9020 + b) 8 ≠ 1 ∧ (s.upTo t).o (0x9020 + b) 8 ≠ 2) →
    (s.upTo t).freshNow 0 = [] → (s.upTo t).dl.dozing = [] →
    Completes (.touchstone t scs n k) t s fun w u =>
      (u.dsym c n k).fixed = true ∧ (∀ o, o ∈ u.dl.out → o.car = c → o = ⟨c, n, k, []⟩) ∧ ⟨c, n, k, []⟩ ∈ u.dl.out ∧
      (u.tb 0).markPend = 0 ∧ Frame [.dl, .tbl, .cal, .ports] (key 0x3100 6 :: fcKeys) w u)

/-! ### The uplink (chapter 05) -/

/-- R114 to R118, Table 5-9: the end of an uplink symbol. A stream without a section is counted and sends zero records with tally 0;
one with a section sends the beams of its groups, encoded, with the paths that contribute as its tally; what the transform makes of the
ADC's codes (R108 to R112) is kept for the captures. -/
def Obligations.OwnBeams : Prop :=
  (∀ (t : Tick) (E : Int) (adc : AdcCodes) (c scs k j : Nat) (n : Int) (s : State), c < 4 →
    E ≤ (s.upTo t).time_ → (s.upTo t).endsAt E c = some (scs, n, k) → (∀ d, d < 4 → d ≠ c → (s.upTo t).endsAt E d = none) →
    (s.upTo t).streamsOn ((s.upTo t).slotStart scs n) 1 c = [j] → (s.upTo t).isRx scs n k = true →
    sectOf (getSym (s.upTo t).ul.sects c n k).conf ((s.upTo t).slotWord ((s.upTo t).slotStart scs n) 1 c j % 2 ^ 16) = none →
    (s.upTo t).carNrb ((s.upTo t).slotStart scs n) 1 c ≤ 137 → (s.upTo t).ul.restart = [] → (s.upTo t).timeLocked = true →
    (s.upTo t).clk.refBlank = false → (s.upTo t).dl.stopped = false → ((s.upTo t).tb 1).held = none → (s.upTo t).clears = [] →
    (∀ b, b < 4 → (s.upTo t).o (0x9020 + b) 8 ≠ 1 ∧ (s.upTo t).o (0x9020 + b) 8 ≠ 2) → (s.upTo t).freshNow 1 = [] →
    Completes (.ulSymbolEnd t E adc) t s fun w u =>
      u.o 0x3035 8 = (w.o 0x3035 8 + 1) % 2 ^ 32 ∧
      (u.ul.own.getLast?.map (fun o => (o.e, o.p, o.car, o.sym, o.strm)) = some (E, 0, c, k, j)) ∧
      (u.ul.own.getLast?.map (fun o => (o.slot, o.stream, o.count, o.tally)) =
        some (n, w.slotWord (w.slotStart scs n) 1 c j % 2 ^ 16, w.carNrb (w.slotStart scs n) 1 c, 0)) ∧
      (∀ o, u.ul.own.getLast? = some o →
        o.recs = List.replicate (w.carNrb (w.slotStart scs n) 1 c) (0, List.replicate 24 0)) ∧
      u.ul.fft = w.ulFfts adc [(c, scs, n, k)] ∧ (u.tb 1).markPend = 0 ∧
      Frame [.ul, .tbl, .slotAlarms]
        [key 0x3035 2, key 0x3035 3, key 0x3035 4, key 0x3035 8, key 0x3101 6, key 0x3101 0x0E] w u) ∧
  (∀ (t : Tick) (E : Int) (adc : AdcCodes) (c scs k j lo hi wi : Nat) (n : Int) (q : Sect)
    (v : List Nat) (s : State), c < 4 →
    E ≤ (s.upTo t).time_ → (s.upTo t).endsAt E c = some (scs, n, k) → (∀ d, d < 4 → d ≠ c → (s.upTo t).endsAt E d = none) →
    (s.upTo t).streamsOn ((s.upTo t).slotStart scs n) 1 c = [j] → (s.upTo t).isRx scs n k = true →
    sectOf (getSym (s.upTo t).ul.sects c n k).conf ((s.upTo t).slotWord ((s.upTo t).slotStart scs n) 1 c j % 2 ^ 16) = some q →
    (s.upTo t).resolve 1 ((s.upTo t).slotStart scs n) c j k q.ents = ⟨[(lo, hi, wi)], [(lo, hi)], [], 0, []⟩ →
    (s.upTo t).weight 1 ((s.upTo t).slotStart scs n) q.vecs wi = .vec v → q.vecs = [] →
    (s.upTo t).carNrb ((s.upTo t).slotStart scs n) 1 c ≤ 137 → lo ≤ hi → hi < (s.upTo t).carNrb ((s.upTo t).slotStart scs n) 1 c →
    (s.upTo t).carShed ((s.upTo t).slotStart scs n) 1 c = false → (s.upTo t).ul.restart = [] →
    (s.upTo t).timeLocked = true → (s.upTo t).clk.refBlank = false → (s.upTo t).dl.stopped = false →
    ((s.upTo t).tb 1).held = none → (s.upTo t).clears = [] →
    (∀ b, b < 4 → (s.upTo t).o (0x9020 + b) 8 ≠ 1 ∧ (s.upTo t).o (0x9020 + b) 8 ≠ 2) → (s.upTo t).freshNow 1 = [] →
    Completes (.ulSymbolEnd t E adc) t s fun w u =>
      (∀ o, u.ul.own.getLast? = some o → o.e = E ∧ o.tally = (w.contributing scs n k).length ∧
        o.recs = (List.range (w.carNrb (w.slotStart scs n) 1 c)).map (fun i => encode119
          (if lo ≤ i ∧ i ≤ hi then
            (List.range 12).flatMap (fun m => beamVal (w.ulFfts adc [(c, scs, n, k)]) c (w.contributing scs n k) v (12 * i + m)
            (11 + w.at_ (w.slotStart scs n) 0x3034 4 + w.at_ (w.slotStart scs n) 0x3034 6)) else List.replicate 24 0)
          (w.at_ (w.slotStart scs n) 0x3034 5 + 10))) ∧
      (∃ o, u.ul.own.getLast? = some o) ∧ u.ul.fft = w.ulFfts adc [(c, scs, n, k)] ∧
      Frame [.ul, .tbl, .slotAlarms]
        [key 0x3035 1, key 0x3035 2, key 0x3035 3, key 0x3035 4, key 0x3101 6, key 0x3101 0x0E] w u)

/-- R44, R120, R126: departure. At its time a packet leaves on port U with its own records, or with the sum of its own and the admitted
children's; its tally and its nodes are the sums. R45, R123, Tables 5-5 and 5-7: children. A packet on a port that does not combine is
counted; one that matches no own packet is a format error; one that passes every check waits, and the cut-off admits it. -/
def Obligations.UplinkCombining : Prop :=
  (∀ (t : Tick) (E : Int) (p : Nat) (o : OwnPkt) (s : State),
    (s.upTo t).ul.own.find? (fun o => decide (o.e = E ∧ o.p = p)) = some o → o.gone = false → (s.upTo t).tDep E p ≤ (s.upTo t).time_ →
    (s.upTo t).active 0 = true → (s.upTo t).txWidth 0 ≠ 7 → (s.upTo t).timeLocked = true → (s.upTo t).clk.refBlank = false →
    (s.upTo t).dl.stopped = false → (s.upTo t).ul.child.filter (fun q => decide (q.e = E ∧ q.p = p) && q.adm) = [] →
    (∀ b, b < 4 → (s.upTo t).o (0x9020 + b) 8 ≠ 1 ∧ (s.upTo t).o (0x9020 + b) 8 ≠ 2) →
    Completes (.ulPacketDepart t E p) t s fun w u =>
      (u.port 0).egress = (w.port 0).egress ++ [EgItem.mk ⟨0x3FFFF, Cls.u, 0, w.addr, o.stream, 0, false, false, false, false, false,
        w.ulPayload E o o.recs o.tally (b2n (decide (0 < o.tally)))⟩ true (some (w.tDep E p)) w.now none] ∧
      u.ul.sent.getLast? = some (E, p, w.ulPayload E o o.recs o.tally (b2n (decide (0 < o.tally)))) ∧
      u.ul.own = w.ul.own.map (fun q => if q = o then { q with gone := true } else q) ∧
      Frame [.ul, .ports] fcKeys w u) ∧
  (∀ (t : Tick) (E : Int) (p : Nat) (o : OwnPkt) (ch : List ChPkt) (s : State),
    (s.upTo t).ul.own.find? (fun o => decide (o.e = E ∧ o.p = p)) = some o → o.gone = false → (s.upTo t).tDep E p ≤ (s.upTo t).time_ →
    (s.upTo t).active 0 = true → (s.upTo t).txWidth 0 ≠ 7 → (s.upTo t).timeLocked = true → (s.upTo t).clk.refBlank = false →
    (s.upTo t).dl.stopped = false → (s.upTo t).ul.child.filter (fun q => decide (q.e = E ∧ q.p = p) && q.adm) = ch → ch ≠ [] →
    (∀ b, b < 4 → (s.upTo t).o (0x9020 + b) 8 ≠ 1 ∧ (s.upTo t).o (0x9020 + b) 8 ≠ 2) →
    Completes (.ulPacketDepart t E p) t s fun w u =>
      u.ul.sent.getLast? = some (E, p, w.ulPayload E o
        ((List.range o.count).map (fun i => encode119
          (combinePrb (o.recs.getD i (0, [])) (o.mw + 10) o.scale ch i) (o.mw + 10)))
        (o.tally + listSum (ch.map (fun q => q.tally))) (b2n (decide (0 < o.tally)) + listSum (ch.map (fun q => q.nodes)))) ∧
      (u.port 0).egress.length = (w.port 0).egress.length + 1 ∧
      u.ul.own = w.ul.own.map (fun q => if q = o then { q with gone := true } else q) ∧
      Frame [.ul, .ports, .slotAlarms] (key 0x3035 1 :: fcKeys) w u) ∧
  (∀ (t : Tick) (port : Nat) (p : Pkt) (s : State), port = 1 ∨ port = 2 → (s.upTo t).chState port = 0 →
    Completes (.ulChildPacketArrival t port p) t s fun w u =>
      u.o (0x3035 + port) 0x0B = (w.o (0x3035 + port) 0x0B + 1) % 2 ^ 32 ∧ Frame [] [key (0x3035 + port) 0x0B] w u) ∧
  (∀ (t : Tick) (port : Nat) (p : Pkt) (s : State), port = 1 ∨ port = 2 → (s.upTo t).chState port ≠ 0 →
    (s.upTo t).matchOwn p.stream (uPrefix p.payload) = none →
    Completes (.ulChildPacketArrival t port p) t s fun w u =>
      u.o (0x3035 + port) 7 = (w.o (0x3035 + port) 7 + 1) % 2 ^ 32 ∧ (Al.ulFormat, 0) ∈ u.slotAlarms ∧
      Frame [.slotAlarms] [key (0x3035 + port) 7] w u) ∧
  (∀ (t : Tick) (port : Nat) (p : Pkt) (o : OwnPkt) (s : State), port = 1 ∨ port = 2 → (s.upTo t).chState port = 1 →
    ((s.upTo t).chst port).admitFrom = none → (s.upTo t).matchOwn p.stream (uPrefix p.payload) = some o →
    (uPrefix p.payload).first = o.prbFirst → (uPrefix p.payload).count = o.count → (uPrefix p.payload).mw ≤ 6 →
    p.payload.length = uLen (uPrefix p.payload) →
    (s.upTo t).ul.child.any (fun q => decide (q.port = port ∧ q.e = o.e ∧ q.p = o.p)) = false →
    (uPrefix p.payload).height < (s.upTo t).at_ o.e 0x1221 0 → (uPrefix p.payload).scale ≤ o.scale → o.cut = false →
    (s.upTo t).time_ ≤ (s.upTo t).tDep o.e o.p - ((tUs / 2 : Nat) : Int) →
    Completes (.ulChildPacketArrival t port p) t s fun w u =>
      u.ul.child = w.ul.child ++ [⟨port, o.e, o.p, unpackRecs (p.payload.drop 12) ((uPrefix p.payload).mw + 10)
        (uPrefix p.payload).count, (uPrefix p.payload).mw + 10, (uPrefix p.payload).scale, (uPrefix p.payload).tally,
        (uPrefix p.payload).nodes, false, false⟩] ∧
      u.o (0x3035 + port) 2 = (uPrefix p.payload).height ∧ u.o (0x3035 + port) 3 = (uPrefix p.payload).scale ∧
      u.ul = { w.ul with child := u.ul.child } ∧ Frame [.ul] [key (0x3035 + port) 2, key (0x3035 + port) 3] w u) ∧
  (∀ (t : Tick) (E : Int) (p : Nat) (o : OwnPkt) (s : State),
    (s.upTo t).ul.own.find? (fun o => decide (o.e = E ∧ o.p = p)) = some o → o.cut = false →
    (s.upTo t).tDep E p - ((tUs / 2 : Nat) : Int) ≤ (s.upTo t).time_ →
    (∀ q, q = 1 ∨ q = 2 → (s.upTo t).chState q = 0 ∧ (s.upTo t).ul.child.any (fun z => decide (z.port = q)) = false) →
    Completes (.ulCutoff t E p) t s fun w u =>
      u.ul = { w.ul with own := w.ul.own.map (fun q => if q = o then { q with cut := true } else q) } ∧ Frame [.ul] [] w u) ∧
  (∀ (t : Tick) (E : Int) (p : Nat) (o : OwnPkt) (q : ChPkt) (s : State),
    (s.upTo t).ul.own.find? (fun o => decide (o.e = E ∧ o.p = p)) = some o → o.cut = false →
    (s.upTo t).tDep E p - ((tUs / 2 : Nat) : Int) ≤ (s.upTo t).time_ → (s.upTo t).chState 1 = 1 → ((s.upTo t).chst 1).admitFrom = none →
    (s.upTo t).chState 2 = 0 → (s.upTo t).ul.child = [q] → q.port = 1 → q.e = o.e → q.p = o.p → q.dead = false → q.adm = false →
    o.tally + q.tally ≤ 2 ^ 20 →
    Completes (.ulCutoff t E p) t s fun w u =>
      u.ul.child = [{ q with adm := true }] ∧ u.o 0x3036 4 = (w.o 0x3036 4 + 1) % 2 ^ 32 ∧ Frame [.ul] [key 0x3036 4] w u)

/-! ### RF paths and the front end (chapter 06) -/

/-- R147 to R149, R156, Tables 6-4 to 6-6: the edges of an entry into Transmit from Synth-on, of the exit from Transmit to Receive, and of
the entry into and the exit from Receive, each at its offset from the balls; a synthesiser that is not ready loses the symbol. R135, R136,
R154, R414: an attenuation is the demand at once and acts with the next symbol's cyclic prefix; suppression spans that ended 2 ms ago are
forgotten; GB_FAULT_CLEAR clears a path's fault, which stays silent until the next slot. -/
def Obligations.RadioPathsAndFaults : Prop :=
  (∀ (t : Tick) (l k q p : Nat) (n T : Int) (s : State), l < 4 → k < 14 → q < 12 → p ∈ pathsOf q →
    T = (s.upTo t).tAir ((s.upTo t).radioScs n k) n k → txCode ((s.upTo t).patCode T n k) = true →
    (s.upTo t).settlePins.radioState l = 2 → (s.upTo t).loReady l = true → (s.upTo t).a 0x2040 4 ≠ 1 → (s.upTo t).dl.stopped = false →
    (s.upTo t).txLo T q = l → (s.upTo t).mayTx T p = true → (s.upTo t).benchMute T p = false → (s.upTo t).dozes T p = false →
    Completes (.txEntry t l n k) t s fun w u =>
      PinEdge.mk (T - w.txBoard - ns 5000) .gate p 2 ∈ u.rf.edges ∧
      PinEdge.mk (T - w.txBoard - ns 3000 + w.skew 0x2004 (p + 1)) .txon p 1 ∈ u.rf.edges ∧
      PinEdge.mk (T - w.txBoard - ns 500) .driver p 1 ∈ u.rf.edges ∧
      PinEdge.mk (T - w.txBoard - ns 3000 + w.skew 0x2008 (q + 1)) .trsw q 1 ∈ u.rf.edges ∧
      PinEdge.mk (T - w.txBoard) .radio l (if w.fdd then txStarts (w.settlePins.pinAt (T - w.txBoard) .radio l) else 4) ∈ u.rf.edges ∧
      bit u.rf.txRun q = true ∧ (q, T) ∈ u.rf.entered ∧ bit (u.block p) 1 = false ∧
      u.rf = { w.rf with levels := w.settlePins.rf.levels, edges := u.rf.edges, txRun := u.rf.txRun, entered := u.rf.entered } ∧
      u.hk = { w.hk with gbBand := u.hk.gbBand } ∧
      (∀ X m, w.txLo T (tileOf m) ≠ l → u.edgesOf X .txon m = w.settlePins.edgesOf X .txon m ∧
        u.edgesOf X .driver m = w.settlePins.edgesOf X .driver m ∧ u.edgesOf X .gate m = w.settlePins.edgesOf X .gate m) ∧
      Frame [.rf, .hk] blockKeys w u) ∧
  (∀ (t : Tick) (l k q : Nat) (n T : Int) (s : State), l < 4 → k < 14 → q < 12 →
    T = (s.upTo t).tAir ((s.upTo t).radioScs n k) n k → txCode ((s.upTo t).patCode T n k) = true →
    (s.upTo t).dl.stopped = false → (s.upTo t).rf.denied = false → (s.upTo t).loReady l = false →
    (∀ x, x < 12 → ((s.upTo t).txLo T x = l ∧ (s.upTo t).tileTx T x = true ↔ x = q)) →
    (∀ p, p ∈ pathsOf q → bit ((s.upTo t).block p) 4 = false) →
    (pathsOf q).any ((s.upTo t).txOn T) = true →
    Completes (.txEntry t l n k) t s fun w u =>
      (∀ p, p ∈ pathsOf q → w.txOn T p = true → bit (u.block p) 1 = true) ∧
      u.o 0x2130 1 = (w.o 0x2130 1 + ((pathsOf q).filter (w.txOn T)).length) % 2 ^ 32 ∧
      (Al.lateLo, 0) ∈ u.slotAlarms ∧ u.rf = { w.settlePins.rf with failed := u.rf.failed } ∧
      FailedEntry.mk l n k w.time_ [q] (decide ((Al.lateLo, 0) ∉ w.slotAlarms)) ∈ u.rf.failed ∧
      Frame [.rf, .slotAlarms] (key 0x2130 1 :: (pathsOf q).map (fun p => key 0x2106 (p + 1))) w u) ∧
  (∀ (t : Tick) (l k q p : Nat) (n O : Int) (s : State), l < 4 → k < 14 → q < 12 → p ∈ pathsOf q →
    O = (s.upTo t).tAirEnd ((s.upTo t).radioScs n k) n k - (s.upTo t).txBoard → (s.upTo t).txLo (s.upTo t).time_ q = l →
    bit (s.upTo t).rf.txRun q = true → (s.upTo t).fdd = false → (s.upTo t).power.hand = none → (s.upTo t).rf.cx.use ≠ 2 →
    (s.upTo t).napSlot ((s.upTo t).slotOf ((s.upTo t).a 0x2020 2) (O + (s.upTo t).txBoard)) = false →
    Completes (.txExit t l n k) t s fun w u =>
      PinEdge.mk O .driver p 0 ∈ u.rf.edges ∧ PinEdge.mk (O + ns 100 + w.skew 0x2004 (p + 1)) .txon p 0 ∈ u.rf.edges ∧
      PinEdge.mk (O + ns 1300 + w.skew 0x2008 (q + 1)) .trsw q 0 ∈ u.rf.edges ∧
      PinEdge.mk (O + ns 1500 + w.skew 0x2009 (q + 1)) .lnabyp q 0 ∈ u.rf.edges ∧
      (w.rxOn w.time_ p = true → PinEdge.mk (O + ns 1500) .rxStage p 1 ∈ u.rf.edges) ∧
      PinEdge.mk (O + ns 2000) .radio l 3 ∈ u.rf.edges ∧ bit u.rf.txRun q = false ∧
      bit (u.block p) 1 = false ∧ bit (u.block p) 4 = false ∧
      u.rf = { w.rf with levels := w.settlePins.rf.levels, edges := u.rf.edges, txRun := u.rf.txRun, entered := u.rf.entered } ∧
      u.hk = { w.hk with gbBand := u.hk.gbBand, gbHold := u.hk.gbHold } ∧ Frame [.rf, .hk] blockKeys w u) ∧
  (∀ (t : Tick) (l k q p : Nat) (n T : Int) (s : State), l < 4 → k < 14 → q < 12 → p ∈ pathsOf q →
    T = (s.upTo t).tAir ((s.upTo t).radioScs n k) n k → rxCode ((s.upTo t).patCode T n k) = true → (s.upTo t).dl.stopped = false →
    (s.upTo t).settlePins.radioState l = 2 → (s.upTo t).rxLo T q = l → (s.upTo t).rxOn T p = true →
    Completes (.rxEntry t l n k) t s fun w u =>
      PinEdge.mk (T + w.rxBoard - ns 500 + w.skew 0x2009 (q + 1)) .lnabyp q 0 ∈ u.rf.edges ∧
      PinEdge.mk (T + w.rxBoard - ns 3000) .rxStage p 1 ∈ u.rf.edges ∧
      PinEdge.mk (T + w.rxBoard) .radio l (if w.fdd then rxStarts (w.settlePins.pinAt (T + w.rxBoard) .radio l) else 3) ∈ u.rf.edges ∧
      u.rf = { w.rf with levels := w.settlePins.rf.levels, edges := u.rf.edges } ∧ Frame [.rf] [] w u) ∧
  (∀ (t : Tick) (l k q p : Nat) (n O : Int) (s : State), l < 4 → k < 14 → q < 12 → p ∈ pathsOf q →
    O = (s.upTo t).tAirEnd ((s.upTo t).radioScs n k) n k + (s.upTo t).rxBoard → (s.upTo t).rxLo (s.upTo t).time_ q = l →
    (s.upTo t).settlePins.radioState l = 3 →
    Completes (.rxExit t l n k) t s fun w u =>
      PinEdge.mk (O + ns 100 + w.skew 0x2009 (q + 1)) .lnabyp q 1 ∈ u.rf.edges ∧ PinEdge.mk O .rxStage p 0 ∈ u.rf.edges ∧
      PinEdge.mk (O + ns 100) .radio l (if w.fdd then rxStops (w.settlePins.pinAt (O + ns 100) .radio l) else 2) ∈ u.rf.edges ∧
      u.rf = { w.rf with levels := w.settlePins.rf.levels, edges := u.rf.edges } ∧ Frame [.rf] [] w u) ∧
  (∀ (t : Tick) (r : Req) (n v : Nat) (s : State), n < 96 → Reaches (s.upTo t) r 0x2002 (n + 1) (objBytes 0x2002 1 v) v →
    Completes (.txAttenWrite t r n v) t s fun w u =>
      u.o 0x2002 (n + 1) = v ∧ u.a 0x2002 (n + 1) = w.a 0x2002 (n + 1) ∧
      u.rf = { w.rf with atten :=
        w.rf.atten.filter (fun x => decide (¬ (x.1 = 0 ∧ x.2.1 = n ∧ w.time_ < x.2.2.2))) ++ [(0, n, v, w.attenDue 0)] } ∧
      Answered w u r 2 (objWord 0x2002 (n + 1)) 0 [] ∧ Frame (.rf :: writeParts) [key 0x2002 (n + 1)] w u) ∧
  (∀ (t : Tick) (r : Req) (n v : Nat) (s : State), n < 96 → Reaches (s.upTo t) r 0x2003 (n + 1) (objBytes 0x2003 1 v) v →
    Completes (.rxAttenWrite t r n v) t s fun w u =>
      u.o 0x2003 (n + 1) = v ∧ u.a 0x2003 (n + 1) = w.a 0x2003 (n + 1) ∧
      u.rf = { w.rf with atten :=
        w.rf.atten.filter (fun x => decide (¬ (x.1 = 1 ∧ x.2.1 = n ∧ w.time_ < x.2.2.2))) ++ [(1, n, v, w.attenDue 1)] } ∧
      Answered w u r 2 (objWord 0x2003 (n + 1)) 0 [] ∧ Frame (.rf :: writeParts) [key 0x2003 (n + 1)] w u) ∧
  (∀ (t : Tick) (s : State),
    Completes (.suppressionEnd t) t s fun w u =>
      u.dl = { w.dl with supp := w.dl.supp.filter (fun x => decide (w.time_ < x.until_ + ((2 * tMs : Nat) : Int))) } ∧
      u.ul = { w.ul with supp := w.ul.supp.filter (fun x => decide (w.time_ < x.until_ + ((2 * tMs : Nat) : Int))) } ∧
      Frame [.dl, .ul] [] w u) ∧
  (∀ (t : Tick) (r : Req) (n : Nat) (s : State), n < 96 → Reaches (s.upTo t) r 0x2007 (n + 1) (objBytes 0x2007 1 1) 1 →
    (s.upTo t).o 0x7212 (n + 1) = 0 → bit ((s.upTo t).block n) 0 = true ∨ bit ((s.upTo t).block n) 3 = true →
    Completes (.gbFaultClear t r n 1) t s fun w u =>
      (∀ b, bit (u.block n) b = (bit (w.block n) b && decide (b ≠ 0) && decide (b ≠ 3))) ∧ (n, none) ∈ u.rf.held ∧
      u.rf = { w.rf with held := u.rf.held } ∧ (∀ x b, x ≠ n → ((x, b) ∈ u.rf.held ↔ (x, b) ∈ w.rf.held)) ∧
      u.raised Al.gbFault n = false ∧ u.raised Al.rflTrip n = false ∧
      (∀ c d, ¬ ((c = Al.gbFault ∨ c = Al.rflTrip) ∧ d = n) → u.raised c d = w.raised c d) ∧
      Frame (.rf :: .inService :: .lhp :: .locks :: logParts) (key 0x2106 (n + 1) :: logKeys) w u) ∧
  (∀ (t : Tick) (r : Req) (n : Nat) (s : State), n < 96 → Reaches (s.upTo t) r 0x2007 (n + 1) (objBytes 0x2007 1 1) 1 →
    (s.upTo t).o 0x7212 (n + 1) ≠ 0 → bit ((s.upTo t).block n) 0 = true → (s.upTo t).pin .driver n = 0 →
    (s.upTo t).rf.edges = [] → (s.upTo t).pin .txon n = 0 →
    Completes (.gbFaultClear t r n 1) t s fun w u =>
      bit (u.block n) 0 = true ∧ u.o 0x7220 2 = (w.o 0x7220 2 + 1) % 2 ^ 32 ∧ u.raised Al.gbFault n = true ∧
      Frame (.rf :: .inService :: .lhp :: .locks :: logParts) (key 0x2106 (n + 1) :: key 0x7220 2 :: logKeys) w u)

/-- R157 to R159, R222: the coexistence handshake: request, grant, guard, use, its end, a grant that falls, that does not come, that
is held too long. -/
def Obligations.Coexistence : Prop :=
  (∀ (t : Tick) (n : Nat) (s : State), (s.upTo t).a 0x2040 1 = 1 → (s.upTo t).rf.cx.req = false → (s.upTo t).rf.cx.gnt = false →
    (∀ x, (s.upTo t).rf.cx.lowSince = some x → x + tUs ≤ (s.upTo t).now) → (s.upTo t).injFits = true →
    Completes (.cxRequest t n) t s fun w u =>
      u.rf = { w.rf with cx := { w.rf.cx with
        req := true, pri := bit (w.o 0x4411 (n + 1)) 5, use := 1, since := w.now, grantAt := none, inUse := false } } ∧ Frame [.rf] [] w u) ∧
  (∀ (t : Tick) (s : State), (s.upTo t).a 0x2040 1 = 1 → (s.upTo t).a 0x2040 4 = 1 → (s.upTo t).rf.cx.req = false →
    (s.upTo t).rf.cx.gnt = false → (∀ x, (s.upTo t).rf.cx.lowSince = some x → x + tUs ≤ (s.upTo t).now) →
    (s.upTo t).leadAt.any (fun L => decide (L ≤ (s.upTo t).time_)) = true →
    Completes (.cxTxRequest t) t s fun w u =>
      u.rf = { w.rf with cx := { w.rf.cx with
        req := true, pri := true, use := 2, since := w.now, grantAt := none, inUse := false } } ∧ Frame [.rf] [] w u) ∧
  (∀ (t : Tick) (n : Nat) (s : State), (s.upTo t).a 0x2040 1 = 2 → (s.upTo t).rf.cx.req = false → (s.upTo t).injFits = true →
    Completes (.cxRequest t n) t s fun w u =>
      u.rf = { w.rf with cx := { w.rf.cx with
        req := true, pri := bit (w.o 0x4411 (n + 1)) 5, use := 1, since := w.now, grantAt := some w.now, inUse := false } } ∧
      u.lock 9 = ⟨ownCal, some (w.now + w.a 0x2040 3 * tUs)⟩ ∧ (∀ m, m ≠ 9 → u.lock m = w.lock m) ∧ Frame [.rf, .locks] [] w u) ∧
  (∀ (t : Tick) (s : State), (s.upTo t).a 0x2040 1 = 1 → (s.upTo t).rf.cx.req = true → (s.upTo t).rf.cx.grantAt = none →
    Completes (.cxGrantSeen t) t s fun w u =>
      u.rf = { w.rf with cx := { w.rf.cx with gnt := true, lowSince := none, grantAt := some w.now } } ∧
      u.lock 9 = ⟨if w.rf.cx.use = 2 then ownTxSeq else ownCal, some (w.now + w.a 0x2040 3 * tUs)⟩ ∧
      (∀ n, n ≠ 9 → u.lock n = w.lock n) ∧ Frame [.rf, .locks] [] w u) ∧
  (∀ (t : Tick) (s : State), (s.upTo t).a 0x2040 1 ≠ 2 → (s.upTo t).rf.cx.req = false →
    Completes (.cxGrantSeen t) t s fun w u =>
      u.rf = { w.rf with cx := { w.rf.cx with gnt := true, lowSince := none } } ∧
      u.o 0x2141 6 = (w.o 0x2141 6 + 1) % 2 ^ 32 ∧ Frame [.rf] [key 0x2141 6] w u) ∧
  (∀ (t : Tick) (x : Tick) (s : State), (s.upTo t).rf.cx.grantAt = some x → (s.upTo t).rf.cx.use = 1 → (s.upTo t).rf.cx.inUse = false →
    x + (s.upTo t).a 0x2040 6 * tNs ≤ (s.upTo t).now → (s.upTo t).rxHalf = true → (s.upTo t).recipNow = true →
    (s.upTo t).fits ((s.upTo t).costOf .inj 0) (costOn rRf 4) = true →
    Completes (.cxGuardExpiry t) t s fun w u =>
      u.rf.tone = true ∧ u.rf.toneKhz = w.toneFor ∧ u.rf.cx = { w.rf.cx with inUse := true } ∧ u.costOf .inj 0 = costOn rRf 4 ∧
      u.o 0x2141 1 = (w.o 0x2141 1 + 1) % 2 ^ 32 ∧ Frame [.rf, .grants] [key 0x2141 1] w u) ∧
  (∀ (t : Tick) (s : State), (s.upTo t).rf.cx.use = 1 → (s.upTo t).rf.cx.inUse = true →
    Completes (.cxInjectionEnd t) t s fun w u =>
      u.rf.tone = false ∧ u.rf.cx = { w.rf.cx with req := false, pri := false, use := 0, grantAt := none, inUse := false } ∧
      u.granted .inj 0 = false ∧ u.lock 9 = lockFree ∧ (∀ n, n ≠ 9 → u.lock n = w.lock n) ∧
      Frame [.rf, .grants, .locks] [] w u) ∧
  (∀ (t : Tick) (s : State), (s.upTo t).a 0x2040 1 ≠ 2 → (s.upTo t).rf.cx.req = true → (s.upTo t).rf.cx.use = 1 →
    (s.upTo t).rf.cx.inUse = true →
    Completes (.cxgntDeassert t) t s fun w u =>
      u.rf.tone = false ∧ u.rf.cx = { w.rf.cx with
        gnt := false, lowSince := some w.now, req := false, pri := false, use := 0, grantAt := none, inUse := false } ∧
      u.granted .inj 0 = false ∧ u.lock 9 = lockFree ∧ u.o 0x2141 3 = (w.o 0x2141 3 + 1) % 2 ^ 32 ∧
      (∀ n, n ∈ w.inRecip → n ∈ u.cal.recipOut) ∧
      u.o 0x4420 5 = w.counted 0x4420 5 (w.inRecip.filter (fun n => decide (n ∉ w.cal.recipOut))).length ∧
      u.cal = { w.cal with recipOut := u.cal.recipOut, made := u.cal.made } ∧
      Frame [.rf, .grants, .locks, .cal] [key 0x2141 3, key 0x4420 5] w u) ∧
  (∀ (t : Tick) (s : State), (s.upTo t).rf.cx.req = true → (s.upTo t).rf.cx.grantAt = none →
    (s.upTo t).rf.cx.since + (s.upTo t).a 0x2040 2 * tUs ≤ (s.upTo t).now →
    Completes (.cxWaitTimeout t) t s fun w u =>
      u.rf.cx = { w.rf.cx with req := false, pri := false, use := 0, grantAt := none, inUse := false } ∧ u.lock 9 = lockFree ∧
      u.o 0x2141 2 = (w.o 0x2141 2 + 1) % 2 ^ 32 ∧ u.raised Al.cxTimeout 0 = true ∧
      Frame (.rf :: .grants :: .locks :: logParts) (key 0x2141 2 :: logKeys) w u) ∧
  (∀ (t : Tick) (x : Tick) (s : State), (s.upTo t).rf.cx.grantAt = some x → x + (s.upTo t).a 0x2040 3 * tUs ≤ (s.upTo t).now →
    (s.upTo t).rf.cx.use ≠ 2 →
    Completes (.cxLeaseExpiry t) t s fun w u =>
      u.rf.cx = { w.rf.cx with req := false, pri := false, use := 0, grantAt := none, inUse := false } ∧ u.lock 9 = lockFree ∧
      u.o 0x2141 4 = (w.o 0x2141 4 + 1) % 2 ^ 32 ∧ u.o 0x1013 10 = (w.o 0x1013 10 + 1) % 2 ^ 32 ∧ u.raised Al.cxLease 0 = true ∧
      u.o 0x4420 5 = w.counted 0x4420 5
        (if w.rf.cx.inUse then (w.inRecip.filter (fun n => decide (n ∉ w.cal.recipOut))).length else 0) ∧
      u.cal = { w.cal with recipOut := u.cal.recipOut, made := u.cal.made } ∧
      Frame (.rf :: .grants :: .locks :: .cal :: logParts) (key 0x2141 4 :: key 0x1013 10 :: key 0x4420 5 :: logKeys) w u)

/-! ### Synthesisers and clocks (chapter 07) -/

/-- R176, R177, R182: lock by frequency count. Four windows in a row within 2 counts declare lock; a window that misses starts the
count again; a window beyond 8 counts, or a cycle slip, unlocks a locked synthesiser, whose phase is then no longer valid. R173 to
R175, R179, R181, R141: dividers are loaded at once, a phase step waits for the next symbol, a powered synthesiser reaches Standby, and
a spare is powered and armed to take over, its phase stepped back by as much as it was found ahead. R23: nothing is recalibrated while
all four synthesisers feed tiles. -/
def Obligations.Synthesisers : Prop :=
  (∀ (t : Tick) (l c : Nat) (s : State), l < 4 → (s.upTo t).loOn l = true → ((s.upTo t).lo l).upAt = none →
    (s.upTo t).loLocked l = false → ((s.upTo t).lo l).good = 3 → ((s.upTo t).lo l).divs.nExp ≤ c + 2 →
    c ≤ ((s.upTo t).lo l).divs.nExp + 2 → (s.upTo t).clk.hand = none →
    (∀ e, e ∈ (s.upTo t).rf.failed → e.lo ≠ l ∨ timeCycle e.at_ ≠ timeCycle (s.upTo t).time_) →
    Completes (.loCountWindow t l c) t s fun w u =>
      u.loLocked l = true ∧ u.loReady l = true ∧ u.loValid l = w.loValid l ∧
      u.lo l = { w.lo l with lockedAt := some w.now, band := true, good := 4 } ∧ (∀ m, m ≠ l → u.lo m = w.lo m) ∧
      u.radioState l = max 2 (w.radioState l) ∧
      u.ul = { w.ul with rxGone := w.ul.rxGone.map (fun x =>
        if x.2.2 = noEnd ∧ x.1 ∈ w.rxTiles l then (x.1, x.2.1, w.time_) else x) } ∧
      Frame [.clk, .rf, .ul] [key (loIdx l) 0x0B] w u) ∧
  (∀ (t : Tick) (l c : Nat) (s : State), l < 4 → (s.upTo t).loOn l = true → ((s.upTo t).lo l).upAt = none →
    (s.upTo t).loLocked l = false → ((s.upTo t).lo l).good < 3 → ((s.upTo t).lo l).divs.nExp ≤ c + 2 →
    c ≤ ((s.upTo t).lo l).divs.nExp + 2 →
    Completes (.loCountWindow t l c) t s fun w u =>
      u.lo l = { w.lo l with good := (w.lo l).good + 1 } ∧ (∀ m, m ≠ l → u.lo m = w.lo m) ∧
      u.clk = { w.clk with lo := u.clk.lo } ∧ Frame [.clk] [] w u) ∧
  (∀ (t : Tick) (l c : Nat) (s : State), l < 4 → (s.upTo t).loOn l = true → ((s.upTo t).lo l).upAt = none →
    (s.upTo t).loLocked l = false → ((s.upTo t).lo l).divs.nExp + 2 < c ∨ c + 2 < ((s.upTo t).lo l).divs.nExp →
    Completes (.loCountWindow t l c) t s fun w u =>
      u.lo l = { w.lo l with good := 0 } ∧ (∀ m, m ≠ l → u.lo m = w.lo m) ∧
      u.clk = { w.clk with lo := u.clk.lo } ∧ Frame [.clk] [] w u) ∧
  (∀ (t : Tick) (l c : Nat) (s : State), l < 4 → (s.upTo t).loOn l = true → ((s.upTo t).lo l).upAt = none →
    (s.upTo t).loLocked l = true → ((s.upTo t).lo l).divs.nExp + 8 < c ∨ c + 8 < ((s.upTo t).lo l).divs.nExp →
    ((s.upTo t).lo l).step = none → ((s.upTo t).lo l).stepAt ≠ some (s.upTo t).time_ → (s.upTo t).clk.hand = none →
    (∀ k, k < 12 → bit (s.upTo t).rf.txRun k = false) →
    (s.upTo t).radioState l ≠ 3 → (s.upTo t).radioState l ≠ 5 →
    Completes (.loCountWindow t l c) t s fun w u =>
      u.loLocked l = false ∧ u.loReady l = false ∧ u.loValid l = false ∧
      u.lo l = { w.lo l with
        good := 0, step := none, stepAt := none, half := false, slip := false, lockedAt := none } ∧
      (∀ m, m ≠ l → u.lo m = w.lo m) ∧ u.o (loIdx l) 0x0D = 0 ∧ u.o (loIdx l) 0x0E = (w.o (loIdx l) 0x0E + 1) % 2 ^ 32 ∧
      u.raised Al.loUnlock l = true ∧ (∀ k, k ∈ w.rxTiles l → ∃ x, x ∈ u.ul.rxGone ∧ x.1 = k ∧ x.2.2 = noEnd) ∧
      u.ul = { w.ul with rxGone := u.ul.rxGone } ∧
      Frame (.clk :: .ul :: logParts) ([key (loIdx l) 0x0B, key (loIdx l) 0x0D, key (loIdx l) 0x0E] ++ logKeys) w u) ∧
  (∀ (t : Tick) (l : Nat) (s : State), l < 4 → (s.upTo t).loOn l = true → ((s.upTo t).lo l).upAt = none →
    (s.upTo t).loLocked l = true → ((s.upTo t).lo l).step = none → ((s.upTo t).lo l).stepAt ≠ some (s.upTo t).time_ →
    (s.upTo t).clk.hand = none → (∀ k, k < 12 → bit (s.upTo t).rf.txRun k = false) → (s.upTo t).radioState l ≠ 3 →
    (s.upTo t).radioState l ≠ 5 →
    Completes (.loCycleSlip t l) t s fun w u =>
      u.loLocked l = false ∧ u.loReady l = false ∧ u.loValid l = false ∧
      u.lo l = { w.lo l with
        good := 0, step := none, stepAt := none, half := false, slip := false, lockedAt := none } ∧
      (∀ m, m ≠ l → u.lo m = w.lo m) ∧ u.o (loIdx l) 0x0D = 0 ∧ u.o (loIdx l) 0x0E = (w.o (loIdx l) 0x0E + 1) % 2 ^ 32 ∧
      u.raised Al.loUnlock l = true ∧ (∀ k, k ∈ w.rxTiles l → ∃ x, x ∈ u.ul.rxGone ∧ x.1 = k ∧ x.2.2 = noEnd) ∧
      u.ul = { w.ul with rxGone := u.ul.rxGone } ∧
      Frame (.clk :: .ul :: logParts) ([key (loIdx l) 0x0B, key (loIdx l) 0x0D, key (loIdx l) 0x0E] ++ logKeys) w u) ∧
  (∀ (t : Tick) (r : Req) (l : Nat) (s : State), l < 4 → Reaches (s.upTo t) r (loIdx l) 8 (objBytes (loIdx l) 8 1) 1 →
    ((s.upTo t).divBuf l).ok = true → (s.upTo t).divBuf l ≠ ((s.upTo t).lo l).divs → (s.upTo t).loOn l = false →
    Completes (.loLoadNow t r l 1) t s fun w u =>
      u.lo l = { w.lo l with divs := w.divBuf l } ∧ (∀ m, m ≠ l → u.lo m = w.lo m) ∧
      u.o (loIdx l) 0x0C = (w.divBuf l).freq % 2 ^ 64 ∧ Answered w u r 2 (objWord (loIdx l) 8) 0 [] ∧
      Frame (.clk :: writeParts) [key (loIdx l) 0x0C] w u) ∧
  (∀ (t : Tick) (r : Req) (l : Nat) (s : State), l < 4 → Reaches (s.upTo t) r (loIdx l) 8 (objBytes (loIdx l) 8 1) 1 →
    ((s.upTo t).divBuf l).ok = false →
    Completes (.loLoadNow t r l 1) t s fun w u => Answered w u r 2 (objWord (loIdx l) 8) 0x16 [] ∧ Frame writeParts [] w u) ∧
  (∀ (t : Tick) (r : Req) (l v : Nat) (s : State), l < 4 → Reaches (s.upTo t) r (loIdx l) 0x0A (objBytes (loIdx l) 0x0A v) v →
    (s.upTo t).loReady l = true →
    Completes (.loPhaseStep t r l v) t s fun w u =>
      u.lo l = { w.lo l with step := some ((w.lo l).step.getD 0 + toInt 16 v) } ∧ (∀ m, m ≠ l → u.lo m = w.lo m) ∧
      Answered w u r 2 (objWord (loIdx l) 0x0A) 0 [] ∧ Frame (.clk :: writeParts) [] w u) ∧
  (∀ (t : Tick) (r : Req) (l v : Nat) (s : State), l < 4 → Reaches (s.upTo t) r (loIdx l) 0x0A (objBytes (loIdx l) 0x0A v) v →
    (s.upTo t).loReady l = false →
    Completes (.loPhaseStep t r l v) t s fun w u =>
      u.o 0x2430 4 = (w.o 0x2430 4 + 1) % 2 ^ 32 ∧ Answered w u r 2 (objWord (loIdx l) 0x0A) 0 [] ∧
      Frame writeParts [key 0x2430 4] w u) ∧
  (∀ (t : Tick) (l : Nat) (x : Tick) (s : State), l < 4 → ((s.upTo t).lo l).upAt = some x → (s.upTo t).clk.hand = none →
    x + (if (s.upTo t).o 0x2420 3 = 1 then 40 * tUs else 2 * tMs) ≤ (s.upTo t).now →
    Completes (.standbyReached t l) t s fun w u =>
      u.lo l = { w.lo l with upAt := none, good := 0 } ∧ (∀ m, m ≠ l → u.lo m = w.lo m) ∧ u.radioState l = 1 ∧
      u.loCal l = (!(w.lo l).band) ∧ u.loLocked l = false ∧ u.loReady l = false ∧ u.loValid l = false ∧
      Frame [.clk, .rf] [key (loIdx l) 0x0B] w u) ∧
  (∀ (t : Tick) (x y : Nat) (s : State), x < 4 → y < 4 → x ≠ y → (s.upTo t).clk.hand = none → (s.upTo t).noSpare = false →
    (s.upTo t).a (loIdx x) 1 = 1 → (s.upTo t).a (loIdx y) 1 = 2 → (s.upTo t).fits ((s.upTo t).costOf .lo y) loCost = true →
    Completes (.loHandoverStart t x y) t s fun w u =>
      u.clk.hand = some ⟨x, y, 0, !w.loLocked x⟩ ∧ u.costOf .lo y = loCost ∧
      u.lo y = { w.lo y with
        divs := (w.lo x).divs, on := true, upAt := some w.now, good := 0, step := none, half := false, slip := false
        lockedAt := none } ∧
      (∀ m, m ≠ y → u.lo m = w.lo m) ∧ u.loStatus y = 0 ∧ u.radioState y = 0 ∧
      Frame [.clk, .rf, .grants] [key (loIdx y) 0x0B] w u) ∧
  (∀ (t : Tick) (x y : Nat) (s : State), x < 4 → y < 4 → x ≠ y → (s.upTo t).clk.hand = none → (s.upTo t).noSpare = false →
    (s.upTo t).a (loIdx x) 1 = 1 → (s.upTo t).a (loIdx y) 1 = 2 → (s.upTo t).fits ((s.upTo t).costOf .lo y) loCost = false →
    Completes (.loHandoverStart t x y) t s fun w u =>
      u.o 0x2430 3 = (w.o 0x2430 3 + 1) % 2 ^ 32 ∧ u.o 0x5005 (Dom.tm + 1) = (w.o 0x5005 (Dom.tm + 1) + 1) % 2 ^ 32 ∧
      Frame [] [key 0x2430 3, key 0x5005 (Dom.tm + 1)] w u) ∧
  (∀ (t : Tick) (x y : Nat) (s : State), x < 4 → y < 4 → x ≠ y → (s.upTo t).clk.hand = none → (s.upTo t).noSpare = true →
    Completes (.loHandoverStart t x y) t s fun w u => Frame [] [] w u) ∧
  (∀ (t : Tick) (lead : Int) (h : Handover) (s : State), (s.upTo t).clk.hand = some h → h.stage = 2 → h.sp < 4 →
    Completes (.loHandoverArmed ⟨t, lead⟩) t s fun w u =>
      u.clk = { w.clk with hand := some { h with stage := 3 } } ∧
      u.o (loIdx h.sp) 0x0D = (((w.o (loIdx h.sp) 0x0D : Int) - lead) % 2048).toNat ∧
      Frame [.clk] [key (loIdx h.sp) 0x0D] w u)

/-- R170, R171: the external reference is judged, taken over, lost and restored. R15, R168, R169, R188: a clock PLL loses lock: CTRL
goes to the AON clock and the control processor is absent; LINK goes to the AON clock and every lane loses lock; the HK clock stops; a
datapath PLL stops the chains, which resume at the slot boundary after
every datapath PLL is locked; CLK_UNLOCK clears after 1 s of lock. -/
def Obligations.ReferenceAndClockPlls : Prop :=
  (∀ (t : Tick) (f : Nat) (s : State), f < 2 ^ 32 → (s.upTo t).a 0x2420 1 = 0 → (s.upTo t).o 0x2420 3 = 0 ∨ (s.upTo t).o 0x2420 3 = 3 →
    (s.upTo t).clk.slewing = false → refOk f = false →
    Completes (.refAccept t f) t s fun w u =>
      u.o 0x2420 2 = f ∧ u.o 0x2420 3 = 3 ∧ Frame [] [key 0x2420 2, key 0x2420 3] w u) ∧
  (∀ (t : Tick) (f : Nat) (s : State), f < 2 ^ 32 → (s.upTo t).a 0x2420 1 = 0 → (s.upTo t).o 0x2420 3 = 0 ∨ (s.upTo t).o 0x2420 3 = 3 →
    (s.upTo t).clk.slewing = false → refOk f = true →
    Completes (.refAccept t f) t s fun w u =>
      u.o 0x2420 2 = f ∧
      (if (List.range 12).any (w.tileOn w.time_) = true ∨ (List.range 4).any w.loOn = true then
        u.clk.slewing = true ∧ u.o 0x2420 3 = w.o 0x2420 3 else u.clk.slewing = false ∧ u.o 0x2420 3 = 1) ∧
      u.clk = { w.clk with slewing := u.clk.slewing } ∧ Frame [.clk] [key 0x2420 2, key 0x2420 3] w u) ∧
  (∀ (t : Tick) (s : State), (s.upTo t).o 0x2420 3 = 1 ∨ (s.upTo t).clk.slewing = true →
    Completes (.refLost t) t s fun w u =>
      u.o 0x2420 3 = 2 ∧ u.o 0x2430 5 = (w.o 0x2430 5 + 1) % 2 ^ 32 ∧ u.raised Al.refLost 0 = true ∧
      u.clk = { w.clk with slewing := false } ∧ Frame (.clk :: logParts) (key 0x2420 3 :: key 0x2430 5 :: logKeys) w u) ∧
  (∀ (t : Tick) (s : State), (s.upTo t).o 0x2420 3 = 3 → (s.upTo t).clk.slewing = false →
    Completes (.refLost t) t s fun w u =>
      u.o 0x2420 3 = 0 ∧ u.o 0x2420 2 = 0 ∧ Frame [] [key 0x2420 3, key 0x2420 2] w u) ∧
  (∀ (t : Tick) (s : State), (s.upTo t).o 0x2420 3 = 2 →
    Completes (.refRestore t) t s fun w u => u.clk = { w.clk with slewing := true } ∧ Frame [.clk] [] w u) ∧
  (∀ (t : Tick) (s : State), (s.upTo t).clk.slewing = true →
    Completes (.refSlewDone t) t s fun w u =>
      u.o 0x2420 3 = 1 ∧ u.raised Al.refLost 0 = false ∧ u.clk = { w.clk with slewing := false } ∧
      Frame (.clk :: logParts) (key 0x2420 3 :: logKeys) w u) ∧
  (∀ (t : Tick) (s : State), (s.upTo t).pllLocked 3 = true → (s.upTo t).cpAbsent = none →
    Completes (.clkPllUnlock t 3) t s fun w u =>
      u.pllLocked 3 = false ∧ bit (u.o 0x2420 8) 6 = true ∧ (∀ n, n ≠ 3 → n ≠ 6 → bit (u.o 0x2420 8) n = bit (w.o 0x2420 8) n) ∧
      u.o 0x2420 9 = (w.o 0x2420 9 + 1) % 2 ^ 32 ∧ u.raised Al.clkUnlock 0 = true ∧ u.cpAbsent = some w.now ∧
      smGet none u.clk.pllAt 3 = none ∧ Frame (.clk :: .cpAbsent :: .swp :: logParts) (key 0x2420 8 :: key 0x2420 9 :: logKeys) w u) ∧
  (∀ (t : Tick) (s : State), (s.upTo t).pllLocked 2 = true → (∀ p, p < 3 → (s.upTo t).portState p = 0) →
    Completes (.clkPllUnlock t 2) t s fun w u =>
      u.pllLocked 2 = false ∧ bit (u.o 0x2420 8) 7 = true ∧ (∀ n, n ≠ 2 → n ≠ 7 → bit (u.o 0x2420 8) n = bit (w.o 0x2420 8) n) ∧
      u.o 0x2420 9 = (w.o 0x2420 9 + 1) % 2 ^ 32 ∧ u.raised Al.clkUnlock 0 = true ∧
      (∀ p x, p < 3 → x < 8 → u.lane p x = { w.lane p x with locked := false } ∧
        u.o 0x6105 (laneSub p x) = (w.o 0x6105 (laneSub p x) + 1) % 2 ^ 32) ∧
      Frame (.clk :: .lanes :: logParts) (key 0x2420 8 :: key 0x2420 9 :: laneKeys 0x6105 ++ logKeys) w u) ∧
  (∀ (t : Tick) (s : State), (s.upTo t).pllLocked 5 = true →
    Completes (.clkPllUnlock t 5) t s fun w u =>
      u.pllLocked 5 = false ∧ (∀ n, n ≠ 5 → bit (u.o 0x2420 8) n = bit (w.o 0x2420 8) n) ∧
      u.o 0x2420 9 = (w.o 0x2420 9 + 1) % 2 ^ 32 ∧ u.raised Al.clkUnlock 0 = true ∧ u.clk.hkStopped = true ∧
      smGet none u.clk.pllAt 5 = none ∧ Frame (.clk :: logParts) (key 0x2420 8 :: key 0x2420 9 :: logKeys) w u) ∧
  (∀ (t : Tick) (n : Nat) (s : State), n = 0 ∨ n = 1 → (s.upTo t).pllLocked n = true →
    (∀ k, k < 12 → bit (s.upTo t).rf.txRun k = false) →
    Completes (.datapathPllUnlock t n) t s fun w u =>
      u.pllLocked n = false ∧ (∀ m, m ≠ n → bit (u.o 0x2420 8) m = bit (w.o 0x2420 8) m) ∧
      u.o 0x2420 9 = (w.o 0x2420 9 + 1) % 2 ^ 32 ∧ u.raised Al.clkUnlock 0 = true ∧ u.dl = { w.dl with stopped := true } ∧
      u.clk.resume = false ∧ Frame (.clk :: .dl :: logParts) (key 0x2420 8 :: key 0x2420 9 :: logKeys) w u) ∧
  (∀ (t : Tick) (n : Nat) (s : State), n = 0 ∨ n = 1 → (s.upTo t).granted .pll n = true → (s.upTo t).pllLocked n = false →
    (s.upTo t).dl.stopped = true →
    Completes (.datapathPllRelock t n) t s fun w u =>
      u.pllLocked n = true ∧ (∀ m, m ≠ n → bit (u.o 0x2420 8) m = bit (w.o 0x2420 8) m) ∧
      u.clk.resume = (w.clk.resume || (w.pllLocked (1 - n) && w.pllLocked 4)) ∧ smGet none u.clk.pllAt n = some w.now ∧
      Frame [.clk] [key 0x2420 8] w u) ∧
  (∀ (t : Tick) (s : State), (∀ n, n < 6 → (s.upTo t).granted .pll n = true → (s.upTo t).pllLocked n = true ∧
      ∃ x, smGet none (s.upTo t).clk.pllAt n = some x ∧ x + tSec ≤ (s.upTo t).now) →
    Completes (.unlockAlarmClear t 4) t s fun w u =>
      u.raised Al.clkUnlock 0 = false ∧ (∀ c d, ¬ (c = Al.clkUnlock ∧ d = 0) → u.raised c d = w.raised c d) ∧
      Frame logParts logKeys w u) ∧
  (∀ (t : Tick) (l : Nat) (x : Tick) (s : State), l < 4 → ((s.upTo t).lo l).lockedAt = some x → (s.upTo t).loLocked l = true →
    x + tSec ≤ (s.upTo t).now →
    Completes (.unlockAlarmClear t l) t s fun w u =>
      u.raised Al.loUnlock l = false ∧ (∀ c d, ¬ (c = Al.loUnlock ∧ d = l) → u.raised c d = w.raised c d) ∧
      Frame logParts logKeys w u)

/-! ### Predistortion and observation receivers (chapter 08) -/

/-- R199, R200, R210: an adaptation attempt from its start to its solution: a free core takes the next due path; the capture is stored
and judged; the solution is put into the shadow coefficients, unless a part of one saturates. R201, R202, R209: a period without a new
attempt counts; coefficients grow stale; errors of the cluster's memories count, and a double one aborts the attempt, or
discards the result of an assay, and the core reloads its program; so does, before the attempt, a core that a swap of firmware has
left with the old one (R434). -/
def Obligations.PredistorterAdaptation : Prop :=
  (∀ (t : Tick) (c n : Nat) (s : State), MemOk s → (s.upTo t).domOn Dom.dc = true → (s.upTo t).cpAbsent = none →
    (List.range ((s.upTo t).a 0x4000 5)).find? (fun c => !(s.upTo t).granted .dcCore c) = some c →
    ((List.range 96).map (fun i => ((s.upTo t).dpd.next + i) % 96)).find? (s.upTo t).due = some n →
    (s.upTo t).fits ((s.upTo t).costOf .dcCore c) coreCost = true →
    Completes (.dpdAttemptStart t) t s fun w u =>
      u.dp n = { w.dp n with last := some w.now, mark := w.now, att := some ⟨c, false, 0, 0, 0, 0⟩ } ∧
      (∀ m, m ≠ n → u.dp m = w.dp m) ∧ u.dpd.next = (n + 1) % 96 ∧ smFind u.dpd.coreAt c = some w.now ∧
      u.costOf .dcCore c = coreCost ∧ (∀ x, u.ox x = w.ox x) ∧
      (c ∉ w.dpd.reload → ∀ b, u.rd8 b = w.rd8 b) ∧
      (c ∈ w.dpd.reload → (∀ j, j < 16384 → u.rd8 (0x40010000 + c * 0x20000 + j) = Config.dcProgram w.sec.run.measure j % 256) ∧
        (∀ b, (b < 0x40010000 + c * 0x20000 ∨ 0x40014000 + c * 0x20000 ≤ b) → u.rd8 b = w.rd8 b)) ∧
      u.dpd.reload = w.dpd.reload.filter (fun k => k != c) ∧
      Frame [.dpd, .grants, .rf, .mem, .dma] [] w u) ∧
  (∀ (t : Tick) (s : State), (s.upTo t).domOn Dom.dc = false →
    Completes (.dpdAttemptStart t) t s fun w u =>
      (∀ n, n < 96 → w.dpdMode n = 2 → bit (u.o 0x4102 (n + 1)) 5 = true) ∧
      (∀ n, n < 96 → w.dpdMode n ≠ 2 → u.o 0x4102 (n + 1) = w.o 0x4102 (n + 1)) ∧
      Frame [] ((List.range 96).map (fun n => key 0x4102 (n + 1))) w u) ∧
  (∀ (t : Tick) (x i : Nat) (x0 : Tick) (a : DpdAtt) (ref orx : List Nat) (s : State), x < 8 → i < 12 → MemOk s →
    ((s.upTo t).ox x).settled = some x0 → (s.upTo t).holder x = i → ((s.upTo t).dp (12 * x + i)).att = some a →
    ref.length = 4096 → orx.length = 4096 → x0 + (s.upTo t).capTicks ≤ (s.upTo t).now → orxClipped orx = false →
    belowLevel ref ((s.upTo t).ai 0x4000 7) = false → (s.upTo t).captureHurt (12 * x + i) x0 a = false →
    Completes (.dpdCaptureDone t x ref orx) t s fun w u =>
      u.dp (12 * x + i) = { w.dp (12 * x + i) with att := some { a with captured := true } } ∧
      (∀ m, m ≠ 12 * x + i → u.dp m = w.dp m) ∧
      (∀ j, j < 4 * ref.length → u.rd8 (oxBase x + 0x100 + j) = (ref.flatMap (bytesLE 4)).getD j 0) ∧
      (∀ j, j < 4 * orx.length → u.rd8 (oxBase x + 0x4100 + j) = (orx.flatMap (bytesLE 4)).getD j 0) ∧
      (∀ b, (b < oxBase x ∨ oxBase x + 0x10000 ≤ b) → u.rd8 b = w.rd8 b) ∧ Frame [.dpd, .mem, .dma] [] w u) ∧
  (∀ (t : Tick) (x i : Nat) (x0 : Tick) (a : DpdAtt) (ref orx : List Nat) (s : State), x < 8 → i < 12 → MemOk s →
    ((s.upTo t).ox x).settled = some x0 → (s.upTo t).holder x = i → ((s.upTo t).dp (12 * x + i)).att = some a →
    ref.length = 4096 → orx.length = 4096 → x0 + (s.upTo t).capTicks ≤ (s.upTo t).now →
    orxClipped orx = true ∨ belowLevel ref ((s.upTo t).ai 0x4000 7) = true ∨ (s.upTo t).captureHurt (12 * x + i) x0 a = true →
    Completes (.dpdCaptureDone t x ref orx) t s fun w u =>
      u.dp (12 * x + i) = { w.dp (12 * x + i) with att := none } ∧ (∀ m, m ≠ 12 * x + i → u.dp m = w.dp m) ∧
      u.granted .dcCore a.core = false ∧ bit (u.o 0x4102 (12 * x + i + 1)) 3 = true ∧
      u.o 0x4110 2 = (w.o 0x4110 2 + 1) % 2 ^ 32 ∧ (∀ b, (b < oxBase x ∨ oxBase x + 0x10000 ≤ b) → u.rd8 b = w.rd8 b) ∧
      Frame [.dpd, .mem, .dma, .grants, .rf] [key 0x4110 2, key 0x4102 (12 * x + i + 1)] w u) ∧
  (∀ (t : Tick) (n : Nat) (nmse gain : Int) (chat : List (Int × Int)) (a : DpdAtt) (s : State), n < 96 →
    ((s.upTo t).dp n).att = some a → a.captured = true → ((s.upTo t).dp n).led = none → (s.upTo t).activeBank n ≠ 0xFF →
    (dpdUpdate ((s.upTo t).a 0x4003 (n + 1)) (bankCoefs ((s.upTo t).bank n ((s.upTo t).activeBank n % 8))) ((s.upTo t).a 0x4000 3)
      chat).2 = 0 →
    Completes (.dpdSolveDone t n nmse gain chat) t s fun w u =>
      u.o 0x4004 (n + 1) = joinWords (dpdUpdate (w.a 0x4003 (n + 1)) (bankCoefs (w.bank n (w.activeBank n % 8))) (w.a 0x4000 3)
        chat).1 % 2 ^ 2048 ∧
      u.oi 0x4103 (n + 1) = clampI (-600) 32767 nmse ∧ u.oi 0x4105 (n + 1) = satI 16 gain ∧
      u.dp n = { w.dp n with
        att := none, pend := some ⟨w.pathBand n, false, a.fconv, a.lo, a.tileLo, clampI (-600) 32767 nmse⟩ } ∧
      (∀ m, m ≠ n → u.dp m = w.dp m) ∧ u.granted .dcCore a.core = false ∧ u.cal = { w.cal with paSum := u.cal.paSum } ∧
      Frame [.dpd, .cal, .grants, .rf] [key 0x4004 (n + 1), key 0x4103 (n + 1), key 0x4105 (n + 1)] w u) ∧
  (∀ (t : Tick) (n : Nat) (nmse gain : Int) (chat : List (Int × Int)) (a : DpdAtt) (l : Int) (s : State), n < 96 →
    ((s.upTo t).dp n).att = some a → a.captured = true → ((s.upTo t).dp n).led = some l →
    l + ((s.upTo t).a 0x4000 4 : Int) < clampI (-600) 32767 nmse →
    Completes (.dpdSolveDone t n nmse gain chat) t s fun w u =>
      u.dp n = { w.dp n with
        att := none, led := none,
        pend := some ⟨(w.dp n).ledBank, true, a.fconv, a.lo, a.tileLo, clampI (-600) 32767 nmse⟩ } ∧
      (∀ m, m ≠ n → u.dp m = w.dp m) ∧ u.cal = { w.cal with paSum := u.cal.paSum } ∧ u.oi 0x4103 (n + 1) = clampI (-600) 32767 nmse ∧
      u.oi 0x4105 (n + 1) = satI 16 gain ∧
      u.o 0x4110 4 = (w.o 0x4110 4 + 1) % 2 ^ 32 ∧ u.raised Al.dpdRollback n = true ∧ u.granted .dcCore a.core = false ∧
      Frame (.dpd :: .cal :: .grants :: .rf :: logParts) (key 0x4103 (n + 1) :: key 0x4105 (n + 1) :: key 0x4110 4 :: logKeys) w u) ∧
  (∀ (t : Tick) (n : Nat) (s : State), n < 96 → (s.upTo t).dpdMode n = 2 →
    ((s.upTo t).dp n).mark + (s.upTo t).a 0x4000 1 * tMs ≤ (s.upTo t).now → ((s.upTo t).dp n).att = none →
    Completes (.dpdPeriodLate t n) t s fun w u =>
      u.o 0x4110 5 = (w.o 0x4110 5 + 1) % 2 ^ 32 ∧ u.dp n = { w.dp n with mark := w.now } ∧ (∀ m, m ≠ n → u.dp m = w.dp m) ∧
      Frame [.dpd] [key 0x4110 5] w u) ∧
  (∀ (t : Tick) (n : Nat) (s : State), n < 96 → (s.upTo t).dpdMode n = 2 → (s.upTo t).a 0x4000 2 < (s.upTo t).coefAge n →
    ((s.upTo t).dp n).stale = false →
    Completes (.dpdStaleAgeExpiry t n) t s fun w u =>
      u.dp n = { w.dp n with stale := true } ∧ (∀ m, m ≠ n → u.dp m = w.dp m) ∧ u.raised Al.dpdStale n = true ∧
      Frame (.dpd :: logParts) logKeys w u) ∧
  (∀ (t : Tick) (core : Nat) (s : State),
    Completes (.dcEccError t core false) t s fun w u =>
      u.o 0x4300 4 = (w.o 0x4300 4 + 1) % 2 ^ 32 ∧ Frame [] [key 0x4300 4] w u) ∧
  (∀ (t : Tick) (core n : Nat) (a : DpdAtt) (s : State), n < 96 → ((s.upTo t).dp n).att = some a → a.core = core →
    (∀ m, m < 96 → m ≠ n → ∀ b, ((s.upTo t).dp m).att = some b → b.core ≠ core) → (s.upTo t).holder (oxOf n) ≠ n % 12 →
    MemOk s →
    Completes (.dcEccError t core true) t s fun w u =>
      u.o 0x4300 5 = (w.o 0x4300 5 + 1) % 2 ^ 32 ∧ u.o 0x4110 3 = (w.o 0x4110 3 + 1) % 2 ^ 32 ∧ u.raised Al.dcEcc 0 = true ∧
      u.dp n = { w.dp n with att := none } ∧ (∀ m, m ≠ n → u.dp m = w.dp m) ∧ u.granted .dcCore core = false ∧
      (∀ j, j < 16384 → u.rd8 (0x40010000 + core * 0x20000 + j) = Config.dcProgram w.sec.run.measure j % 256) ∧
      (∀ b, (b < 0x40010000 + core * 0x20000 ∨ 0x40014000 + core * 0x20000 ≤ b) → u.rd8 b = w.rd8 b) ∧
      Frame (.dpd :: .grants :: .rf :: .mem :: .dma :: logParts) (key 0x4300 5 :: key 0x4110 3 :: logKeys) w u) ∧
  (∀ (t : Tick) (core : Nat) (s : State), (∀ m, m < 96 → ∀ b, ((s.upTo t).dp m).att = some b → b.core ≠ core) → MemOk s →
    Completes (.dcEccError t core true) t s fun w u =>
      u.o 0x4300 5 = (w.o 0x4300 5 + 1) % 2 ^ 32 ∧ u.raised Al.dcEcc 0 = true ∧
      u.o 0x4420 5 = w.counted 0x4420 5 (w.cal.made.filter (fun m => decide (m.2.2 = some core))).length ∧
      u.cal = { w.cal with made := w.cal.made.filter (fun m => decide (m.2.2 ≠ some core)) } ∧
      (∀ c, c ≠ core → u.granted .dcCore c = w.granted .dcCore c) ∧ (∀ n, u.dp n = w.dp n) ∧ (∀ x, u.ox x = w.ox x) ∧
      (∀ j, j < 16384 → u.rd8 (0x40010000 + core * 0x20000 + j) = Config.dcProgram w.sec.run.measure j % 256) ∧
      (∀ b, (b < 0x40010000 + core * 0x20000 ∨ 0x40014000 + core * 0x20000 ≤ b) → u.rd8 b = w.rd8 b) ∧
      Frame (.dpd :: .cal :: .grants :: .rf :: .mem :: .dma :: logParts) (key 0x4300 5 :: key 0x4420 5 :: logKeys) w u)

/-- R139, R203 to R206: the arbiter of an observation receiver: a request joins the queue, the grant goes to the first in order, the
capture starts after the settle; a grant ends with the drop of its request, or is taken back. -/
def Obligations.ObservationArbiter : Prop :=
  (∀ (t : Tick) (x i code lo : Nat) (a : DpdAtt) (s : State), x < 8 → i < 12 → ((s.upTo t).dp (12 * x + i)).att = some a →
    a.captured = false → (s.upTo t).orxOn x = true → (s.upTo t).runUsable (12 * x + i) = true → (s.upTo t).holder x ≠ i →
    ((s.upTo t).ox x).queue.any (fun q => q.who == i) = false → (∀ q, q ∈ ((s.upTo t).ox x).queue → q.who < 14) →
    Completes (.orxRequest t x i ⟨code, lo⟩) t s fun w u =>
      (∃ q, q ∈ (u.ox x).queue ∧ q.who = i ∧ q.code = i ∧ q.since = w.now ∧ q.lo = none) ∧
      (u.ox x).queue.length = (w.ox x).queue.length + 1 ∧ u.ox x = { w.ox x with queue := (u.ox x).queue } ∧
      (∀ y, y ≠ x → u.ox y = w.ox y) ∧ (∀ n, u.dp n = w.dp n) ∧ Frame [.dpd] [] w u) ∧
  (∀ (t : Tick) (x who code lo : Nat) (s : State), x < 8 → who = 12 ∨ who = 13 → code < 15 → (s.upTo t).orxOn x = true →
    (s.upTo t).holder x ≠ who → ((s.upTo t).ox x).queue.any (fun q => q.who == who) = false →
    (∀ q, q ∈ ((s.upTo t).ox x).queue → q.who < 14) →
    Completes (.orxRequest t x who ⟨code, lo⟩) t s fun w u =>
      (∃ q, q ∈ (u.ox x).queue ∧ q.who = who ∧ q.code = code ∧ q.since = w.now ∧
        q.lo = if code < 12 then none else some (lo % 4)) ∧
      (u.ox x).queue.length = (w.ox x).queue.length + 1 ∧ u.ox x = { w.ox x with queue := (u.ox x).queue } ∧
      (∀ y, y ≠ x → u.ox y = w.ox y) ∧ (∀ n, u.dp n = w.dp n) ∧ Frame [.dpd] [] w u) ∧
  (∀ (t : Tick) (x : Nat) (r : OrxReq) (l : List OrxReq) (s : State), x < 8 → (s.upTo t).holder x = 15 → (s.upTo t).orxOn x = true →
    (s.upTo t).grantOrder ((s.upTo t).ox x).queue = r :: l → ((s.upTo t).ox x).freeAt ≤ (s.upTo t).now → r.who < 14 →
    Completes (.orxGrant t x) t s fun w u =>
      u.holder x = r.who ∧ u.lock x = ⟨orxOwner x r.who, if r.who < 12 then none else some (w.now + w.a 0x4200 0x0A * tUs)⟩ ∧
      (∀ n, n ≠ x → u.lock n = w.lock n) ∧ (u.ox x).sel = r.code ∧ (u.ox x).at_ = w.now ∧
      (u.ox x).limit = w.a 0x4200 (x + 1) * tUs ∧ (u.ox x).settled = none ∧
      (u.ox x).freeAt = w.now + w.settleEnd x r.code r.lo ∧ (u.ox x).lo = r.lo ∧ (u.ox x).limited = none ∧
      (∀ q, q ∈ (u.ox x).queue → q.who ≠ r.who) ∧
      (∀ y, y ≠ x → u.ox y = w.ox y) ∧ (∀ n, u.dp n = w.dp n) ∧
      Frame [.dpd, .locks] [key 0x4210 (x + 1), key 0x4215 (x + 1)] w u) ∧
  (∀ (t : Tick) (x who : Nat) (s : State), x < 8 → who = 12 ∨ who = 13 → (s.upTo t).holder x = who →
    ((s.upTo t).ox x).settled = none → ((s.upTo t).ox x).freeAt ≤ (s.upTo t).now →
    Completes (.orxSettleDone t x) t s fun w u =>
      u.ox x = { w.ox x with settled := some w.now } ∧ (∀ y, y ≠ x → u.ox y = w.ox y) ∧ (∀ n, u.dp n = w.dp n) ∧
      u.lock x = ⟨orxOwner x who, some (w.now + w.a 0x4200 0x0A * tUs)⟩ ∧ (∀ n, n ≠ x → u.lock n = w.lock n) ∧
      Frame [.dpd, .locks] [] w u) ∧
  (∀ (t : Tick) (x i : Nat) (a : DpdAtt) (s : State), x < 8 → i < 12 → (s.upTo t).holder x = i →
    ((s.upTo t).ox x).settled = none → ((s.upTo t).ox x).freeAt ≤ (s.upTo t).now → ((s.upTo t).dp (12 * x + i)).att = some a →
    Completes (.orxSettleDone t x) t s fun w u =>
      u.ox x = { w.ox x with settled := some w.now } ∧ (∀ y, y ≠ x → u.ox y = w.ox y) ∧
      u.dp (12 * x + i) = { w.dp (12 * x + i) with
        att := some { a with
          fconv := w.o 0x2420 6, lo := w.loKhz (12 * x + i), tileLo := w.a 0x2410 (tileOf (12 * x + i) + 1) } } ∧
      (∀ m, m ≠ 12 * x + i → u.dp m = w.dp m) ∧ Frame [.dpd] [] w u) ∧
  (∀ (t : Tick) (x : Nat) (x0 : Tick) (s : State), x < 8 → (s.upTo t).holder x < 14 → ((s.upTo t).ox x).settled = some x0 →
    Completes (.orxDrop t x) t s fun w u =>
      u.holder x = 15 ∧ u.lock x = lockFree ∧ (∀ n, n ≠ x → u.lock n = w.lock n) ∧ u.o 0x4211 (x + 1) = (w.o 0x4211 (x + 1) + 1) % 2 ^ 32 ∧
      (u.ox x).settled = none ∧ (u.ox x).freeAt = w.arbAfter w.now 1 ∧ (u.ox x).sel = (w.ox x).sel ∧
      u.cal = { w.cal with sel := smSet none w.cal.sel (1024 + x) w.cal.trim } ∧
      (∀ y, y ≠ x → u.ox y = w.ox y) ∧ (∀ n, u.dp n = w.dp n) ∧
      Frame [.dpd, .locks, .cal] [key 0x4210 (x + 1), key 0x4211 (x + 1)] w u) ∧
  (∀ (t : Tick) (x who : Nat) (s : State), x < 8 → (s.upTo t).holder x = 15 →
    ((s.upTo t).ox x).limited = some (who, (s.upTo t).arbCycle (s.upTo t).now) →
    Completes (.orxDrop t x) t s fun w u =>
      u.o 0x4213 (x + 1) = (w.o 0x4213 (x + 1) + (2 ^ 32 - 1)) % 2 ^ 32 ∧ u.ox x = { w.ox x with limited := none } ∧
      (∀ y, y ≠ x → u.ox y = w.ox y) ∧ (∀ n, u.dp n = w.dp n) ∧ Frame [.dpd] [key 0x4213 (x + 1)] w u) ∧
  (∀ (t : Tick) (x : Nat) (s : State), x < 8 → (s.upTo t).holder x < 14 → ((s.upTo t).ox x).settled = none →
    Completes (.orxWithdraw t x) t s fun w u =>
      u.holder x = 15 ∧ u.lock x = lockFree ∧ (∀ n, n ≠ x → u.lock n = w.lock n) ∧ u.o 0x4212 (x + 1) = (w.o 0x4212 (x + 1) + 1) % 2 ^ 32 ∧
      (u.ox x).freeAt = w.arbAfter w.now 2 ∧ (∀ y, y ≠ x → u.ox y = w.ox y) ∧ (∀ n, u.dp n = w.dp n) ∧
      u.cal = { w.cal with sel := smSet none w.cal.sel (1024 + x) w.cal.trim } ∧
      Frame [.dpd, .locks, .cal] [key 0x4210 (x + 1), key 0x4212 (x + 1)] w u) ∧
  (∀ (t : Tick) (x : Nat) (s : State), x < 8 → (s.upTo t).holder x < 12 →
    ((s.upTo t).ox x).at_ + ((s.upTo t).ox x).limit ≤ (s.upTo t).now →
    Completes (.orxBurstLimitExpiry t x) t s fun w u =>
      u.holder x = 15 ∧ u.lock x = lockFree ∧ (∀ n, n ≠ x → u.lock n = w.lock n) ∧
      u.o 0x4213 (x + 1) = (w.o 0x4213 (x + 1) + 1) % 2 ^ 32 ∧ u.o 0x4211 (x + 1) = (w.o 0x4211 (x + 1) + 1) % 2 ^ 32 ∧
      (u.ox x).settled = none ∧ (u.ox x).limited = some (w.holder x, w.arbCycle w.now) ∧
      (∀ y, y ≠ x → u.ox y = w.ox y) ∧ (∀ n, u.dp n = w.dp n) ∧ u.cal = { w.cal with sel := smSet none w.cal.sel (1024 + x) w.cal.trim } ∧
      Frame [.dpd, .locks, .cal] [key 0x4210 (x + 1), key 0x4211 (x + 1), key 0x4213 (x + 1)] w u) ∧
  (∀ (t : Tick) (x : Nat) (e : Tick) (s : State), x < 8 → (s.upTo t).holder x = 13 → ((s.upTo t).lock x).leaseEnd = some e →
    e < (s.upTo t).now →
    Completes (.orxLeaseExpiry t x) t s fun w u =>
      u.holder x = 15 ∧ u.lock x = lockFree ∧ (∀ n, n ≠ x → u.lock n = w.lock n) ∧ (u.ox x).sel = 15 ∧
      (u.ox x).lo = none ∧ u.cal = { w.cal with sel := smSet none w.cal.sel (1024 + x) w.cal.trim } ∧
      u.o 0x4214 (x + 1) = (w.o 0x4214 (x + 1) + 1) % 2 ^ 32 ∧ u.o 0x4211 (x + 1) = (w.o 0x4211 (x + 1) + 1) % 2 ^ 32 ∧
      u.o 0x1013 (x + 1) = (w.o 0x1013 (x + 1) + 1) % 2 ^ 32 ∧ u.raised Al.orxLease x = true ∧
      Frame (.dpd :: .locks :: .cal :: logParts)
        (key 0x4210 (x + 1) :: key 0x4211 (x + 1) :: key 0x4214 (x + 1) :: key 0x1013 (x + 1) :: logKeys) w u) ∧
  (∀ (t : Tick) (x : Nat) (s : State), x < 8 → (s.upTo t).holder x = 12 ∨ (s.upTo t).holder x = 13 → ((s.upTo t).ox x).long = false →
    ((s.upTo t).ox x).at_ + (s.upTo t).a 0x4200 9 * tUs < (s.upTo t).now →
    Completes (.orxPrivWdExpiry t x) t s fun w u =>
      u.ox x = { w.ox x with long := true } ∧ (∀ y, y ≠ x → u.ox y = w.ox y) ∧ (∀ n, u.dp n = w.dp n) ∧
      u.raised Al.orxPrivLong x = true ∧ Frame (.dpd :: logParts) logKeys w u)

/-! ### Calibration and ageing (chapter 09) -/

/-- R215 to R218, R224, R227, R229: REXT; a start-up step; an assay of a bench slot goes to a core, its result is accepted or rejected;
the store takes the oldest write. R107, R132, R230, R231: filters that stay old for 60 s, results that grow too old, and a bench slot
asked for by command. -/
def Obligations.Calibration : Prop :=
  (∀ (t : Tick) (d : Int) (s : State), d.natAbs ≤ 200 →
    Completes (.rextMeasure t d) t s fun w u =>
      u.oi 0x4400 0x0C = d ∧ u.o 0x4400 0x0B = 1 ∧
      u.cal = { w.cal with rextAt := w.now, trim := some d, storeQ := w.cal.storeQ ++ [(rextKey, packInts [d])] } ∧
      u.raised Al.rextFault 0 = false ∧ Frame (.cal :: logParts) (key 0x4400 0x0C :: key 0x4400 0x0B :: logKeys) w u) ∧
  (∀ (t : Tick) (d : Int) (s : State), 200 < d.natAbs → -32768 ≤ d → d ≤ 32767 →
    Completes (.rextMeasure t d) t s fun w u =>
      u.oi 0x4400 0x0C = d ∧ u.o 0x4400 0x0B = 2 ∧ u.cal = { w.cal with rextAt := w.now } ∧
      u.raised Al.rextFault 0 = true ∧ Frame (.cal :: logParts) (key 0x4400 0x0C :: key 0x4400 0x0B :: logKeys) w u) ∧
  (∀ (t : Tick) (x : Tick) (m : List (Nat × Nat × List Int)) (s : State), (s.upTo t).cal.step = 1 → (s.upTo t).cal.stepAt = some x →
    (s.upTo t).power.brief = false → ((s.upTo t).release .bench 0).fits noCost (costOn rCore 3) = true →
    (s.upTo t).raised Al.calStartFail 0 = true →
    Completes (.startCalStepDone t m) t s fun w u =>
      u.cal = { w.cal with step := 2, stepAt := some w.now, spent := w.cal.spent + (w.now - x), sel := u.cal.sel } ∧
      (∀ n, n < 96 → smGet none u.cal.sel (256 + n) = w.cal.trim ∧ smGet none u.cal.sel (768 + n) = w.cal.trim) ∧
      (∀ n, n < 32 → smGet none u.cal.sel (512 + n) = w.cal.trim) ∧ (∀ n, n < 8 → smGet none u.cal.sel (1024 + n) = w.cal.trim) ∧
      smGet none u.cal.sel 1280 = w.cal.trim ∧
      (∀ p x, p < 3 → x < 8 → smGet none u.cal.sel (1536 + 8 * p + x) = smGet none w.cal.sel (1536 + 8 * p + x)) ∧
      u.costOf .bench 0 = costOn rCore 3 ∧ Frame [.cal, .grants, .rf] [] w u) ∧
  (∀ (t : Tick) (x : Tick) (n : Nat) (o g k o' g' k' : Int) (s : State), n < 96 → (s.upTo t).cal.step = 4 →
    (s.upTo t).cal.stepAt = some x → (s.upTo t).power.brief = false → (∀ p, p < 96 → (s.upTo t).pathOn p = false) →
    o.natAbs ≤ 16 → g.natAbs ≤ 300 → k.natAbs ≤ 5 → o'.natAbs ≤ 16 → g'.natAbs ≤ 300 → k'.natAbs ≤ 5 →
    ((s.upTo t).release .bench 0).fits noCost (costOn rCore 3) = true →
    Completes (.startCalStepDone t [(n, 1, [o, g, k, o', g', k'])]) t s fun w u =>
      u.o 0x2112 (n + 1) = nextSpare (w.o 0x2112 (n + 1)) ∧ u.hadAssay n 1 = true ∧ bit (u.o 0x4411 (n + 1)) 1 = false ∧
      u.cal.step = 5 ∧ u.cal.stepAt = some w.now ∧
      Frame (.cal :: .grants :: .rf :: logParts) (key 0x2112 (n + 1) :: key 0x4411 (n + 1) :: logKeys) w u) ∧
  (∀ (t : Tick) (n c : Nat) (b : Bench) (s : State), n < 96 → (s.upTo t).cal.bench = some b → b.running = true → n ∈ b.paths →
    smGet 0 (s.upTo t).cal.prog (2 * n + 1) = 0 → (s.upTo t).loReady ((s.upTo t).rxLo (s.upTo t).time_ (tileOf n)) = true →
    (List.range 24).find? (fun c => decide ((s.upTo t).a 0x4000 5 ≤ c) && !(s.upTo t).granted .dcCore c) = some c →
    (s.upTo t).domOn Dom.dc = true → (s.upTo t).fits ((s.upTo t).costOf .dcCore c) coreCost = true →
    (s.upTo t).assayRan b n 1 0 = true → MemOk s →
    Completes (.assayDone t n 1) t s fun w u =>
      u.cal = { w.cal with
        prog := smSet 0 w.cal.prog (2 * n + 1) 1, progAt := smSet 0 w.cal.progAt (2 * n + 1) (w.now + 1),
        made := w.cal.made ++ [(n, 1, some c)] } ∧
      u.costOf .dcCore c = coreCost ∧ smFind u.dpd.coreAt c = some w.now ∧
      (c ∉ w.dpd.reload → ∀ b, u.rd8 b = w.rd8 b) ∧
      (c ∈ w.dpd.reload → (∀ j, j < 16384 → u.rd8 (0x40010000 + c * 0x20000 + j) = Config.dcProgram w.sec.run.measure j % 256) ∧
        (∀ b, (b < 0x40010000 + c * 0x20000 ∨ 0x40014000 + c * 0x20000 ≤ b) → u.rd8 b = w.rd8 b)) ∧
      u.dpd.reload = w.dpd.reload.filter (fun k => k != c) ∧
      Frame [.cal, .dpd, .grants, .rf, .mem, .dma] [] w u) ∧
  (∀ (t : Tick) (n : Nat) (b : Bench) (s : State), n < 96 → (s.upTo t).cal.bench = some b → b.running = true → n ∈ b.paths →
    smGet 0 (s.upTo t).cal.prog (2 * n + 1) = 0 → (s.upTo t).loReady ((s.upTo t).rxLo (s.upTo t).time_ (tileOf n)) = false →
    Completes (.assayDone t n 1) t s fun w u =>
      u.cal = { w.cal with
        prog := smSet 0 w.cal.prog (2 * n + 1) 1, progAt := smSet 0 w.cal.progAt (2 * n + 1) (w.now + 1) } ∧
        u.o 0x4420 5 = (w.o 0x4420 5 + 1) % 2 ^ 32 ∧
      Frame [.cal] [key 0x4420 5] w u) ∧
  (∀ (t : Tick) (n a c : Nat) (z : Int) (l : List Int) (s : State), n < 96 → a = 2 ∨ a = 3 ∨ a = 4 →
    (s.upTo t).cal.made = [(n, a, some c)] → (s.upTo t).cpLost = false → z ≤ (if a = 2 then -600 else -500) →
    Completes (.assayResultReady t n a (z :: l)) t s fun w u =>
      u.cal = { w.cal with
        made := [], ready := w.cal.ready.filter (fun r => !(r.path == n && r.assay == a)) ++ [⟨n, a, l⟩] } ∧
      u.granted .dcCore c = false ∧ bit (u.o 0x4410 (n + 1)) a = false ∧ Frame [.cal, .dpd, .grants, .rf] [key 0x4410 (n + 1)] w u) ∧
  (∀ (t : Tick) (n a c : Nat) (z : Int) (l : List Int) (s : State), n < 96 → a = 2 ∨ a = 3 ∨ a = 4 →
    (s.upTo t).cal.made = [(n, a, some c)] → (s.upTo t).cpLost = false → (if a = 2 then -600 else -500) < z →
    n ∉ (s.upTo t).cal.alarmed →
    Completes (.assayResultReady t n a (z :: l)) t s fun w u =>
      u.cal = { w.cal with made := [], alarmed := w.cal.alarmed ++ [n] } ∧ u.o 0x4420 4 = (w.o 0x4420 4 + 1) % 2 ^ 32 ∧
      u.granted .dcCore c = false ∧ bit (u.o 0x4410 (n + 1)) a = true ∧ u.raised Al.calReject n = true ∧
      Frame (.cal :: .dpd :: .grants :: .rf :: logParts) (key 0x4410 (n + 1) :: key 0x4420 4 :: logKeys) w u) ∧
  (∀ (t : Tick) (k v : Nat) (l : List (Nat × Nat)) (s : State), (s.upTo t).cal.storeQ = (k, v) :: l →
    Completes (.calStoreWrite t) t s fun w u =>
      u.cal = { w.cal with storeQ := l, store := smSet 0 w.cal.store k v } ∧ Frame [.cal] [] w u) ∧
  (∀ (t : Tick) (x : Tick) (s : State), (s.upTo t).dl.chfSince = some x → x + 60 * tSec ≤ (s.upTo t).now →
    (s.upTo t).raised Al.chfPending 0 = false →
    Completes (.chfPendingTimeout t) t s fun w u => u.raised Al.chfPending 0 = true ∧ Frame logParts logKeys w u) ∧
  (∀ (t : Tick) (x : Tick) (s : State), (s.upTo t).ul.chfSince = some x → x + 60 * tSec ≤ (s.upTo t).now →
    (s.upTo t).raised Al.ulChfPending 0 = false →
    Completes (.ulChfPendingTimeout t) t s fun w u => u.raised Al.ulChfPending 0 = true ∧ Frame logParts logKeys w u) ∧
  (∀ (t : Tick) (r : Req) (v : Nat) (s : State), v < 96 → Reaches (s.upTo t) r 0x4400 8 (objBytes 0x4400 8 v) v →
    (s.upTo t).a 0x4400 1 ≠ 0 → (s.upTo t).pathOn v = true →
    Completes (.calBenchNow t r v) t s fun w u =>
      u.cal = { w.cal with demand := w.cal.demand ++ [v] } ∧ Answered w u r 2 (objWord 0x4400 8) 0 [] ∧
      Frame (.cal :: writeParts) [] w u) ∧
  (∀ (t : Tick) (r : Req) (v : Nat) (s : State), Reaches (s.upTo t) r 0x4400 8 (objBytes 0x4400 8 v) v →
    (s.upTo t).a 0x4400 1 = 0 ∨ 95 < v ∨ (s.upTo t).pathOn v = false →
    Completes (.calBenchNow t r v) t s fun w u =>
      Answered w u r 2 (objWord 0x4400 8) (if w.a 0x4400 1 = 0 then 0x4F else 0x17) [] ∧ Frame writeParts [] w u) ∧
  (∀ (t : Tick) (n a : Nat) (x : Tick) (s : State), n < 96 → a < 6 → smGet 0 (s.upTo t).cal.resAt (8 * n + a) = x + 1 →
    x + (s.upTo t).a 0x4400 6 * tSec < (s.upTo t).now → (s.upTo t).o 0x4411 (n + 1) = 0 →
    Completes (.calOverdueExpiry t n) t s fun w u =>
      bit (u.o 0x4411 (n + 1)) a = true ∧ u.raised Al.calOverdue n = true ∧
      u.cal = { w.cal with overSince := smInsert w.cal.overSince n (w.now + 1) } ∧
      Frame (.cal :: logParts) (key 0x4411 (n + 1) :: logKeys) w u)

/-- R233 to R237: the ageing monitors and their worst, the hourly record, and the daily gain of the amplifiers. -/
def Obligations.Ageing : Prop :=
  (∀ (t : Tick) (c : List (Nat × Nat)) (m : Nat) (s : State), m < 36 → (c.getD m (0, 0)).1 ≠ 0 →
    (monDoms m).all (s.upTo t).domOn = true →
    Completes (.ageMeasure t c) t s fun w u =>
      smGet [] u.cal.ageHist m =
        (smGet [] w.cal.ageHist m ++
        [divHEi ((((c.getD m (0, 0)).1 : Int) - ((c.getD m (0, 0)).2 : Int)) * 1000000) (c.getD m (0, 0)).1]).drop
          ((smGet [] w.cal.ageHist m).length + 1 - 16) ∧
      u.o 0x4801 (m + 1) = ofInt 32 (meanHE (smGet [] u.cal.ageHist m)) ∧
      (∀ j, j < 36 → (monDoms j).all w.domOn = false → u.o 0x4801 (j + 1) = w.o 0x4801 (j + 1)) ∧
      u.o 0x4800 5 < 36 ∧ (∀ j, j < 36 → u.oi 0x4801 (j + 1) ≤ u.oi 0x4801 (u.o 0x4800 5 + 1)) ∧
      u.o 0x4800 4 = (u.oi 0x4801 (u.o 0x4800 5 + 1)).toNat ∧
      Frame [.cal] (key 0x4800 4 :: key 0x4800 5 :: laneKeys 0x6107 ++ (List.range 36).map (fun j => key 0x4801 (j + 1))) w u) ∧
  (∀ (t : Tick) (s : State),
    Completes (.ageHourly t) t s fun w u =>
      u.o 0x4800 7 = (w.o 0x4800 7 + 1) % 2 ^ 32 ∧ u.o 0x4800 6 = yearsLeft (u.o 0x4800 7) (w.o 0x4800 4) (w.a 0x4800 9) ∧
      (∀ k, k ∈ [4, 5, 6, 7, 8] → (key 0x4800 k, u.o 0x4800 k + 1) ∈ u.cal.storeQ) ∧ (∀ x, x ∈ w.cal.storeQ → x ∈ u.cal.storeQ) ∧
      u.cal = { w.cal with storeQ := u.cal.storeQ, tjSum := u.cal.tjSum, tjN := u.cal.tjN } ∧
      Frame [.cal] [key 0x4800 6, key 0x4800 7, key 0x4800 8] w u) ∧
  (∀ (t : Tick) (n : Nat) (x : Int × Nat) (s : State), n < 96 → (s.upTo t).dpdMode n = 2 →
    smGet ((0, 0) : Int × Nat) (s.upTo t).cal.paSum n = x →
    x.2 ≠ 0 → (daysOf (s.upTo t).cal.paDays n).length < 29 →
    Completes (.paGainDaily t) t s fun w u =>
      daysOf u.cal.paDays n = daysOf w.cal.paDays n ++ [divHEi x.1 x.2] ∧
      daysOf u.cal.paFirst n = (daysOf w.cal.paFirst n ++ [divHEi x.1 x.2]).take 30 ∧ u.o 0x4802 (n + 1) = 0 ∧
      (∀ m, m < 96 → w.dpdMode m ≠ 2 → u.o 0x4802 (m + 1) = 0 ∧ daysOf u.cal.paDays m = daysOf w.cal.paDays m) ∧
      u.cal = { w.cal with
        paDays := u.cal.paDays, paFirst := u.cal.paFirst, paSum := u.cal.paSum, paAlarmed := u.cal.paAlarmed
        storeQ := u.cal.storeQ } ∧ (∀ x, x ∈ w.cal.storeQ → x ∈ u.cal.storeQ) ∧
      Frame (.cal :: logParts) ((List.range 96).map (fun m => key 0x4802 (m + 1)) ++ logKeys) w u)

/-- R385: an AVS step (R234) is a request for base cost 0 on VDD_CORE, judged at the new A. If it fits the step is taken, and no
grant is booked for it; if it does not fit it is refused and the step is not taken. -/
def Obligations.AvsStepIsALedgerRequest : Prop :=
  (∀ (t : Tick) (s : State), (s.upTo t).a 0x4800 1 ≠ 0 →
    (s.upTo t).o 0x4800 2 < min 18 (avsWant ((s.upTo t).o 0x4800 4)) → (∀ x, (s.upTo t).cal.avsAt = some x → x + 20 * tMs ≤ (s.upTo t).now) →
    bookedOf ((s.upTo t).base rCore) ((s.upTo t).factorAt ((s.upTo t).o 0x4800 2 + 1) rCore) ≤ (s.upTo t).cap rCore →
    Completes (.avsStep t) t s fun w u =>
      u.o 0x4800 2 = w.o 0x4800 2 + 1 ∧ u.o 0x4800 3 = 900 + 5 * (w.o 0x4800 2 + 1) ∧ u.start = { w.start with vid := w.o 0x4800 2 + 1 } ∧
      u.cal = { w.cal with
        avsAt := some w.now, avsRefused := none, storeQ := w.cal.storeQ ++ [(key 0x4800 2, w.o 0x4800 2 + 2)] } ∧
      u.raised Al.ageMargin 0 = false ∧ u.raised Al.avsMax 0 = decide (18 < avsWant (w.o 0x4800 4)) ∧
      Frame (.cal :: .start :: logParts) (key 0x4800 2 :: key 0x4800 3 :: logKeys) w u) ∧
  (∀ (t : Tick) (s : State), (s.upTo t).a 0x4800 1 ≠ 0 →
    (s.upTo t).o 0x4800 2 < min 18 (avsWant ((s.upTo t).o 0x4800 4)) → (∀ x, (s.upTo t).cal.avsAt = some x → x + 20 * tMs ≤ (s.upTo t).now) →
    (s.upTo t).cap rCore < bookedOf ((s.upTo t).base rCore) ((s.upTo t).factorAt ((s.upTo t).o 0x4800 2 + 1) rCore) →
    Completes (.avsStep t) t s fun w u =>
      u.o 0x4800 0x0B = (w.o 0x4800 0x0B + 1) % 2 ^ 32 ∧ u.o 0x5005 (Dom.ao + 1) = (w.o 0x5005 (Dom.ao + 1) + 1) % 2 ^ 32 ∧
      u.cal = { w.cal with avsRefused := some (w.cal.avsRefused.getD w.now) } ∧
      Frame (.cal :: logParts) (key 0x4800 0x0B :: key 0x5005 (Dom.ao + 1) :: logKeys) w u)
/-! ### Packets, flow control and flush (chapter 10) -/

/-- R243, R246 to R251, R255, Table 10-18: a management request that passes every link check joins the queue, a K symbol inside a packet
discards it and is counted, and a packet that may start leaves and holds the wire for its columns and those interposed; a response frees
its tag, and so does its timeout; a response in the very cycle of the timeout is taken, a later one is counted. -/
def Obligations.PacketsPassAPort : Prop :=
  (∀ (t : Tick) (p : Nat) (l : List Nat) (stamp : Int) (k : Pkt) (s : State), p < 3 → (s.upTo t).active p = true →
    (s.upTo t).linkChecks p l true = (some k, s.upTo t) → k.cls = Cls.m → k.resp = false → k.dest = (s.upTo t).addr → k.dest ≠ 0 →
    smGet 0 ((s.upTo t).port p).lastSeq (comboKey k) = 0 → k.stream % 128 ≤ 95 →
    (∀ m, m ∈ (s.upTo t).mq ++ (s.upTo t).inService → ¬ (m.req.kind = 2 ∧ m.req.id = k.src ∧ m.req.tag = k.stream % 128)) →
    (s.upTo t).full p k = false →
    Completes (.packetReceive t p l true stamp) t s fun w u =>
      u.mq = w.mq ++ [mReqOf (reqOf p k false) w.now false k.payload] ∧
      smGet 0 (u.port p).lastSeq (comboKey k) = k.seq + 1 ∧ u.o (0x6010 + p) 1 = (w.o (0x6010 + p) 1 + 1) % 2 ^ 32 ∧
      Frame [.mq, .ports] ([key (0x6010 + p) 1, key 0x6010 0x0B, key 0x6011 0x0B, key 0x6012 0x0B] ++ fcKeys) w u) ∧
  (∀ (t : Tick) (p : Nat) (e : EgItem) (s : State), p < 3 → (s.upTo t).active p = true →
    ((s.upTo t).port p).busyUntil ≤ (s.upTo t).time_ → ((s.upTo t).port p).pendReplay = [] → ((s.upTo t).port p).egress = [e] →
    e.own = true → e.pkt.cls ≠ Cls.t → (s.upTo t).mayStart p e.pkt = true →
    Completes (.egressPacketStart t p) t s fun w u =>
      (u.port p).egress = [] ∧
      (u.port p).lastTx = some { e.pkt with
        seq := (smGet 0 (w.port p).txSeq (comboKey e.pkt) - 1) % 65536, first := decide (smGet 0 (w.port p).txSeq (comboKey e.pkt) = 0) } ∧
      (∃ n : Nat, (u.port p).busyUntil = w.time_ + (w.wireTime p (w.txWidth p) e.pkt.payload.length : Int) +
          ((n * colTicks (w.o (0x6000 + p) 6) : Nat) : Int) ∧ ((u.port p).outCtl = (w.port p).outCtl → n = 0)) ∧
      Frame [.ports] fcKeys w u) ∧
  (∀ (t : Tick) (p : Nat) (l : List Nat) (eop : Bool) (stamp : Int) (s : State), p < 3 → (s.upTo t).active p = true →
    l.filter (fun b => decide (256 ≤ b)) ≠ [] →
    Completes (.packetReceive t p l eop stamp) t s fun w u =>
      u.o (0x6010 + p) 2 = w.counted (0x6010 + p) 2 (l.filter (fun b => decide (256 ≤ b))).length ∧
      (Al.linkErr, p) ∈ u.slotAlarms ∧ Frame [.slotAlarms] [key (0x6010 + p) 2] w u) ∧
  (∀ (t : Tick) (p : Nat) (k : Pkt) (m : MTag) (s : State), k.cls = Cls.m → k.resp = true →
    (s.upTo t).mTags.find? (answers k) = some m →
    Completes (.mResponseReceive t p k) t s fun w u =>
      u.mTags = w.mTags.filter (fun x => decide (x ≠ m)) ∧
      u.lhp.out = (if m.lhp = true then w.lhp.out ++ [lhpFrame 2 k.prio m.tag k.src k.payload] else w.lhp.out) ∧
      Frame [.mTags, .lhp] [] w u) ∧
  (∀ (t : Tick) (p : Nat) (k : Pkt) (s : State), k.cls = Cls.m → k.resp = true → p < 3 →
    (s.upTo t).mTags.find? (answers k) = none → (s.upTo t).freedNow = [] →
    Completes (.mResponseReceive t p k) t s fun w u =>
      u.o (0x6010 + p) 0x12 = (w.o (0x6010 + p) 0x12 + 1) % 2 ^ 32 ∧ Frame [] [key (0x6010 + p) 0x12] w u) ∧
  (∀ (t : Tick) (p : Nat) (k : Pkt) (x : MTag × Nat) (s : State), k.cls = Cls.m → k.resp = true → p < 3 →
    (s.upTo t).mTags.find? (answers k) = none → (s.upTo t).freedNow.find? (fun x => answers k x.1) = some x →
    Completes (.mResponseReceive t p k) t s fun w u =>
      u.lhp.out = (if x.1.lhp = true then w.lhp.out ++ [lhpFrame 2 k.prio x.1.tag k.src k.payload] else w.lhp.out) ∧
      u.mTags = w.mTags ∧ x ∉ u.hier.freed ∧ Frame [.hier, .lhp] [] w u) ∧
  (∀ (t : Tick) (tag : Nat) (s : State),
    Completes (.mTimeout t tag) t s fun w u =>
      u.mTags = w.mTags.filter (fun m => decide (¬ (m.tag = tag ∧ m.left + w.a 0x6220 1 * tMs ≤ w.now))) ∧
      (∀ m, m ∈ w.mTags → m ∉ u.mTags → (m, w.now) ∈ u.hier.freed) ∧ u.hier = { w.hier with freed := u.hier.freed } ∧
      Frame [.mTags, .hier] [] w u)

/-- R252, R253, Table 10-11: an XOFF holds its class and counts, one that repeats it prolongs the hold, an XON and the timeout end it;
the receiver repeats its XOFF; a hold that outlasts FC_STALL raises FC_STALL once. R257, R259, Table 10-15: a flush inside a packet
waits for the packet's end; one outside acts at once: the forwarded copies it names go from every egress queue and FLU_RX counts;
a child egress that carried the class and has nothing queued gets the FLU at once; copies whose window has closed are discarded and
counted. -/
def Obligations.FlowControlFlushAndDiscard : Prop :=
  (∀ (t : Tick) (p c k : Nat) (s : State), p < 3 → fcIndex c = some k → (s.upTo t).active p = true →
    (smGet FcState.init ((s.upTo t).port p).tx k).held = false →
    Completes (.fcXoffReceive t p c 0xF0) t s fun w u =>
      smGet FcState.init (u.port p).tx k = ⟨true, w.now, w.now, false⟩ ∧
      (∀ j, j ≠ k → smGet FcState.init (u.port p).tx j = smGet FcState.init (w.port p).tx j) ∧
      u.port p = { w.port p with tx := (u.port p).tx } ∧ (∀ q, q ≠ p → u.port q = w.port q) ∧
      u.o (0x6200 + p) 9 = (w.o (0x6200 + p) 9 + 1) % 2 ^ 32 ∧ Frame [.ports] [key (0x6200 + p) 9] w u) ∧
  (∀ (t : Tick) (p c k : Nat) (s : State), p < 3 → fcIndex c = some k → (s.upTo t).active p = true →
    (smGet FcState.init ((s.upTo t).port p).tx k).held = true →
    Completes (.fcXoffReceive t p c 0xF0) t s fun w u =>
      smGet FcState.init (u.port p).tx k = { smGet FcState.init (w.port p).tx k with last := w.now } ∧
      (∀ q, q ≠ p → u.port q = w.port q) ∧ Frame [.ports] [] w u) ∧
  (∀ (t : Tick) (p c k : Nat) (s : State), p < 3 → fcIndex c = some k →
    Completes (.fcXonReceive t p c 0x0F) t s fun w u =>
      smGet FcState.init (u.port p).tx k = FcState.init ∧
      (∀ j, j ≠ k → smGet FcState.init (u.port p).tx j = smGet FcState.init (w.port p).tx j) ∧
      u.port p = { w.port p with tx := (u.port p).tx } ∧ (∀ q, q ≠ p → u.port q = w.port q) ∧ Frame [.ports] [] w u) ∧
  (∀ (t : Tick) (p k : Nat) (s : State), p < 3 → k < 3 → (s.upTo t).active p = true →
    (smGet FcState.init ((s.upTo t).port p).rx k).held = true →
    (smGet FcState.init ((s.upTo t).port p).rx k).last + 10 * tUs ≤ (s.upTo t).now →
    1024 * (s.upTo t).a (0x6200 + p) (2 * k + 2) < (s.upTo t).fcOcc p k →
    Completes (.fcXoffRefresh t p k) t s fun w u =>
      smGet FcState.init (u.port p).rx k = { smGet FcState.init (w.port p).rx k with last := w.now } ∧
      (u.port p).outCtl = (w.port p).outCtl ++ [fcSeq k true] ∧
      u.port p = { w.port p with rx := (u.port p).rx, outCtl := (u.port p).outCtl, busyUntil := (u.port p).busyUntil } ∧
      (∀ q, q ≠ p → u.port q = w.port q) ∧ Frame [.ports] [] w u) ∧
  (∀ (t : Tick) (p k : Nat) (s : State), p < 3 → k < 3 → (s.upTo t).active p = true →
    (smGet FcState.init ((s.upTo t).port p).rx k).held = true →
    (s.upTo t).fcOcc p k ≤ 1024 * (s.upTo t).a (0x6200 + p) (2 * k + 2) →
    (s.upTo t).fcOcc p k < 1024 * (s.upTo t).a (0x6200 + p) (2 * k + 1) →
    Completes (.fcXoffRefresh t p k) t s fun w u =>
      (smGet FcState.init (u.port p).rx k).held = false ∧ (u.port p).outCtl.getLast? = some (fcSeq k false) ∧
      (∀ q, q ≠ p → u.port q = w.port q) ∧ Frame [.ports] [key (0x6200 + p) 8] w u) ∧
  (∀ (t : Tick) (p k : Nat) (s : State), p < 3 → k < 3 → (smGet FcState.init ((s.upTo t).port p).tx k).held = true →
    (smGet FcState.init ((s.upTo t).port p).tx k).last + 25 * tUs ≤ (s.upTo t).now →
    Completes (.fcHoldTimeout t p k) t s fun w u =>
      smGet FcState.init (u.port p).tx k = FcState.init ∧ u.port p = { w.port p with tx := (u.port p).tx } ∧
      (∀ q, q ≠ p → u.port q = w.port q) ∧ Frame [.ports] [] w u) ∧
  (∀ (t : Tick) (p k : Nat) (s : State), p < 3 → k < 3 → (smGet FcState.init ((s.upTo t).port p).tx k).held = true →
    (smGet FcState.init ((s.upTo t).port p).tx k).stalled = false →
    (smGet FcState.init ((s.upTo t).port p).tx k).since + (s.upTo t).a (0x6200 + p) 7 * tUs < (s.upTo t).now →
    Completes (.fcStallExpiry t p k) t s fun w u =>
      smGet FcState.init (u.port p).tx k = { smGet FcState.init (w.port p).tx k with stalled := true } ∧
      u.raised Al.fcStall p = true ∧ Frame logParts logKeys w u) ∧
  (∀ (t : Tick) (p c stream : Nat) (s : State), p < 3 → (s.upTo t).active p = true → c % 8 = Cls.c ∨ c % 8 = Cls.d →
    Completes (.fluReceive t p c stream true) t s fun w u =>
      (u.port p).flush = (w.port p).flush ++ [(c % 8, stream)] ∧ u.port p = { w.port p with flush := (u.port p).flush } ∧
      (∀ q, q ≠ p → u.port q = w.port q) ∧ Frame [.ports] [] w u) ∧
  (∀ (t : Tick) (p c stream : Nat) (s : State), p < 3 → (s.upTo t).active p = true → c % 8 = Cls.c ∨ c % 8 = Cls.d →
    (p = 0 → (s.upTo t).dl.syms = [] ∧ (s.upTo t).ul.sects = []) →
    Completes (.fluReceive t p c stream false) t s fun w u =>
      (∀ q, q < 3 → (u.port q).egress = (w.port q).egress.filter (fun e =>
        !(decide (e.inp = some p ∧ e.pkt.cls = c % 8) && fluHits stream e.pkt.stream))) ∧
      (∀ q, q = 1 ∨ q = 2 → p = 0 → w.active q = true → c % 8 ∈ (w.port q).carried → (w.port q).egress = [] →
        [0x7C, c % 8, 0] ++ bytesBE 2 stream ∈ (u.port q).outCtl) ∧
      u.o (0x6010 + p) 0x0D = (w.o (0x6010 + p) 0x0D + 1) % 2 ^ 32 ∧ Frame [.ports] (key (0x6010 + p) 0x0D :: fcKeys) w u) ∧
  (∀ (t : Tick) (p c stream : Nat) (s : State), p < 3 → ((s.upTo t).port p).flush = [(c, stream)] →
    (p = 0 → (s.upTo t).dl.syms = [] ∧ (s.upTo t).ul.sects = []) →
    Completes (.flushApply t p) t s fun w u =>
      (u.port p).flush = [] ∧
      (∀ q, q < 3 → (u.port q).egress = (w.port q).egress.filter (fun e =>
        !(decide (e.inp = some p ∧ e.pkt.cls = c) && fluHits stream e.pkt.stream))) ∧
      u.o (0x6010 + p) 0x0D = (w.o (0x6010 + p) 0x0D + 1) % 2 ^ 32 ∧ Frame [.ports] (key (0x6010 + p) 0x0D :: fcKeys) w u) ∧
  (∀ (t : Tick) (q : Nat) (s : State), q < 3 →
    Completes (.fwdWindowDiscard t q) t s fun w u =>
      (u.port q).egress = (w.port q).egress.filter (fun e => !w.expired e) ∧
      u.o (0x6010 + q) 0x0B = w.counted (0x6010 + q) 0x0B ((w.port q).egress.filter w.expired).length ∧
      Frame [.ports] (key (0x6010 + q) 0x0B :: fcKeys) w u)
/-- R240, R244, R267, R282, Table 10-2: the states of training. A port that may leave DOWN enters the deep lane state if every
lane reports LOS, and otherwise DETECT with the lanes that have credit; a lane that ends its training, COM lock, TS1 on every
trained lane, sixteen TS2 and training at the agreed rate each move it on; 2 ms in one training state bring it DOWN. -/
def Obligations.PortTraining : Prop :=
  (∀ (t : Tick) (p : Nat) (s : State), p < 3 → (s.upTo t).mayDetect p = true → (s.upTo t).allLos p = true →
    Completes (.portDetect t p) t s fun w u =>
      u.portState p = 0 ∧ (u.port p).deep = true ∧ u.o 0x5022 (portDom p + 1) = (if w.wokeNow p = true then 4 else 5) ∧
      (u.port p).deepWake = (if w.wokeNow p = true then some w.now else none) ∧ u.costOf .portBase p = portAnalogue ∧
      (∀ x, x < 8 → u.laneSt p x = 1 ∧ u.granted .lane (8 * p + x) = false) ∧ (∀ q, q ≠ p → u.port q = w.port q) ∧
      Frame [.ports, .lanes, .grants, .rf] (key 0x5022 (portDom p + 1) :: portKeys p) w u) ∧
  (∀ (t : Tick) (p : Nat) (s : State), p < 3 → (s.upTo t).mayDetect p = true → (s.upTo t).allLos p = false →
    ((s.upTo t).ask .portBase p (costAdd portDigital portAnalogue) (portDom p)).1 = true → (s.upTo t).detectLanes p ≠ 0 →
    Completes (.portDetect t p) t s fun w u =>
      u.portState p = 1 ∧ (u.port p).since = w.now ∧ (u.port p).credited = w.detectLanes p ∧ (u.port p).trained = 0 ∧
      u.granted .portBase p = true ∧
      (∀ x, x < 8 → (w.detectLanes p).testBit x = true →
        u.laneSt p x = 2 ∧ (u.lane p x).training = true ∧ u.granted .lane (8 * p + x) = true ∧
        smGet none u.cal.sel (1536 + 8 * p + x) = w.cal.trim) ∧
      u.cal = { w.cal with sel := u.cal.sel } ∧ (∀ q, q ≠ p → u.port q = w.port q) ∧
      Frame [.ports, .lanes, .grants, .rf, .cal] (key 0x5005 (portDom p + 1) :: portKeys p) w u) ∧
  (∀ (t : Tick) (p x res : Nat) (s : State), p < 3 → x < 8 → ((s.upTo t).lane p x).training = true →
    (s.upTo t).portState p = 1 → (s.upTo t).laneSt p x ≠ 6 → res = 1 ∨ res = 2 →
    Completes (.laneTrainDone t p x res) t s fun w u =>
      u.laneSt p x = 3 ∧ (u.lane p x).training = false ∧ (u.lane p x).locked = true ∧
      (u.port p).trained = withBit (w.port p).trained x true ∧
      u.o 0x6101 (laneSub p x) = (if res = 1 then w.o 0x6101 (laneSub p x) else 0xFE) ∧
      u.portState p = (if (lanesOf (w.port p).credited).all (fun y =>
        (withBit (w.port p).trained x true).testBit y || (w.port p).failedLanes.testBit y) = true then 2 else 1) ∧
      (∀ q, q ≠ p → u.port q = w.port q) ∧ Frame [.ports, .lanes] (portKeys p) w u) ∧
  (∀ (t : Tick) (p : Nat) (s : State), p < 3 → (s.upTo t).portState p = 2 →
    Completes (.portAlignDone t p) t s fun w u =>
      u.portState p = 3 ∧ (u.port p).outCtl = (w.port p).outCtl ++ (lanesOf (w.port p).trained).map (fun x =>
        lmg 1 x (w.a (0x6000 + p) 2) (w.a (0x6000 + p) 3) w.roleCode 0) ∧
      (u.port p).aligned = (w.port p).trained ∧ (u.port p).since = w.now ∧
      (∀ q, q ≠ p → u.port q = w.port q) ∧ Frame [.ports] [key (0x6000 + p) 5] w u) ∧
  (∀ (t : Tick) (p x skew : Nat) (m : List Nat) (s : State), p < 3 → (s.upTo t).portState p = 3 → m.getD 0 0 % 256 = 1 →
    ((s.upTo t).lmgTake p m).1 = true → skew ≤ 20000 →
    (lanesOf ((s.upTo t).port p).trained).all (fun y => (withBit ((s.upTo t).port p).ts1 x true).testBit y) = true →
    Completes (.lmgTs1 t p x skew m) t s fun w u =>
      u.portState p = 4 ∧ (u.port p).agreedRate = min (w.a (0x6000 + p) 2) (m.getD 2 0) ∧
      (u.port p).agreedWidth = agreedWidthOf (w.a (0x6000 + p) 3) (m.getD 3 0)
        (lanesOf ((w.port p).trained &&& withBit (w.port p).peerLanes (m.getD 1 0 % 8) true)).length ∧
      (u.port p).agreedLanes = lowLanes ((w.port p).trained &&& withBit (w.port p).peerLanes (m.getD 1 0 % 8) true)
        (u.port p).agreedWidth ∧
      (u.port p).ts2 = 0 ∧ (∀ q, q ≠ p → u.port q = w.port q) ∧ Frame [.ports] [key (0x6000 + p) 5] w u) ∧
  (∀ (t : Tick) (p x : Nat) (m : List Nat) (s : State), p < 3 → (s.upTo t).portState p = 4 → m.getD 0 0 % 256 = 2 →
    ((s.upTo t).lmgTake p m).1 = true → m.getD 2 0 = ((s.upTo t).port p).agreedRate →
    m.getD 3 0 = ((s.upTo t).port p).agreedWidth → m.getD 1 0 = x → ((s.upTo t).port p).agreedLanes.testBit x = true →
    ((s.upTo t).port p).ts2 < 15 →
    Completes (.lmgTs2 t p x m) t s fun w u =>
      (u.port p).ts2 = (w.port p).ts2 + 1 ∧
      u.port p = { w.port p with ts2 := (w.port p).ts2 + 1, lastLmg := some (m.take 7, w.now) } ∧
      (∀ q, q ≠ p → u.port q = w.port q) ∧ Frame [.ports] [] w u) ∧
  (∀ (t : Tick) (p : Nat) (s : State), p < 3 → (s.upTo t).portState p = 5 → 16 ≤ ((s.upTo t).port p).ts2 →
    (lanesOf ((s.upTo t).port p).agreedLanes).all (fun x => ((s.upTo t).port p).rateTrained.testBit x) = true →
    Completes (.portRateDone t p) t s fun w u =>
      u.port p = { w.port p with ready := true } ∧ (∀ q, q ≠ p → u.port q = w.port q) ∧ Frame [.ports] [] w u) ∧
  (∀ (t : Tick) (p : Nat) (s : State), p < 3 → 1 ≤ (s.upTo t).portState p → (s.upTo t).portState p ≤ 5 →
    ((s.upTo t).port p).since + 2 * tMs ≤ (s.upTo t).now →
    Completes (.portTrainTimeout t p) t s fun w u =>
      u.portState p = 0 ∧ (u.port p).failedAt = some w.now ∧ u.o (0x6010 + p) 0x0F = (w.o (0x6010 + p) 0x0F + 1) % 2 ^ 32 ∧
      u.granted .portBase p = false ∧ (∀ x, x < 8 → u.granted .lane (8 * p + x) = false ∧ u.laneSt p x = if w.laneSt p x = 6 then 6 else 0) ∧
      (∀ q, q ≠ p → u.port q = w.port q) ∧
      Frame [.ports, .lanes, .grants, .rf] (key 0x5022 (portDom p + 1) :: key (0x6010 + p) 0x0F :: portKeys p) w u)

/-- R261 to R266, Table 10-18: a receive lane is lost and DROP_REQ asks for its drop; the sender names the marker; the lane comes back
through RESTORE_REQ once it has run clean for 1 s; a REQ without an answer is sent again. R260, R261, R266, R244: markers. One goes out
on every ACTIVE or ready port with the counter's millisecond, and a ready port is then ACTIVE; a marker received is recorded, and one
whose count does not follow the last is counted. -/
def Obligations.LaneDropRestoreAndEpochMarkers : Prop :=
  (∀ (t : Tick) (p x reason : Nat) (s : State), p < 3 → (s.upTo t).active p = true →
    ((s.upTo t).o (0x6000 + p) 8 % 256).testBit x = true → ((s.upTo t).port p).dropRx = none → ((s.upTo t).port p).lostRx = none →
    (s.upTo t).a (0x6000 + p) 4 ≠ 0 → (s.upTo t).rxWidth p = 8 →
    Completes (.laneLost t p x reason) t s fun w u =>
      (u.port p).dropRx = some ⟨x, none, reason, true, w.o (0x6000 + p) 0x0A, w.now⟩ ∧
      (u.port p).outCtl = (w.port p).outCtl ++ [lmg 0x10 x reason (low24 (w.o (0x6000 + p) 0x0A)).1
        (low24 (w.o (0x6000 + p) 0x0A)).2.1 (low24 (w.o (0x6000 + p) 0x0A)).2.2] ∧
      u.port p = { w.port p with dropRx := (u.port p).dropRx, outCtl := (u.port p).outCtl, busyUntil := (u.port p).busyUntil } ∧
      (∀ q, q ≠ p → u.port q = w.port q) ∧ Frame [.ports] [] w u) ∧
  (∀ (t : Tick) (p : Nat) (m : List Nat) (s : State), p < 3 → (s.upTo t).active p = true → m.getD 0 0 % 256 = 0x10 →
    ((s.upTo t).lmgTake p m).1 = true → ((s.upTo t).port p).dropTx = none → ((s.upTo t).port p).lostTx = none →
    (s.upTo t).txWidth p = 8 →
    Completes (.lmgDropReq t p m) t s fun w u =>
      (u.port p).dropTx = some ⟨m.getD 1 0, some w.nameEpm, m.getD 2 0, true,
        m.getD 3 0 * 65536 + m.getD 4 0 * 256 + m.getD 5 0, w.now⟩ ∧
      (u.port p).outCtl = (w.port p).outCtl ++ [lmg 0x11 (m.getD 1 0) 0 (low24 w.nameEpm).1 (low24 w.nameEpm).2.1
        (low24 w.nameEpm).2.2] ∧
      (∀ q, q ≠ p → u.port q = w.port q) ∧ Frame [.ports] [] w u) ∧
  (∀ (t : Tick) (p : Nat) (m : List Nat) (v : Switch) (s : State), p < 3 → m.getD 0 0 % 256 = 0x11 →
    ((s.upTo t).lmgTake p m).1 = true → ((s.upTo t).port p).dropRx = some v → v.drop = true → v.lane = m.getD 1 0 →
    Completes (.lmgDropAck t p m) t s fun w u =>
      u.port p = { w.port p with dropRx := some { v with epm := some (ackEpm m) }, lastLmg := some (m.take 7, w.now) } ∧
      (∀ q, q ≠ p → u.port q = w.port q) ∧ Frame [.ports] [] w u) ∧
  (∀ (t : Tick) (p : Nat) (m : List Nat) (s : State), p < 3 → (s.upTo t).active p = true → m.getD 0 0 % 256 = 0x12 →
    ((s.upTo t).lmgTake p m).1 = true → ((s.upTo t).port p).dropTx = none → ((s.upTo t).port p).lostTx = some (m.getD 1 0) →
    ((s.upTo t).laneAsk p (m.getD 1 0) ((s.upTo t).o (0x6000 + p) 6)).1 = true →
    Completes (.lmgRestoreReq t p m) t s fun w u =>
      (u.port p).dropTx = some ⟨m.getD 1 0, some w.nameEpm, 0, false, 0, w.now⟩ ∧
      (u.port p).outCtl = (w.port p).outCtl ++ [lmg 0x13 (m.getD 1 0) 0 (low24 w.nameEpm).1 (low24 w.nameEpm).2.1
        (low24 w.nameEpm).2.2] ∧
      u.granted .lane (8 * p + m.getD 1 0) = true ∧ (∀ q, q ≠ p → u.port q = w.port q) ∧
      Frame [.ports, .grants, .rf] [] w u) ∧
  (∀ (t : Tick) (p : Nat) (m : List Nat) (v : Switch) (s : State), p < 3 → m.getD 0 0 % 256 = 0x13 →
    ((s.upTo t).lmgTake p m).1 = true → ((s.upTo t).port p).dropRx = some v → v.drop = false → v.lane = m.getD 1 0 →
    Completes (.lmgRestoreAck t p m) t s fun w u =>
      u.port p = { w.port p with dropRx := some { v with epm := some (ackEpm m) }, lastLmg := some (m.take 7, w.now) } ∧
      (∀ q, q ≠ p → u.port q = w.port q) ∧ Frame [.ports] [] w u) ∧
  (∀ (t : Tick) (p : Nat) (v : Switch) (s : State), p < 3 → ((s.upTo t).port p).dropRx = some v → v.epm = none →
    v.reqAt + 10 * tUs ≤ (s.upTo t).now →
    Completes (.lmgReqRepeat t p) t s fun w u =>
      (u.port p).dropRx = some { v with reqAt := w.now } ∧ (u.port p).outCtl.length = (w.port p).outCtl.length + 1 ∧
      u.port p = { w.port p with dropRx := (u.port p).dropRx, outCtl := (u.port p).outCtl, busyUntil := (u.port p).busyUntil } ∧
      (∀ q, q ≠ p → u.port q = w.port q) ∧ Frame [.ports] [] w u) ∧
  (∀ (t : Tick) (p x : Nat) (c : Tick) (s : State), p < 3 → (s.upTo t).active p = true → ((s.upTo t).port p).lostRx = some x →
    ((s.upTo t).lane p x).clean = some c → c + tSec ≤ (s.upTo t).now → ((s.upTo t).port p).dropRx = none →
    ((s.upTo t).laneAsk p x ((s.upTo t).o (0x6000 + p) 6)).1 = true →
    Completes (.laneRestoreReady t p x) t s fun w u =>
      (u.port p).dropRx = some ⟨x, none, 0, false, 0, w.now⟩ ∧ (u.port p).outCtl = (w.port p).outCtl ++ [lmg 0x12 x 0 0 0 0] ∧
      u.granted .lane (8 * p + x) = true ∧ (∀ q, q ≠ p → u.port q = w.port q) ∧ Frame [.ports, .grants, .rf] [] w u) ∧
  (∀ (t : Tick) (s : State), (∀ p, p < 3 → ((s.upTo t).port p).ready = false ∧ ((s.upTo t).port p).dropTx = none ∧
    ((s.upTo t).port p).lostTx = none) → (s.upTo t).ownTrim = false → (s.upTo t).clears = [] →
    Completes (.epmSend t) t s fun w u =>
      (∀ p, p < 3 → w.active p = true → (u.port p).outCtl = (w.port p).outCtl ++ [0xFB :: bytesBE 4 (epmCount w.time_)] ∧
        (u.port p).epmTx = epmCount w.time_ ∧ (u.port p).dUsed = [] ∧ (u.port p).dPrev = (w.port p).dUsed) ∧
      (∀ p, p < 3 → w.active p = false → u.port p = w.port p) ∧ Frame [.ports] [] w u) ∧
  (∀ (t : Tick) (p n : Nat) (s : State), p = 1 ∨ p = 2 → n < 2 ^ 32 → (s.upTo t).active p = true → ((s.upTo t).port p).ready = false →
    ((s.upTo t).port p).dropRx = none → ((s.upTo t).port p).epmSeen = true → n = ((s.upTo t).o (0x6000 + p) 0x0A + 1) % 2 ^ 32 →
    Completes (.epmReceive t p n) t s fun w u => u.o (0x6000 + p) 0x0A = n ∧
      u.port p = { w.port p with oRx := 0, oRxPrev := if (w.port p).lostRx = none then (w.port p).oRx else (w.port p).oRxPrev } ∧
      (∀ q, q ≠ p → u.port q = w.port q) ∧ Frame [.ports] [key (0x6000 + p) 0x0A] w u) ∧
  (∀ (t : Tick) (p n : Nat) (s : State), p = 1 ∨ p = 2 → n < 2 ^ 32 → (s.upTo t).active p = true → ((s.upTo t).port p).ready = false →
    ((s.upTo t).port p).dropRx = none → ((s.upTo t).port p).epmSeen = true → n ≠ ((s.upTo t).o (0x6000 + p) 0x0A + 1) % 2 ^ 32 →
    Completes (.epmReceive t p n) t s fun w u => u.o (0x6000 + p) 0x0A = n ∧
      u.o (0x6010 + p) 0x0E = (w.o (0x6010 + p) 0x0E + 1) % 2 ^ 32 ∧ (Al.epmMiss, p) ∈ u.slotAlarms ∧
      Frame [.ports, .slotAlarms] [key (0x6000 + p) 0x0A, key (0x6010 + p) 0x0E] w u)
/-- R272 to R275, R281 to R286, Tables 11-1 and 11-6: the detectors of a lane, the deep lane state, lane tests, injected errors,
the preset table and the pattern checker, which in a near-end loopback sees the lane's own output and the bits inverted there. -/
def Obligations.Lanes : Prop :=
  (∀ (t : Tick) (errs : List Nat) (s : State), (∀ e, e ∈ errs → e = 0) →
    (∀ i, i < 24 → listSum ((s.upTo t).lane (i / 8) (i % 8)).errWin < min ((s.upTo t).a 0x6111 1) ((s.upTo t).a 0x6111 2)) →
    (∀ i, i < 24 → listSum ((s.upTo t).lane (i / 8) (i % 8)).errWin < 65536) →
    Completes (.laneTrendUpdate t errs) t s fun w u =>
      (∀ i, i < 24 → (u.lane (i / 8) (i % 8)).errWin = (0 :: (w.lane (i / 8) (i % 8)).errWin).take 64 ∧
        u.o 0x6102 (i + 1) = listSum (u.lane (i / 8) (i % 8)).errWin) ∧ Frame [.lanes] (laneKeys 0x6102) w u) ∧
  (∀ (t : Tick) (i : Nat) (on : Bool) (s : State), i < 24 → (s.upTo t).detecting (i / 8) = false →
    Completes (.laneLos t i on) t s fun w u => u = w) ∧
  (∀ (t : Tick) (i : Nat) (s : State), i < 24 → ((s.upTo t).lane (i / 8) (i % 8)).los = false → (s.upTo t).detecting (i / 8) = true →
    (s.upTo t).active (i / 8) = false → ((s.upTo t).port (i / 8)).dropRx = none →
    Completes (.laneLos t i true) t s fun w u =>
      u.lane (i / 8) (i % 8) = { w.lane (i / 8) (i % 8) with los := true } ∧
      u.o 0x6104 (i + 1) = (w.o 0x6104 (i + 1) + 1) % 2 ^ 32 ∧
      (∀ p x, x < 8 → 8 * p + x ≠ i → u.lane p x = w.lane p x) ∧ Frame [.lanes] [key 0x6104 (i + 1)] w u) ∧
  (∀ (t : Tick) (i : Nat) (s : State), i < 24 → (s.upTo t).active (i / 8) = false →
    Completes (.laneLossOfLock t i) t s fun w u =>
      u.lane (i / 8) (i % 8) = { w.lane (i / 8) (i % 8) with locked := false } ∧
      u.o 0x6105 (i + 1) = (w.o 0x6105 (i + 1) + 1) % 2 ^ 32 ∧
      (∀ p x, x < 8 → 8 * p + x ≠ i → u.lane p x = w.lane p x) ∧ Frame [.lanes] [key 0x6105 (i + 1)] w u) ∧
  (∀ (t : Tick) (p : Nat) (s : State), p < 3 → (s.upTo t).mayDetect p = true → (s.upTo t).allLos p = true →
    ((s.upTo t).port p).deep = false →
    (∀ h, (s.upTo t).power.hand = some h → h.started = false ∨ h.dormant = false) →
    Completes (.portDeepEnter t p) t s fun w u =>
      u.portState p = 0 ∧ (u.port p).deep = true ∧ u.o 0x5022 (portDom p + 1) = (if w.wokeNow p = true then 4 else 5) ∧
      (u.port p).deepWake = (if w.wokeNow p = true then some w.now else none) ∧ u.costOf .portBase p = portAnalogue ∧
      (∀ q, q ≠ p → u.port q = w.port q) ∧
      Frame [.ports, .lanes, .grants, .rf] (key 0x5022 (portDom p + 1) :: portKeys p) w u) ∧
  (∀ (t : Tick) (p : Nat) (x : Tick) (s : State), p < 3 → ((s.upTo t).port p).deepWake = some x → x + 80 * tUs ≤ (s.upTo t).now →
    bit ((s.upTo t).o 0x2420 8) 7 = false → ((s.upTo t).ask .portBase p (costAdd portDigital portAnalogue) (portDom p)).1 = true →
    (s.upTo t).detectLanes p ≠ 0 →
    Completes (.laneDeepExitDone t p) t s fun w u =>
      u.portState p = 1 ∧ (u.port p).deep = false ∧ (u.port p).deepWake = none ∧ u.o 0x5022 (portDom p + 1) = 1 ∧
      (u.port p).credited = w.detectLanes p ∧ (∀ q, q ≠ p → u.port q = w.port q) ∧ u.cal = { w.cal with sel := u.cal.sel } ∧
      Frame [.ports, .lanes, .grants, .rf, .cal] (key 0x5022 (portDom p + 1) :: key 0x5005 (portDom p + 1) :: portKeys p) w u) ∧
  (∀ (t : Tick) (r : Req) (i v : Nat) (s : State), i < 24 → Reaches (s.upTo t) r 0x6120 (i + 1) (objBytes 0x6120 1 v) v →
    (s.upTo t).a (0x6000 + i / 8) 1 = 0 → ((s.upTo t).port (i / 8)).deep = false → bits v 29 3 ≠ 0 →
    bits v 29 3 ≤ 4 → bits v 26 3 ≤ 4 → bits v 24 2 ≠ 3 →
    Completes (.laneTest t r i v) t s fun w u =>
      u.o 0x6120 (i + 1) = v / 2 ^ 22 * 2 ^ 22 ∧ u.laneSt (i / 8) (i % 8) = 6 ∧ (u.lane (i / 8) (i % 8)).training = true ∧
      (u.lane (i / 8) (i % 8)).sync = false ∧ (u.lane (i / 8) (i % 8)).looped = 0 ∧
      (∀ p x, x < 8 → 8 * p + x ≠ i → u.lane p x = w.lane p x) ∧ u.cal = { w.cal with sel := smSet none w.cal.sel (1536 + i) w.cal.trim } ∧
      Frame (.lanes :: .cal :: writeParts) [key 0x6120 (i + 1), key 0x6100 (i + 1), key 0x6101 (i + 1)] w u) ∧
  (∀ (t : Tick) (r : Req) (i v : Nat) (s : State), i < 24 → Reaches (s.upTo t) r 0x6120 (i + 1) (objBytes 0x6120 1 v) v →
    (s.upTo t).a (0x6000 + i / 8) 1 ≠ 0 →
    Completes (.laneTest t r i v) t s fun w u => u.lanes = w.lanes ∧ Frame writeParts [] w u) ∧
  (∀ (t : Tick) (r : Req) (i v : Nat) (s : State), i < 24 → Reaches (s.upTo t) r 0x6120 (i + 1) (objBytes 0x6120 1 v) v →
    (s.upTo t).a (0x6000 + i / 8) 1 = 0 → ((s.upTo t).port (i / 8)).deep = false →
    4 < bits v 29 3 ∨ 4 < bits v 26 3 ∨ bits v 24 2 = 3 →
    Completes (.laneTest t r i v) t s fun w u => Answered w u r 2 (objWord 0x6120 (i + 1)) 0x16 [] ∧ Frame writeParts [] w u) ∧
  (∀ (t : Tick) (r : Req) (i v : Nat) (s : State), i < 24 → Reaches (s.upTo t) r 0x6124 (i + 1) (objBytes 0x6124 1 v) v →
    Completes (.laneInject t r i v) t s fun w u =>
      u.lane (i / 8) (i % 8) = { w.lane (i / 8) (i % 8) with
        inject := v
        looped := if (w.laneIn (i / 8) (i % 8)).isSome then (w.lane (i / 8) (i % 8)).looped + v
          else (w.lane (i / 8) (i % 8)).looped } ∧
      (∀ p x, x < 8 → 8 * p + x ≠ i → u.lane p x = w.lane p x) ∧ Frame (.lanes :: writeParts) [] w u) ∧
  (∀ (t : Tick) (r : Req) (v : Nat) (s : State), Reaches (s.upTo t) r 0x6110 1 (objBytes 0x6110 1 v) v →
    (List.range 32).any (presetBad v) = false →
    Completes (.lanePresets t r v) t s fun w u =>
      u.o 0x6110 1 = v &&& presetMask ∧ (∀ i, i < 24 → u.o 0x6107 (i + 1) = 0) ∧ Frame writeParts (key 0x6110 1 :: laneKeys 0x6107) w u) ∧
  (∀ (t : Tick) (i n errs : Nat) (s : State), i < 24 → (s.upTo t).laneSt (i / 8) (i % 8) = 6 →
    bit ((s.upTo t).o 0x6120 (i + 1)) 22 = true → ((s.upTo t).lane (i / 8) (i % 8)).sync = true →
    Completes (.prbsCheckerSync t i false n errs) t s fun w u =>
      (u.lane (i / 8) (i % 8)) = { w.lane (i / 8) (i % 8) with sync := false, looped := 0 } ∧
      u.o 0x6121 (i + 1) = w.counted 0x6121 (i + 1) n ∧
      u.o 0x6122 (i + 1) = w.counted 0x6122 (i + 1) (max errs (w.lane (i / 8) (i % 8)).looped) ∧
      u.o 0x6123 (i + 1) = (w.o 0x6123 (i + 1) + 1) % 2 ^ 32 ∧ (∀ p x, x < 8 → 8 * p + x ≠ i → u.lane p x = w.lane p x) ∧
      Frame [.lanes] [key 0x6121 (i + 1), key 0x6122 (i + 1), key 0x6123 (i + 1)] w u) ∧
  (∀ (t : Tick) (i n errs : Nat) (s : State), i < 24 → (s.upTo t).laneSt (i / 8) (i % 8) = 6 →
    bit ((s.upTo t).o 0x6120 (i + 1)) 22 = true → ((s.upTo t).lane (i / 8) (i % 8)).sync = false →
    Completes (.prbsCheckerSync t i true n errs) t s fun w u =>
      (u.lane (i / 8) (i % 8)) = { w.lane (i / 8) (i % 8) with
        sync := decide (w.laneIn (i / 8) (i % 8) ≠ some .idle ∧ w.laneIn (i / 8) (i % 8) ≠ some .training ∧
          w.laneIn (i / 8) (i % 8) ≠ some .recovered)
        looped := 0 } ∧
      (∀ p x, x < 8 → 8 * p + x ≠ i → u.lane p x = w.lane p x) ∧ Frame [.lanes] [] w u)


/-! ### Network time (chapter 12) -/

/-- R307 to R309: an edge of a pulse output, leading and trailing, a captured edge, a stamp that is read, a time alarm armed,
a time alarm that falls due. -/
def Obligations.PulsesCapturesAlarms : Prop :=
  (∀ (t : Tick) (n : Nat) (s : State), n < 4 → (s.upTo t).a (0x1230 + n) 1 ≠ 0 →
    (smGet Tpo.init (s.upTo t).time.tpo n).done = false → (smGet Tpo.init (s.upTo t).time.tpo n).trailing = false →
    (s.upTo t).tpoLead n (smGet Tpo.init (s.upTo t).time.tpo n).k ≤ (s.upTo t).time_ →
    (smGet Tpo.init (s.upTo t).time.tpo n).from_ ≤ (s.upTo t).tpoLead n (smGet Tpo.init (s.upTo t).time.tpo n).k →
    ((s.upTo t).a (0x1230 + n) 6 = 1 → (s.upTo t).timeLocked = true) →
    Completes (.tpoEdge t n) t s fun w u =>
      smGet Tpo.init u.time.tpo n = { smGet Tpo.init w.time.tpo n with high := true, trailing := true } ∧
      u.time = { w.time with tpo := u.time.tpo } ∧ (∀ m, m ≠ n → smGet Tpo.init u.time.tpo m = smGet Tpo.init w.time.tpo m) ∧
      Frame [.time] [] w u) ∧
  (∀ (t : Tick) (n : Nat) (s : State), n < 4 → (s.upTo t).a (0x1230 + n) 1 ≠ 0 →
    (smGet Tpo.init (s.upTo t).time.tpo n).done = false → (smGet Tpo.init (s.upTo t).time.tpo n).trailing = true →
    (s.upTo t).tpoLead n (smGet Tpo.init (s.upTo t).time.tpo n).k + ((s.upTo t).a (0x1230 + n) 4 * (tNs / 2) : Nat) ≤
      (s.upTo t).time_ →
    Completes (.tpoEdge t n) t s fun w u =>
      smGet Tpo.init u.time.tpo n = { smGet Tpo.init w.time.tpo n with
        high := false, trailing := false, k := (smGet Tpo.init w.time.tpo n).k + 1, done := decide (w.a (0x1230 + n) 1 = 1) } ∧
      u.time = { w.time with tpo := u.time.tpo } ∧ (∀ m, m ≠ n → smGet Tpo.init u.time.tpo m = smGet Tpo.init w.time.tpo m) ∧
      Frame [.time] [] w u) ∧
  (∀ (t : Tick) (n : Nat) (falling : Bool) (s : State), n < 2 →
    bit ((s.upTo t).a (0x1238 + n) 1) (if falling then 1 else 0) = true → ((s.upTo t).tci n).q.length < 16 →
    (∀ x, ((s.upTo t).tci n).lastAt = some x → x + tUs ≤ (s.upTo t).now) →
    Completes (.tciEdge t n falling) t s fun w u =>
      (u.tci n).q = (w.tci n).q ++ [(((w.now : Int) + (if w.time.stepped.any (fun x => decide (x.1 = w.now)) = true then
        (w.time.stepped.getD (0, 0)).2 else w.timeBase)) / ((tNs / 2 : Nat) : Int) * 32768, b2n falling)] ∧
      (u.tci n).lastAt = some w.now ∧ u.o (0x1238 + n) 3 = (w.tci n).q.length + 1 ∧ (∀ m, m ≠ n → u.tci m = w.tci m) ∧
      u.time = { w.time with tci := u.time.tci } ∧ Frame [.time] [key (0x1238 + n) 3] w u) ∧
  (∀ (t : Tick) (r : Req) (n : Nat) (x : Int × Nat) (l : List (Int × Nat)) (s : State), n < 2 → (s.upTo t).cpLost = false →
    (s.upTo t).cpAbsent = none → (s.upTo t).recovery = false → ((s.upTo t).tci n).q = x :: l → l.length < 16 → x.2 ≤ 1 →
    Completes (.tciStamp t r n) t s fun w u =>
      (u.tci n).q = l ∧ u.o (0x1238 + n) 3 = l.length ∧ u.o (0x1238 + n) 5 = x.2 ∧ (∀ m, m ≠ n → u.tci m = w.tci m) ∧
      Frame [.time, .locks, .inService, .lhp, .ports] [key (0x1238 + n) 3, key (0x1238 + n) 5] w u) ∧
  (∀ (t : Tick) (r : Req) (n v : Nat) (s : State), n < 4 → Reaches (s.upTo t) r 0x123C (n + 1) (objBytes 0x123C 1 v) v →
    (s.upTo t).time_ < ofTime96 v →
    Completes (.timeAlarm t r n v) t s fun w u =>
      smGet none u.time.alarms n = some (ofTime96 v) ∧ u.time = { w.time with alarms := u.time.alarms } ∧
      (∀ m, m ≠ n → smGet none u.time.alarms m = smGet none w.time.alarms m) ∧
      Frame [.time, .locks, .inService, .lhp, .ports] [] w u) ∧
  (∀ (t : Tick) (n : Nat) (T : Int) (s : State), n < 4 → smGet none (s.upTo t).time.alarms n = some T → T ≤ (s.upTo t).time_ →
    bit ((s.upTo t).o 0x5020 6) 2 = false →
    Completes (.talarm t n) t s fun w u =>
      smGet none u.time.alarms n = none ∧ u.time = { w.time with alarms := u.time.alarms } ∧
      (∀ m, m ≠ n → smGet none u.time.alarms m = smGet none w.time.alarms m) ∧
      (∀ c, c < 16 → u.o (0x9001 + c) 0x0B =
        if w.o (0x9001 + c) 3 = 0x11 + n ∧ w.o (0x9001 + c) 0x0B < 255 then w.o (0x9001 + c) 0x0B + 1 else w.o (0x9001 + c) 0x0B) ∧
      Frame [.time] trigKeys w u)

/-- R296, R297, R299: the messages the device sends. Sync goes once in 1/128 s on a child port; Delay_Req closes the device's part of
an exchange; Delay_Resp answers a child and takes its lock and its delay; Announce goes once a second. R298 to R301, R306, R327: the
messages the device receives on port U. A Sync opens an exchange, and takes the lock away unless its sender is locked and counts from
the same epoch; a Follow_Up completes its Sync; a Delay_Resp completes the exchange, whose offset and delay TIME_OFFSET and MEAN_DELAY
give; an Announce gives a worker or manager its depth. -/
def Obligations.TimeMessages : Prop :=
  (∀ (t : Tick) (p : Nat) (s : State), p = 1 ∨ p = 2 → (s.upTo t).active p = true →
    smGet 0 (s.upTo t).time.sent p ≠ (((s.upTo t).time_ - if p = 2 then ((syncPeriod / 2 : Nat) : Int) else 0) / (syncPeriod : Int)).toNat + 1 →
    Completes (.syncSend t p) t s fun w u =>
      (∃ k, (u.port p).egress = (w.port p).egress ++ [k] ∧ k.own = true ∧ k.pkt.cls = Cls.t ∧ k.pkt.stream = syncT * 4096 ∧
        k.pkt.seq = smGet 0 w.time.seqs (16 * p + syncT) % 65536) ∧
      smGet 0 u.time.seqs (16 * p + syncT) = (smGet 0 w.time.seqs (16 * p + syncT) + 1) % 65536 ∧
      (∀ q, q ≠ p → u.port q = w.port q) ∧ u.time = { w.time with sent := u.time.sent, seqs := u.time.seqs } ∧
      Frame [.ports, .time] [] w u) ∧
  (∀ (t : Tick) (e : Exchange) (s : State), (s.upTo t).time.exch = some e → e.reqSeq = none → e.at_ + 2 * tMs ≤ (s.upTo t).now →
    (s.upTo t).active 0 = true → (s.upTo t).ownSource = false →
    Completes (.delayReqSend t) t s fun w u =>
      u.time.exch = some { e with reqSeq := some (smGet 0 w.time.seqs delayReqT) } ∧
      (∃ k, (u.port 0).egress = (w.port 0).egress ++ [k] ∧ k.pkt.cls = Cls.t ∧ k.pkt.stream = delayReqT * 4096) ∧
      (∀ q, q ≠ 0 → u.port q = w.port q) ∧ u.time = { w.time with exch := u.time.exch, seqs := u.time.seqs } ∧
      Frame [.ports, .time] [] w u) ∧
  (∀ (t : Tick) (p : Nat) (l : List Nat) (stamp : Int) (s : State), p = 1 ∨ p = 2 → (s.upTo t).active p = true →
    PtpGood (s.upTo t) p l delayReqT →
    Completes (.delayReqReceive t p l stamp) t s fun w u =>
      smGet false u.time.childLocked (p - 1) = bit (ptpOf l).spec 0 ∧ smGet 0 u.time.childDelay (p - 1) = bits (ptpOf l).spec 1 15 ∧
      (bit (ptpOf l).spec 0 = false → w.chState p = 1 → (u.chst p).removeNow = true) ∧
      (∃ k, (u.port p).egress.getLast? = some k ∧ k.pkt.cls = Cls.t ∧ k.pkt.stream = delayRespT * 4096 ∧
        k.pkt.seq = (ptpOf l).seq % 65536) ∧
      u.time = { w.time with childLocked := u.time.childLocked, childDelay := u.time.childDelay } ∧
      Frame (.time :: .ul :: logParts) logKeys w u) ∧
  (∀ (t : Tick) (s : State), (s.upTo t).active 1 = true → (s.upTo t).active 2 = false →
    smGet 0 (s.upTo t).time.sent 9 ≠ ((s.upTo t).time_ / (tSec : Int)).toNat + 1 →
    Completes (.announceSend t) t s fun w u =>
      (∃ k, (u.port 1).egress = (w.port 1).egress ++ [k] ∧ k.pkt.cls = Cls.t ∧ k.pkt.stream = announceT * 4096) ∧
      (∀ q, q ≠ 1 → u.port q = w.port q) ∧ smGet 0 u.time.sent 9 = (w.time_ / (tSec : Int)).toNat + 1 ∧
      u.time = { w.time with sent := u.time.sent, seqs := u.time.seqs } ∧ Frame [.ports, .time, .free] [] w u) ∧
  (∀ (t : Tick) (l : List Nat) (stamp : Int) (s : State), PtpGood (s.upTo t) 0 l syncT →
    (s.upTo t).time.lastSyncSeq ≠ some (ptpOf l).seq → (s.upTo t).time.exch = none →
    Completes (.syncReceive t l stamp) t s fun w u =>
      u.time.exch = some ⟨(ptpOf l).seq, bit (ptpOf l).spec 0 && decide (bits (ptpOf l).spec 16 16 = w.digest),
        if (ptpOf l).twoStep then none else some ((ptpOf l).time + (ptpOf l).corr), stamp, none, none, w.now⟩ ∧
      u.time.lastSync = some w.now ∧ u.time.lastSyncSeq = some (ptpOf l).seq ∧
      u.raised Al.sysOffsetMismatch 0 = decide (bits (ptpOf l).spec 16 16 ≠ w.digest) ∧
      u.timeState = (if bit (ptpOf l).spec 0 = true ∧ bits (ptpOf l).spec 16 16 = w.digest then w.timeState
        else if w.timeState = 2 ∨ w.timeState = 1 then 0 else w.timeState) ∧
      Frame (.time :: logParts) unlockKeys w u) ∧
  (∀ (t : Tick) (l : List Nat) (e : Exchange) (s : State), PtpGood (s.upTo t) 0 l followUpT → (s.upTo t).time.exch = some e →
    e.seq = (ptpOf l).seq → e.t1 = none → (s.upTo t).now ≤ e.at_ + tMs →
    Completes (.followUpReceive t l) t s fun w u =>
      u.time.exch = some { e with t1 := some ((ptpOf l).time + (ptpOf l).corr) } ∧
      u.time = { w.time with exch := u.time.exch } ∧ Frame [.time] [] w u) ∧
  (∀ (t : Tick) (l : List Nat) (e : Exchange) (t1 t3 : Int) (s : State), PtpGood (s.upTo t) 0 l delayRespT →
    (s.upTo t).time.exch = some e → e.reqSeq = some (ptpOf l).seq → (ptpOf l).rest.take 10 = portIdentity 0 →
    (s.upTo t).now ≤ e.at_ + 5 * tMs → e.t1 = some t1 → e.t3 = some t3 → e.ok = false →
    Completes (.delayRespReceive t l) t s fun w u =>
      u.oi 0x1200 0x0D = satI 32 (truncDiv ((e.t2 - t1) - ((ptpOf l).time - (ptpOf l).corr - t3)) 2 - w.asymU) ∧
      (u.o 0x1200 0x0E : Int) = clampI 0 4294967295 (truncDiv ((e.t2 - t1) + ((ptpOf l).time - (ptpOf l).corr - t3)) 2) ∧
      u.time.exch = none ∧ u.time.missed = 0 ∧ Frame [.time] [key 0x1200 0x0D, key 0x1200 0x0E] w u) ∧
  (∀ (t : Tick) (l : List Nat) (e : Exchange) (t1 t3 : Int) (s : State), PtpGood (s.upTo t) 0 l delayRespT →
    (s.upTo t).time.exch = some e → e.reqSeq = some (ptpOf l).seq → (ptpOf l).rest.take 10 = portIdentity 0 →
    (s.upTo t).now ≤ e.at_ + 5 * tMs → e.t1 = some t1 → e.t3 = some t3 → e.ok = true → (s.upTo t).tooDeep = false →
    (s.upTo t).timeState = 0 →
    Completes (.delayRespReceive t l) t s fun w u =>
      u.time_ = w.time_ - (truncDiv ((e.t2 - t1) - ((ptpOf l).time - (ptpOf l).corr - t3)) 2 - w.asymU) * (tFrac : Int) ∧
      u.timeState = 1 ∧ u.o 0x1204 1 = (w.o 0x1204 1 + 1) % 2 ^ 32 ∧ u.time.exch = none ∧ u.time.y = 0 ∧
      Frame [.time, .timeBase, .commits]
        [key 0x1200 0x0B, key 0x1200 0x0D, key 0x1200 0x0E, key 0x1200 0x0F, key 0x1204 1] w u) ∧
  (∀ (t : Tick) (l : List Nat) (s : State), PtpGood (s.upTo t) 0 l announceT → (s.upTo t).role ≠ 2 →
    ofBytesBE (((ptpOf l).rest.drop 17).take 2) < 48 →
    Completes (.announceReceive t l) t s fun w u =>
      u.o 0x1100 4 = ofBytesBE (((ptpOf l).rest.drop 17).take 2) + 1 ∧ u.o 0x1200 0x10 = ofBytesBE ((ptpOf l).rest.take 2) ∧
      u.time.parentFlags = (ptpOf l).flags ∧ u.raised Al.depthExceeded 0 = false ∧
      u.time = { w.time with parentFlags := u.time.parentFlags } ∧
      Frame (.time :: logParts) (key 0x1100 4 :: key 0x1200 0x10 :: logKeys) w u)

/-- R299, R301, R304, Table 12-3: an exchange times out and is counted as missed; the misses that TIME_MISS_MAX allows, a lost
source and the end of holdover each take the lock. -/
def Obligations.TimeLockIsLost : Prop :=
  (∀ (t : Tick) (e : Exchange) (s : State), (s.upTo t).time.exch = some e → e.at_ + 5 * tMs < (s.upTo t).now →
    (s.upTo t).timeState ≠ 2 →
    Completes (.exchangeTimeout t) t s fun w u =>
      u.o 0x1204 3 = (w.o 0x1204 3 + 1) % 2 ^ 32 ∧ u.time = { w.time with exch := none, missed := w.time.missed + 1 } ∧
      Frame [.time] [key 0x1204 3] w u) ∧
  (∀ (t : Tick) (e : Exchange) (s : State), (s.upTo t).time.exch = some e → e.at_ + 5 * tMs < (s.upTo t).now →
    (s.upTo t).timeState = 2 → (s.upTo t).a 0x1200 8 ≤ (s.upTo t).time.missed + 1 →
    Completes (.exchangeTimeout t) t s fun w u =>
      u.o 0x1204 3 = (w.o 0x1204 3 + 1) % 2 ^ 32 ∧ u.time.exch = none ∧ u.timeState = 0 ∧ u.raised Al.timeUnlock 0 = true ∧
      Frame (.time :: logParts) (key 0x1204 3 :: unlockKeys) w u) ∧
  (∀ (t x : Tick) (s : State), (s.upTo t).ownSource = false → (s.upTo t).time.lastSync = some x →
    x + (s.upTo t).a 0x1200 8 * (tSec / 128) ≤ (s.upTo t).now → (s.upTo t).timeState = 2 →
    Completes (.timeMissExpiry t) t s fun w u =>
      u.timeState = 0 ∧ u.o 0x1204 2 = (w.o 0x1204 2 + 1) % 2 ^ 32 ∧ u.raised Al.timeUnlock 0 = true ∧
      Frame (.time :: logParts) unlockKeys w u) ∧
  (∀ (t x : Tick) (s : State), (s.upTo t).ppsRoot = true → (s.upTo t).time.lastPpsAt = some x →
    x + 1100 * tMs < (s.upTo t).now → (s.upTo t).timeState = 2 →
    Completes (.rootSourceLoss t) t s fun w u =>
      u.timeState = 3 ∧ u.time.holdover = some w.now ∧ u.raised Al.rootSourceLost 0 = true ∧
      Frame (.time :: logParts) (key 0x1200 0x0B :: key 0x1200 0x0F :: key 0x1203 3 :: logKeys) w u) ∧
  (∀ (t x : Tick) (s : State), (s.upTo t).time.holdover = some x → (s.upTo t).timeState = 3 →
    (s.upTo t).a 0x1200 9 ≠ 0xFFFFFFFF → x + (s.upTo t).a 0x1200 9 * tSec + 2 * tNs ≤ (s.upTo t).now →
    Completes (.holdoverExpiry t) t s fun w u =>
      u.timeState = 0 ∧ u.time.holdover = none ∧ u.raised Al.timeUnlock 0 = true ∧ Frame (.time :: logParts) unlockKeys w u)

/-- R303: the root. A labelled pulse starts its time; a ToD frame labels the next pulse; TIME_SET steps a free-running root,
which is locked again 125 ms later. -/
def Obligations.RootTime : Prop :=
  (∀ (t : Tick) (rising : Bool) (ten : Option Int) (n : Nat) (s : State), (s.upTo t).ppsRoot = true →
    rising ≠ decide ((s.upTo t).a 0x1203 1 = 1) → (s.upTo t).time.tod = some n →
    ((s.upTo t).time.todPrev = none ∨ (s.upTo t).time.todPrev = some (n - 1) ∧ 0 < n) → (s.upTo t).timeState = 0 →
    Completes (.ppsEdge t rising ten) t s fun w u =>
      u.time_ = w.time_ - ((w.time_ / ((tNs / 2 : Nat) : Int)) * 32768 - truncDiv (w.ai 0x1203 2 * 65536) 1000 -
        (n : Int) * 65536000000000) * (tFrac : Int) ∧
      u.timeState = 1 ∧ u.o 0x1204 1 = (w.o 0x1204 1 + 1) % 2 ^ 32 ∧ u.time.lastPpsAt = some w.now ∧ u.time.tod = none ∧
      u.time.todPrev = some n ∧
      Frame [.time, .timeBase, .commits] [key 0x1200 0x0B, key 0x1200 0x0D, key 0x1200 0x0F, key 0x1203 3, key 0x1204 1] w u) ∧
  (∀ (t x : Tick) (l : List Nat) (s : State), (s.upTo t).ppsRoot = true → l.take 2 = [0xA5, 0x5A] → l.length = 12 →
    (s.upTo t).time.lastPpsAt = some x → x + 10 * tMs ≤ (s.upTo t).now → (s.upTo t).now ≤ x + 990 * tMs →
    ((l.drop 2).take 9).foldl (fun a b => a ^^^ b) 0 = l.getD 11 0 → bit (l.getD 10 0) 0 = true →
    Completes (.todFrame t l) t s fun w u =>
      u.time.tod = some (ofBytesBE ((l.drop 2).take 6)) ∧ u.o 0x1200 0x10 = ofBytesBE ((l.drop 8).take 2) ∧
      u.time = { w.time with tod := u.time.tod, parentFlags := u.time.parentFlags } ∧
      Frame [.time] [key 0x1200 0x10, key 0x1203 3] w u) ∧
  (∀ (t : Tick) (r : Req) (v : Nat) (s : State), Reaches (s.upTo t) r 0x1200 0x0A (objBytes 0x1200 0x0A v) v →
    (s.upTo t).role = 2 → (s.upTo t).a 0x1200 1 = 2 →
    Completes (.timeSet t r v) t s fun w u =>
      u.time_ = ofTime96 v ∧ u.timeState = 1 ∧ u.time.stepAt = some (w.now + 125 * tMs) ∧
      u.o 0x1204 1 = (w.o 0x1204 1 + 1) % 2 ^ 32 ∧
      Frame [.time, .timeBase, .commits, .locks, .inService, .lhp, .ports] [key 0x1200 0x0B, key 0x1204 1] w u) ∧
  (∀ (t x : Tick) (s : State), (s.upTo t).time.stepAt = some x → x ≤ (s.upTo t).now → (s.upTo t).timeState = 1 →
    (s.upTo t).role = 2 → (s.upTo t).a 0x1200 1 = 2 → (s.upTo t).pllLocked 4 = true → (s.upTo t).power.settling = false →
    Completes (.timeSetReacquire t) t s fun w u =>
      u.timeState = 2 ∧ u.raised Al.timeUnlock 0 = false ∧
      u.time = { w.time with stepAt := none, good := 0, bad := 0, missed := 0 } ∧
      Frame (.time :: logParts) (key 0x1200 0x0B :: logKeys) w u)
/-! ### The tree (chapter 13) -/

/-- R317 to R320, R331: addresses. An ACTIVE child whose SRC is still 0 is sent its CHILD_ADDR with DEST 0x00000; NODE_ADDR is set once
its answer has left, and a one-hop write is refused by a node that has an address; the alarm of a condition that has been absent for 1
s clears. R323 to R325, R328, Tables 13-4 and 13-5: what comes up and goes down the tree. A summary goes to the parent; a child's
summary fills CHILD_SUMMARY, CHILD_NODES and CHILD_DEPTH; a child's alarm record is forwarded within ALARM_RATE and dropped and counted
beyond it, or logged at the root; a queued request takes a free record, and a record that times out is answered. -/
def Obligations.TreeAddressesAndTraffic : Prop :=
  (∀ (t : Tick) (p tag : Nat) (s : State), p = 1 ∨ p = 2 → (s.upTo t).role ≠ 0 → (s.upTo t).active p = true →
    (s.upTo t).o (0x1100 + p) 2 = 0 → ((s.upTo t).port p).addrAt = none → (s.upTo t).tooDeepAuto = false →
    (s.upTo t).childAddr p ≠ 0 → (s.upTo t).freeTag = some tag →
    Completes (.addrAssign t p) t s fun w u =>
      (u.port p).egress = (w.port p).egress ++ [EgItem.mk ⟨0, Cls.m, 0, w.addr, tag, 0, false, false, false, false, false,
        bytesBE 4 (mWord0 2 0 4) ++ bytesBE 4 (objWord 0x1100 2) ++ bytesBE 4 (w.childAddr p)⟩ true none w.now none] ∧
      (u.port p).addrAt = some w.now ∧ u.mTags = w.mTags ++ [MTag.mk 0 tag 0 (mWord0 2 0 4) (objWord 0x1100 2) p w.now false] ∧
      (∀ q, q ≠ p → u.port q = w.port q) ∧ Frame [.ports, .mTags] [] w u) ∧
  (∀ (t : Tick) (r : Req) (one : Bool) (v : Nat) (s : State), Reaches (s.upTo t) r 0x1100 2 (objBytes 0x1100 2 v) v →
    (s.upTo t).recovery = false → (one = true → r.kind = 2 ∧ r.port = 0 ∧ (s.upTo t).addr = 0) →
    (one = false → (s.upTo t).hier.assigned ≠ some (s.upTo t).now) →
    Completes (.nodeAddrWrite t r one v) t s fun w u =>
      u.addr = v % 2 ^ 18 ∧ Answered w u r 2 (objWord 0x1100 2) 0 [] ∧
      u.hier = { w.hier with assigned := if one then some w.now else w.hier.assigned } ∧
      Frame (.hier :: writeParts) [key 0x1100 2] w u) ∧
  (∀ (t : Tick) (r : Req) (v : Nat) (s : State), Reaches (s.upTo t) r 0x1100 2 (objBytes 0x1100 2 v) v →
    (s.upTo t).addr ≠ 0 →
    Completes (.nodeAddrWrite t r true v) t s fun w u =>
      Answered w u r 2 (objWord 0x1100 2) 0x56 [] ∧ Frame writeParts [] w u) ∧
  (∀ (t : Tick) (r : Req) (v : Nat) (s : State), Reaches (s.upTo t) r 0x1100 2 (objBytes 0x1100 2 v) v →
    (s.upTo t).hier.assigned = some (s.upTo t).now →
    Completes (.nodeAddrWrite t r false v) t s fun w u =>
      Answered w u r 2 (objWord 0x1100 2) 0x56 [] ∧ Frame writeParts [] w u) ∧
  (∀ (t : Tick) (p : Nat) (x : Tick) (s : State), p < 3 → ((s.upTo t).port p).mismatchGone = some x → x + tSec ≤ (s.upTo t).now →
    Completes (.hierarchyAlarmClear t p) t s fun w u =>
      (u.port p).mismatchGone = none ∧ u.raised (if p = 0 then Al.roleConflict else Al.childAddrMismatch) p = false ∧
      Frame logParts logKeys w u) ∧
  (∀ (t : Tick) (s : State), (s.upTo t).classAUp = true → (s.upTo t).cpLost = false → (s.upTo t).hier.at_ = none →
    (s.upTo t).hier.sent = none →
    Completes (.summarySend t) t s fun w u =>
      u.hier = { w.hier with sent := some (w.summary, w.subtreeNodes, w.subtreeDepth), at_ := some w.now } ∧
      ((u.port 0).egress.getLast?.map (fun e => (e.pkt.cls, e.pkt.src, e.pkt.payload)) =
        some (Cls.a, w.addr, bytesBE 4 (2 * 2 ^ 30 + w.addr) ++
          bytesBE 4 (w.subtreeDepth % 64 * 2 ^ 26 + w.subtreeNodes % 2 ^ 18) ++ bytesBE 8 w.summary)) ∧
      (u.port 0).egress.length = (w.port 0).egress.length + 1 ∧ (∀ q, q ≠ 0 → u.port q = w.port q) ∧
      Frame [.hier, .free, .ports] [] w u) ∧
  (∀ (t : Tick) (p : Nat) (l : List Nat) (s : State), p = 1 ∨ p = 2 → l.length = 16 → bits (payWord l 0) 30 2 = 2 →
    (∀ b, b ∈ l → b < 256) →
    Completes (.summaryReceive t p l) t s fun w u =>
      u.o (0x1100 + p) 3 = payWord l 2 * 2 ^ 32 + payWord l 3 ∧ u.o (0x1100 + p) 4 = bits (payWord l 1) 0 18 ∧
      u.o (0x1100 + p) 5 = bits (payWord l 1) 26 6 ∧
      Frame [] [key (0x1100 + p) 3, key (0x1100 + p) 4, key (0x1100 + p) 5] w u) ∧
  (∀ (t : Tick) (p code : Nat) (l : List Nat) (s : State), p = 1 ∨ p = 2 → l.length = 16 → bits (payWord l 0) 30 2 < 2 →
    (s.upTo t).role ≠ 2 → (s.upTo t).a 0x1100 9 ≠ 0 → (s.upTo t).active 0 = true →
    ((s.upTo t).port p).recordsAt = (s.upTo t).time_ / (tMs : Int) → ((s.upTo t).port p).recordsMs < (s.upTo t).a 0x1100 0x0A →
    Completes (.alarmRecordReceive t p code l) t s fun w u =>
      (u.port 0).egress = (w.port 0).egress ++
        [EgItem.mk ⟨Config.classADest, Cls.a, 0, w.addr, code, 0, false, false, false, false, false, l⟩ true none w.now none] ∧
      (u.port p).recordsMs = (w.port p).recordsMs + 1 ∧ Frame [.ports] [] w u) ∧
  (∀ (t : Tick) (p code : Nat) (l : List Nat) (s : State), p = 1 ∨ p = 2 → l.length = 16 → bits (payWord l 0) 30 2 < 2 →
    (s.upTo t).role ≠ 2 → (s.upTo t).a 0x1100 9 ≠ 0 →
    ((s.upTo t).port p).recordsAt = (s.upTo t).time_ / (tMs : Int) → (s.upTo t).a 0x1100 0x0A ≤ ((s.upTo t).port p).recordsMs →
    Completes (.alarmRecordReceive t p code l) t s fun w u =>
      u.o 0x1100 0x0B = (w.o 0x1100 0x0B + 1) % 2 ^ 32 ∧ Frame [] [key 0x1100 0x0B] w u) ∧
  (∀ (t : Tick) (p code : Nat) (l : List Nat) (s : State), p = 1 ∨ p = 2 → l.length = 16 → bits (payWord l 0) 30 2 < 2 →
    (s.upTo t).role = 2 → (s.upTo t).o 0x6000 9 ≠ 3 →
    Completes (.alarmRecordReceive t p code l) t s fun w u =>
      u.log.getLast? = some ⟨code, bits (payWord l 0) 30 2, bits (payWord l 0) 0 18, payWord l 1, payWord l 2, payWord l 3⟩ ∧
      Frame [.log] logKeys w u) ∧
  (∀ (t : Tick) (p : Nat) (m : MReq) (l : List MReq) (s : State), p = 1 ∨ p = 2 → ((s.upTo t).port p).proxyQ = m :: l →
    ((s.upTo t).port p).proxies.length < 96 → (s.upTo t).active p = true →
    Completes (.proxyForward t p) t s fun w u =>
      (u.port p).proxyQ = l ∧ (u.port p).proxies = (w.port p).proxies ++ [⟨m.req, m.op * 2 ^ 28 + m.count, m.w1, w.now⟩] ∧
      (u.port p).egress = (w.port p).egress ++ [EgItem.mk ⟨w.childAddr p, Cls.m, m.req.prio, m.req.id, m.req.tag, 0, false, false,
        false, false, false, m.payload⟩ true none w.now none] ∧
      (∀ q, q ≠ p → u.port q = w.port q) ∧ Frame [.ports] [] w u) ∧
  (∀ (t : Tick) (p src tag : Nat) (x : ProxyRec) (s : State), p = 1 ∨ p = 2 →
    ((s.upTo t).port p).proxies.find? (fun r => decide (r.req.id = src ∧ r.req.tag = tag)) = some x →
    x.at_ + (s.upTo t).a 0x6220 1 * tMs ≤ (s.upTo t).now →
    Completes (.proxyTimeout t p src tag) t s fun w u =>
      (u.port p).proxies = (w.port p).proxies.filter (fun y => decide (y ≠ x)) ∧
      u.o 0x1100 0x0D = (w.o 0x1100 0x0D + 1) % 2 ^ 32 ∧
      (x.req.port ≠ p → Answered w u x.req (bits x.w0 28 4) x.w1 0xE5 []) ∧
      Frame [.ports, .inService, .lhp] [key 0x1100 0x0D] w u)
/-! ### Objects, staging and commit (chapter 14) -/

/-- R332 to R337: reads. An object reads as its value; a demand whose actual partner differs is answered DIFFERS with both; what the
common judgement refuses is answered with its status; while the control processor is absent a read waits, and past 30 ms it is
answered CP_ABSENT. No read of these changes
anything but the answer's way out. -/
def Obligations.ObjectReads : Prop :=
  (∀ (t : Tick) (r : Req) (i sub : Nat) (s : State), Served (s.upTo t) r → ((s.upTo t).renew r).judgeR r i sub = 0 →
    (i, sub) ∉ ownReads → hasActual i = false ∨ sub = 0 →
    Completes (.objRead t r i sub) t s fun w u =>
      Answered w u r 1 (objWord i sub) 0 (readBytes i sub ((w.renew r).view i sub)) ∧ Frame writeParts [] w u) ∧
  (∀ (t : Tick) (r : Req) (i sub : Nat) (s : State), Served (s.upTo t) r → ((s.upTo t).renew r).judgeR r i sub = 0 →
    hasActual i = true → sub ≠ 0 → ((s.upTo t).renew r).view i sub ≠ ((s.upTo t).renew r).actual i sub →
    Completes (.objRead t r i sub) t s fun w u =>
      Answered w u r 1 (objWord i sub) 1
        (readBytes i sub ((w.renew r).view i sub) ++ readBytes i sub ((w.renew r).actual i sub)) ∧ Frame writeParts [] w u) ∧
  (∀ (t : Tick) (r : Req) (i sub e : Nat) (s : State), Served (s.upTo t) r → ((s.upTo t).renew r).judgeR r i sub = e → e ≠ 0 →
    Completes (.objRead t r i sub) t s fun w u => Answered w u r 1 (objWord i sub) e [] ∧ Frame writeParts [] w u) ∧
  (∀ (t : Tick) (r : Req) (i sub : Nat) (s : State), (s.upTo t).cpLost = true →
    Completes (.objRead t r i sub) t s fun w u =>
      Answered w u r 1 (objWord i sub) 0x18 [] ∧ Frame [.inService, .lhp, .ports] [] w u) ∧
  (∀ (t : Tick) (r : Req) (i sub : Nat) (s : State), (s.upTo t).cpLost = false → (s.upTo t).cpAbsent.isSome = true →
    Completes (.objRead t r i sub) t s fun w u =>
      u.mq = w.mq ++ [⟨r, 1, objWord i sub, 0, [], w.now, false⟩] ∧ Frame [.mq] [] w u) ∧
  (∀ (t : Tick) (r : Req) (e : LogEntry) (s : State), Served (s.upTo t) r → (s.upTo t).unread ≠ 0 →
    (s.upTo t).log[(s.upTo t).log.length - (s.upTo t).unread]? = some e →
    Completes (.logRead t r) t s fun w u =>
      Answered w u r 1 (objWord 0xA000 5) 0 e.bytes ∧ u.o 0xA000 4 = (w.o 0xA000 4 + 1) % 2 ^ 32 ∧
      Frame writeParts [key 0xA000 4] w u) ∧
  (∀ (t : Tick) (r : Req) (s : State), Served (s.upTo t) r → (s.upTo t).unread = 0 →
    Completes (.logRead t r) t s fun w u =>
      Answered w u r 1 (objWord 0xA000 5) 0 (List.replicate 20 0) ∧ Frame writeParts [] w u)

/-- R334, R335, R11, R50, R343, R350: writes. An object without a rule of its own takes the value; CAP_PATH takes a path of the node and
no other; a write that the judgement refuses changes no object, and one that finds the control processor absent waits; LOG_CLEAR empties
the log; a CLEAR acts at once or waits for its boundary; the LHP's watermarks apply together or are held. -/
def Obligations.ObjectWrites : Prop :=
  (∀ (t : Tick) (r : Req) (i sub v : Nat) (s : State), (i, sub) ∈ plainObjects →
    Reaches (s.upTo t) r i sub (objBytes i sub v) v →
    Completes (.objWrite t r i sub (objBytes i sub v)) t s fun w u =>
      u.o i sub = v ∧ Answered w u r 2 (objWord i sub) 0 [] ∧ Frame writeParts [key i sub] w u) ∧
  (∀ (t : Tick) (r : Req) (b v : Nat) (s : State), b < 4 → Reaches (s.upTo t) r (0x9020 + b) 2 (objBytes (0x9020 + b) 2 v) v →
    v < 96 →
    Completes (.objWrite t r (0x9020 + b) 2 (objBytes (0x9020 + b) 2 v)) t s fun w u =>
      u.o (0x9020 + b) 2 = v ∧ Answered w u r 2 (objWord (0x9020 + b) 2) 0 [] ∧ Frame writeParts [key (0x9020 + b) 2] w u) ∧
  (∀ (t : Tick) (r : Req) (b v : Nat) (s : State), b < 4 → Reaches (s.upTo t) r (0x9020 + b) 2 (objBytes (0x9020 + b) 2 v) v →
    96 ≤ v → v < 127 →
    Completes (.objWrite t r (0x9020 + b) 2 (objBytes (0x9020 + b) 2 v)) t s fun w u =>
      Answered w u r 2 (objWord (0x9020 + b) 2) 0x17 [] ∧ Frame writeParts [] w u) ∧
  (∀ (t : Tick) (r : Req) (i sub e v : Nat) (data : List Nat) (s : State), ¬ (i = 0x5070 ∧ sub = 3) →
    Served (s.upTo t) r → ((s.upTo t).renew r).judgeW r i sub data = (e, v) → e ≠ 0 →
    Completes (.objWrite t r i sub data) t s fun w u =>
      Answered w u r 2 (objWord i sub) e [] ∧ Frame writeParts [] w u) ∧
  (∀ (t : Tick) (r : Req) (i sub v : Nat) (s : State), (i, sub) ∈ plainObjects → (s.upTo t).cpLost = false →
    (s.upTo t).cpAbsent.isSome = true →
    Completes (.objWrite t r i sub (objBytes i sub v)) t s fun w u =>
      u.mq = w.mq ++ [⟨r, 2, objWord i sub, width (key i sub), objBytes i sub v, w.now, false⟩] ∧ Frame [.mq] [] w u) ∧
  (∀ (t : Tick) (r : Req) (s : State), Reaches (s.upTo t) r 0xA000 7 (objBytes 0xA000 7 1) 1 →
    Completes (.logClear t r 1) t s fun w u =>
      u.log = [] ∧ u.o 0xA000 3 = 0 ∧ u.o 0xA000 4 = 0 ∧ u.o 0xA000 6 = 0 ∧ Answered w u r 2 (objWord 0xA000 7) 0 [] ∧
      Frame (.log :: writeParts) logKeys w u) ∧
  (∀ (t : Tick) (r : Req) (s : State), Reaches (s.upTo t) r 0x5005 0x17 (objBytes 0x5005 0x17 1) 1 →
    Completes (.counterClear t r 0x5005 1) t s fun w u =>
      (∀ d, d < 22 → u.o 0x5005 (d + 1) = 0) ∧
      Frame writeParts ((List.range 22).map (fun d => key 0x5005 (d + 1))) w u) ∧
  (∀ (t : Tick) (r : Req) (i sub : Nat) (s : State),
    i ∈ [0x1100, 0x1204, 0x2130, 0x2141, 0x2430, 0x3031, 0x3035, 0x3036, 0x3037, 0x3300, 0x4110, 0x4216, 0x4300, 0x4420, 0x6010,
      0x6011, 0x6012, 0x6111] →
    clearSub i = some sub → Reaches (s.upTo t) r i sub (objBytes i sub 1) 1 → i ∉ (s.upTo t).clears →
    Completes (.counterClear t r i 1) t s fun w u =>
      u.clears = w.clears ++ [i] ∧ Answered w u r 2 (objWord i sub) 0 [] ∧ Frame (.clears :: writeParts) [] w u) ∧
  (∀ (t : Tick) (r : Req) (v : Nat) (s : State), Reaches (s.upTo t) r 0x1020 1 (objBytes 0x1020 1 v) v →
    (s.upTo t).o 0x1020 2 < v →
    Completes (.immediateSetWrite t r 0x1020 1 v) t s fun w u =>
      u.o 0x1020 1 = v ∧ u.a 0x1020 1 = v ∧ u.a 0x1020 2 = w.o 0x1020 2 % 256 ∧ u.raised Al.cfgMismatch 0x1020 = false ∧
      (∀ i sub, i ≠ 0x1020 → u.a i sub = w.a i sub) ∧ Frame (.act :: .alarms :: .log :: writeParts) (key 0x1020 1 :: logKeys) w u) ∧
  (∀ (t : Tick) (r : Req) (v : Nat) (s : State), Reaches (s.upTo t) r 0x1020 1 (objBytes 0x1020 1 v) v →
    v ≤ (s.upTo t).o 0x1020 2 →
    Completes (.immediateSetWrite t r 0x1020 1 v) t s fun w u =>
      u.o 0x1020 1 = v ∧ u.act = w.act ∧ u.raised Al.cfgMismatch 0x1020 = true ∧
      Frame (.alarms :: .log :: writeParts) (key 0x1020 1 :: logKeys) w u)

/-- R338 to R342: the staging set and the commit. A staged write opens or joins the requester's set and renews its lease; another
requester's set is left alone; an accepted commit waits with its values and frees the set; a refused one changes nothing in force
and keeps the set; a lost lease frees the set and is counted. -/
def Obligations.StagingAndCommit : Prop :=
  (∀ (t : Tick) (r : Req) (i sub v : Nat) (s : State), isStaged i sub = true → Reaches (s.upTo t) r i sub (objBytes i sub v) v →
    ¬ ((i = 0x1101 ∨ i = 0x1102) ∧ 6 ≤ sub) → i ≠ 0x4003 → (s.upTo t).stage = none →
    Completes (.stagedWrite t r i sub v) t s fun w u =>
      u.stage = some ⟨reqWord r, [(key i sub, v)], w.now + w.o 0x1F00 8 * tMs⟩ ∧
      u.lock 27 = ⟨reqWord r, some (w.now + w.o 0x1F00 8 * tMs)⟩ ∧ Answered w u r 2 (objWord i sub) 0 [] ∧
      Frame (.stage :: writeParts) [] w u) ∧
  (∀ (t : Tick) (r : Req) (i sub v : Nat) (g : StageSet) (s : State), isStaged i sub = true →
    Reaches (s.upTo t) r i sub (objBytes i sub v) v → ¬ ((i = 0x1101 ∨ i = 0x1102) ∧ 6 ≤ sub) → i ≠ 0x4003 →
    (s.upTo t).stage = some g → g.owner = reqWord r →
    Completes (.stagedWrite t r i sub v) t s fun w u =>
      u.stage = some ⟨g.owner, smInsert g.vals (key i sub) v, w.now + w.o 0x1F00 8 * tMs⟩ ∧
      Answered w u r 2 (objWord i sub) 0 [] ∧ Frame (.stage :: writeParts) [] w u) ∧
  (∀ (t : Tick) (r : Req) (i sub v : Nat) (g : StageSet) (s : State), isStaged i sub = true →
    Reaches (s.upTo t) r i sub (objBytes i sub v) v → ¬ ((i = 0x1101 ∨ i = 0x1102) ∧ 6 ≤ sub) → i ≠ 0x4003 →
    (s.upTo t).stage = some g → g.owner ≠ reqWord r →
    Completes (.stagedWrite t r i sub v) t s fun w u =>
      Answered w u r 2 (objWord i sub) 0x20 [] ∧ Frame writeParts [] w u) ∧
  (∀ (t : Tick) (r : Req) (g : StageSet) (s : State), Reaches (s.upTo t) r 0x1F00 7 (objBytes 0x1F00 7 1) 1 →
    (s.upTo t).stage = some g → g.owner = reqWord r →
    Completes (.stageDiscard t r 1) t s fun w u =>
      u.stage = none ∧ u.lock 27 = lockFree ∧ Answered w u r 2 (objWord 0x1F00 7) 0 [] ∧ Frame (.stage :: writeParts) [] w u) ∧
  (∀ (t : Tick) (r : Req) (v : Nat) (g : StageSet) (s : State), Reaches (s.upTo t) r 0x1F00 1 (objBytes 0x1F00 1 v) v →
    (s.upTo t).stage = some g → g.owner = reqWord r → g.vals ≠ [] → (s.upTo t).commits.length < 8 →
    Completes (.commit t r v) t s fun w u =>
      u.act = w.act ∧
      ((u.o 0x1F00 6 = 0 ∧ u.stage = none ∧ u.lock 27 = lockFree ∧
          u.commits = w.commits ++ [⟨(w.instantOf v (w.withFconv g.vals)).2.1, (w.instantOf v (w.withFconv g.vals)).2.2,
            w.withFconv g.vals⟩]) ∨
        (u.o 0x1F00 6 ≠ 0 ∧ u.commits = w.commits ∧ u.stage = some { g with leaseEnd := w.now + w.o 0x1F00 8 * tMs } ∧
          Frame (.stage :: writeParts) (key 0x1F00 6 :: (List.range 22).map (fun d => key 0x5005 (d + 1))) w u))) ∧
  (∀ (t : Tick) (r : Req) (v : Nat) (g : StageSet) (s : State), Reaches (s.upTo t) r 0x1F00 1 (objBytes 0x1F00 1 v) v →
    (s.upTo t).stage = some g → g.owner = reqWord r → g.vals ≠ [] → 8 ≤ (s.upTo t).commits.length →
    Completes (.commit t r v) t s fun w u =>
      u.o 0x1F00 6 = 0x23 ∧ Answered w u r 2 (objWord 0x1F00 1) 0x23 [] ∧ Frame (.stage :: writeParts) [key 0x1F00 6] w u) ∧
  (∀ (t : Tick) (g : StageSet) (s : State), (s.upTo t).stage = some g → g.leaseEnd < (s.upTo t).now →
    Completes (.stageLeaseExpiry t) t s fun w u =>
      u.stage = none ∧ u.lock 27 = lockFree ∧ u.o 0x1F00 9 = (w.o 0x1F00 9 + 1) % 2 ^ 32 ∧
      u.o 0x1013 28 = (w.o 0x1013 28 + 1) % 2 ^ 32 ∧ u.raised Al.commitLease 0 = true ∧
      Frame (.stage :: .locks :: logParts) (key 0x1F00 9 :: key 0x1013 28 :: logKeys) w u)

/-- R345, R349, R440: what runs out. A lapsed lease of a session ends it, one of a channel at rest frees it with its alarm; an alarm
whose rule names no condition clears when ALARM_HOLD has passed. -/
def Obligations.LeasesAndHolds : Prop :=
  (∀ (t : Tick) (x : Tick) (s : State), ((s.upTo t).lock 26).leaseEnd = some x → ((s.upTo t).lock 26).owner ≠ 0 →
    x < (s.upTo t).now →
    Completes (.lockLeaseExpiry t 26) t s fun w u =>
      u.lock 26 = lockFree ∧ u.o 0x8023 2 = 0 ∧ u.o 0x1013 27 = (w.o 0x1013 27 + 1) % 2 ^ 32 ∧
      (∀ n, n ≠ 26 → u.lock n = w.lock n) ∧ Frame [.locks] [key 0x8023 2, key 0x1013 27] w u) ∧
  (∀ (t : Tick) (n : Nat) (x : Tick) (s : State), n < 16 → ((s.upTo t).lock (10 + n)).leaseEnd = some x →
    ((s.upTo t).lock (10 + n)).owner ≠ 0 → x < (s.upTo t).now → (s.upTo t).chanBusy n = false →
    Completes (.lockLeaseExpiry t (10 + n)) t s fun w u =>
      u.lock (10 + n) = lockFree ∧ u.o (0x9001 + n) 1 = 0 ∧ u.o 0x1013 (11 + n) = (w.o 0x1013 (11 + n) + 1) % 2 ^ 32 ∧
      u.raised Al.dmaLease n = true ∧ (∀ m, m ≠ 10 + n → u.lock m = w.lock m) ∧
      Frame (.locks :: logParts) (key (0x9001 + n) 1 :: key 0x1013 (11 + n) :: logKeys) w u) ∧
  (∀ (t : Tick) (code detail : Nat) (a : AlarmInst) (s : State),
    (s.upTo t).alarms.find? (fun a => decide (a.code = code ∧ a.detail = detail)) = some a → code ∉ condAlarms →
    a.since + (s.upTo t).o 0xA000 2 * tSec ≤ (s.upTo t).now →
    Completes (.alarmHoldExpiry t code detail) t s fun w u =>
      u.raised code detail = false ∧ (∀ c d, (c, d) ≠ (code, detail) → u.raised c d = w.raised c d) ∧ Frame logParts logKeys w u)

/-! ### The host ports and the device address map (chapters 14 and 15) -/

/-- R351 to R355: the local host port. A transaction takes its SPI mode from SCLK; a whole request frame with a right CRC joins the
request queue and counts; an abandoned frame is counted and reported; a response that has left makes way for the next. -/
def Obligations.LocalHostPort : Prop :=
  (∀ (t : Tick) (sclk : Bool) (s : State), (s.upTo t).power.dormant = false → (s.upTo t).power.wakeStep = 0 →
    (s.upTo t).power.hand = none →
    Completes (.lhpTransactionStart t sclk) t s fun w u =>
      u.lhp = { w.lhp with spiMode := if sclk then 3 else 0, ignore := false } ∧
      u.power = (if bit (w.o 0x5020 6) 1 = true then { w.power with fired := some w.now } else w.power) ∧
      Frame [.lhp, .power] [] w u) ∧
  (∀ (t : Tick) (prio tag node : Nat) (pay : List Nat) (s : State), (s.upTo t).lhpTakes = true → prio < 4 → tag < 64 →
    node < 2 ^ 18 → pay.length % 4 = 0 → 8 ≤ pay.length → pay.length ≤ 8192 → (s.upTo t).lhpTagUsed tag = false →
    (s.upTo t).lhpInBytes + (12 + pay.length) ≤ lhpSize →
    Completes (.lhpFrameReceive t (lhpFrame 1 prio tag node pay)) t s fun w u =>
      u.lhp.inq = w.lhp.inq ++ [LhpIn.mk node (mReqOf ⟨3, 0, 0, tag, prio, false⟩ w.now false pay) (12 + pay.length)] ∧
      u.lhp = { w.lhp with inq := u.lhp.inq, hxoff := u.lhp.hxoff } ∧
      (w.a 0x1020 1 * lhpSize ≤ 100 * (w.lhpInBytes + (12 + pay.length)) → u.lhp.hxoff = true) ∧
      u.o 0x1020 7 = (w.o 0x1020 7 + 1) % 2 ^ 32 ∧ Frame [.lhp] [key 0x1020 7] w u) ∧
  (∀ (t : Tick) (s : State), (s.upTo t).lhpTakes = true →
    Completes (.lhpFrameAbandon t) t s fun w u =>
      u.o 0x1020 6 = (w.o 0x1020 6 + 1) % 2 ^ 32 ∧ u.lhp.out.length = w.lhp.out.length + 1 ∧
      (u.lhp.out.getLast?.map (fun f => (f.drop 8).take 4)) = some [4, 0, 0, 0] ∧ u.lhp.havail = true ∧
      u.lhp = { w.lhp with out := u.lhp.out, havail := true } ∧ Frame [.lhp, .free] [key 0x1020 6] w u) ∧
  (∀ (t : Tick) (s : State),
    Completes (.lhpResponseSent t) t s fun w u =>
      u.lhp = { w.lhp with out := w.lhp.out.tail, havail := !w.lhp.out.tail.isEmpty } ∧ Frame [.lhp] [] w u)

/-- R356 to R359, Table 14-11: the refreshes of the status window. Hardware rewrites its words of groups 0 to 2 every 100 µs; the
control processor rewrites groups 8 to 127 by the map in force and counts the refresh. R364, R366, R402, R254, R256: the memory window
and the queue of requests. A read gives the words of the range; a write of memory that has no rule of its own stores its bytes and no
others; a range that may not be written is answered; errors are counted; an access to a domain that is off wakes it; the next request
in turn is executed. -/
def Obligations.StatusAndMemoryWindows : Prop :=
  (∀ (t : Tick) (s : State), (s.upTo t).start.held = 0 → (∀ x, (s.upTo t).swp.hwAt = some x → x + 100 * tUs ≤ (s.upTo t).now) →
    Completes (.swpHwRefresh t) t s fun w u =>
      u.swp.hwAt = some w.now ∧ (∀ x, x ∈ w.swpHw → smGet 0 u.swp.words x.1 = x.2) ∧
      (∀ a, a ∉ w.swpHw.map (fun x => x.1) → smGet 0 u.swp.words a = smGet 0 w.swp.words a) ∧
      u.swp = { w.swp with words := u.swp.words, hwAt := u.swp.hwAt } ∧ Frame [.swp] [] w u) ∧
  (∀ (t : Tick) (s : State), (s.upTo t).start.held = 0 → (s.upTo t).cpAbsent = none →
    (∀ x, (s.upTo t).swp.cpAt = some x → x + (s.upTo t).o 0x1021 2 * tUs ≤ (s.upTo t).now) →
    Completes (.swpRefresh t) t s fun w u =>
      u.swp.cpAt = some w.now ∧ u.swp.map = w.o 0x1021 1 ∧ smGet 0 u.swp.words 12 = (smGet 0 w.swp.words 12 + 1) % 65536 ∧
      (∀ k, k < 1800 → smGet 0 u.swp.words (16 * (8 + k / 15) + k % 15) = w.entWord (mapEntry (w.o 0x1021 1) k)) ∧
      u.swp.hwAt = w.swp.hwAt ∧ Frame [.swp] [] w u) ∧
  (∀ (t : Tick) (r : Req) (addr count : Nat) (g : Region) (s : State), Served (s.upTo t) r →
    ((s.upTo t).renew r).judgeMem ⟨r, 3, addr, count, [], (s.upTo t).now, false⟩ = (0, some g) → (s.upTo t).domOn g.dom = true →
    (s.upTo t).portHeld g = false → (s.upTo t).eccHit addr count = false → g.row ≠ 5 →
    Completes (.memRead t r addr count) t s fun w u =>
      Answered w u r 3 addr 0 ((w.mapWords addr (count / 4)).flatMap (bytesLE 4)) ∧ Frame writeParts [] w u) ∧
  (∀ (t : Tick) (r : Req) (addr count : Nat) (g : Region) (s : State), Served (s.upTo t) r →
    ((s.upTo t).renew r).judgeMem ⟨r, 3, addr, count, [], (s.upTo t).now, false⟩ = (0, some g) → (s.upTo t).domOn g.dom = true →
    (s.upTo t).portHeld g = false → (s.upTo t).eccHit addr count = true →
    Completes (.memRead t r addr count) t s fun w u => Answered w u r 3 addr 0x61 [] ∧ Frame writeParts [] w u) ∧
  (∀ (t : Tick) (r : Req) (addr : Nat) (data : List Nat) (g : Region) (s : State), Served (s.upTo t) r →
    ((s.upTo t).renew r).judgeMem ⟨r, 4, addr, data.length, data, (s.upTo t).now, false⟩ = (0, some g) → 8 ≤ g.row →
    (s.upTo t).domOn g.dom = true → (∀ b, b ∈ data → b < 256) →
    Completes (.memWrite t r addr data) t s fun w u =>
      (g.row ≠ 9 → ∀ j, j < data.length → u.rd8 (addr + j) = data.getD j 0) ∧
      (g.row = 9 → ∀ j, j < data.length →
        u.rd8 (addr + j) = ((descWords addr (wordsLE data)).flatMap (bytesLE 4)).getD j 0) ∧
      (∀ a, (a < addr ∨ addr + data.length ≤ a) → u.rd8 a = w.rd8 a) ∧ Answered w u r 4 addr 0 [] ∧
      Frame (.mem :: .dma :: writeParts) [] w u) ∧
  (∀ (t : Tick) (r : Req) (addr e : Nat) (data : List Nat) (s : State), Served (s.upTo t) r →
    ((s.upTo t).renew r).judgeMem ⟨r, 4, addr, data.length, data, (s.upTo t).now, false⟩ = (e, none) →
    Completes (.memWrite t r addr data) t s fun w u => Answered w u r 4 addr e [] ∧ Frame writeParts [] w u) ∧
  (∀ (t : Tick) (addr : Nat) (g : Region) (s : State), regionOf (addr - addr % 4) 4 = some g → (s.upTo t).domOn g.dom = true →
    g.row ≠ 8 →
    Completes (.scrubRead t addr 1) t s fun w u =>
      u.o 0x9000 2 = (w.o 0x9000 2 + 1) % 2 ^ 32 ∧ Frame [] [key 0x9000 2] w u) ∧
  (∀ (t : Tick) (addr : Nat) (g : Region) (s : State), regionOf (addr - addr % 4) 4 = some g → (s.upTo t).domOn g.dom = true →
    g.row ≠ 8 → addr - addr % 4 ∉ (s.upTo t).dma.uncorr →
    Completes (.scrubRead t addr 2) t s fun w u =>
      u.o 0x9000 3 = (w.o 0x9000 3 + 1) % 2 ^ 32 ∧ u.dma = { w.dma with uncorr := w.dma.uncorr ++ [addr - addr % 4] } ∧
      u.raised Al.memEcc g.row = true ∧ Frame (.dma :: logParts) (key 0x9000 3 :: logKeys) w u) ∧
  (∀ (t : Tick) (d : Nat) (s : State), d < 22 → (s.upTo t).domState d = 0 → (s.upTo t).power.dormant = false →
    (s.upTo t).start.vidGoal = none → ((s.upTo t).ask .dom d (domCost d) d).1 = true →
    Completes (.firstAccessWake t d) t s fun w u =>
      u.domState d = 4 ∧ u.costOf .dom d = domCost d ∧ smGet 0 u.power.waking d = w.now ∧
      u.power.stalls = w.power.stalls ++ [⟨d, w.now, none, none⟩] ∧ u.o 0x5050 4 = (w.o 0x5050 4 + 1) % 2 ^ 32 ∧
      Frame [.power, .grants, .rf] [key 0x5022 (d + 1), key 0x5050 4] w u) ∧
  (∀ (t : Tick) (m : MReq) (s : State), Served (s.upTo t) m.req → (s.upTo t).nextM = some m → (s.upTo t).nextLhp = none →
    m.op = 1 → ((s.upTo t).renew m.req).judgeR m.req (m.w1 / 65536) (m.w1 / 256 % 256) = 0 →
    (m.w1 / 65536, m.w1 / 256 % 256) ∉ ownReads → hasActual (m.w1 / 65536) = false →
    Completes (.mRequestDispatch t) t s fun w u =>
      u.mq = w.mq.erase m ∧ Answered w u m.req 1 (objWord (m.w1 / 65536) (m.w1 / 256 % 256)) 0
        (readBytes (m.w1 / 65536) (m.w1 / 256 % 256) ((w.renew m.req).view (m.w1 / 65536) (m.w1 / 256 % 256))) ∧
      Frame (.mq :: writeParts) [] w u)

/-! ### Captures and the DMA engine (chapter 15) -/

/-- R370, R372, R377, R378: a channel is claimed, released, started, stopped, rung and given its trigger by its owner alone. -/
def Obligations.ChannelCommands : Prop :=
  (∀ (t : Tick) (r : Req) (n : Nat) (s : State), n < 16 → Reaches (s.upTo t) r (chIdx9 n) 1 [1] 1 → (s.upTo t).hkOwns n = false →
    ((s.upTo t).lock (10 + n)).owner = 0 ∨ ((s.upTo t).lock (10 + n)).owner = reqWord r →
    Completes (.chClaim t r n) t s fun w u =>
      u.lock (10 + n) = ⟨reqWord r, some (w.now + w.o (chIdx9 n) 0x0D * tMs)⟩ ∧ u.o (chIdx9 n) 1 = 1 ∧
      u.ch n = { w.ch n with req := r } ∧ (∀ m, m ≠ n → u.ch m = w.ch m) ∧ Answered w u r 2 (objWord (chIdx9 n) 1) 0 [] ∧
      Frame (.dma :: writeParts) [key (chIdx9 n) 1] w u) ∧
  (∀ (t : Tick) (r : Req) (n : Nat) (s : State), n < 16 → Reaches (s.upTo t) r (chIdx9 n) 1 [1] 1 →
    (s.upTo t).hkOwns n = true ∨ ((s.upTo t).lock (10 + n)).owner ≠ 0 ∧ ((s.upTo t).lock (10 + n)).owner ≠ reqWord r →
    Completes (.chClaim t r n) t s fun w u => Answered w u r 2 (objWord (chIdx9 n) 1) 0x25 [] ∧ Frame writeParts [] w u) ∧
  (∀ (t : Tick) (r : Req) (n : Nat) (s : State), n < 16 → Reaches (s.upTo t) r (chIdx9 n) 1 [0] 0 → reqWord r ≠ 0 →
    ((s.upTo t).lock (10 + n)).owner = reqWord r → (s.upTo t).chanBusy n = false →
    Completes (.chRelease t r n) t s fun w u =>
      u.lock (10 + n) = lockFree ∧ u.o (chIdx9 n) 1 = 0 ∧ Answered w u r 2 (objWord (chIdx9 n) 1) 0 [] ∧
      Frame writeParts [key (chIdx9 n) 1] w u) ∧
  (∀ (t : Tick) (r : Req) (n v : Nat) (s : State), n < 15 → Reaches (s.upTo t) r (chIdx9 n) 6 (objBytes 0x9001 6 v) v → isDesc v = true →
    reqWord r ≠ 0 → ((s.upTo t).lock (10 + n)).owner = reqWord r → (s.upTo t).chanBusy n = false →
    (s.upTo t).fits ((s.upTo t).costOf .dmaChan n) (costOn rCore 1) = true →
    Completes (.chStart t r n v) t s fun w u =>
      u.o (chIdx9 n) 9 = 3 ∧ u.o (chIdx9 n) 0x0A = v ∧ u.costOf .dmaChan n = costOn rCore 1 ∧
      u.ch n = { w.ch n with bell := false, stop := false, fetch := true, retryAt := none } ∧ (∀ m, m ≠ n → u.ch m = w.ch m) ∧
      u.lock (10 + n) = ⟨reqWord r, some (w.now + w.o (chIdx9 n) 0x0D * tMs)⟩ ∧ Answered w u r 2 (objWord (chIdx9 n) 6) 0 [] ∧
      Frame (.dma :: .grants :: .rf :: writeParts) [key (chIdx9 n) 9, key (chIdx9 n) 0x0A] w u) ∧
  (∀ (t : Tick) (r : Req) (n v : Nat) (s : State), n < 16 → Reaches (s.upTo t) r (chIdx9 n) 6 (objBytes 0x9001 6 v) v → isDesc v = true →
    ((s.upTo t).lock (10 + n)).owner ≠ reqWord r →
    Completes (.chStart t r n v) t s fun w u => Answered w u r 2 (objWord (chIdx9 n) 6) 0x26 [] ∧ Frame writeParts [] w u) ∧
  (∀ (t : Tick) (r : Req) (n : Nat) (s : State), n < 16 → Reaches (s.upTo t) r (chIdx9 n) 7 (objBytes 0x9001 7 1) 1 → reqWord r ≠ 0 →
    ((s.upTo t).lock (10 + n)).owner = reqWord r → (s.upTo t).chanBusy n = true →
    Completes (.chDoorbell t r n 1) t s fun w u =>
      u.ch n = { w.ch n with bell := true } ∧ (∀ m, m ≠ n → u.ch m = w.ch m) ∧
      (∀ c, c < 16 → u.o (chIdx9 c) 0x0B =
        if w.o (chIdx9 c) 3 = 0x19 ∧ w.o (chIdx9 c) 0x0B < 255 then w.o (chIdx9 c) 0x0B + 1 else w.o (chIdx9 c) 0x0B) ∧
      Answered w u r 2 (objWord (chIdx9 n) 7) 0 [] ∧ Frame (.dma :: writeParts) trigKeys w u) ∧
  (∀ (t : Tick) (r : Req) (n : Nat) (x : DmaRun) (s : State), n < 16 → MemOk s → Reaches (s.upTo t) r (chIdx9 n) 8 (objBytes 0x9001 8 1) 1 →
    reqWord r ≠ 0 → ((s.upTo t).lock (10 + n)).owner = reqWord r → (s.upTo t).o (chIdx9 n) 9 = 3 → ((s.upTo t).ch n).run = some x →
    ((s.upTo t).ch n).held = false → x.done < 2 ^ 24 → x.next < 2 ^ 32 →
    Completes (.chStop t r n 1) t s fun w u =>
      u.o (chIdx9 n) 9 = 6 ∧ u.granted .dmaChan n = false ∧
      u.ch n = { w.ch n with run := none, fetch := false, stop := false, retryAt := none } ∧
      u.rd32 (w.o (chIdx9 n) 0x0A + 20) = 9 * 2 ^ 28 + x.done ∧ u.rd32 (w.o (chIdx9 n) 0x0A + 24) = x.next ∧
      (∀ a, (a < w.o (chIdx9 n) 0x0A + 20 ∨ w.o (chIdx9 n) 0x0A + 28 ≤ a) → u.rd8 a = w.rd8 a) ∧
      Answered w u r 2 (objWord (chIdx9 n) 8) 0 [] ∧
      Frame (.dma :: .mem :: .grants :: .rf :: .power :: writeParts) [key (chIdx9 n) 9] w u) ∧
  (∀ (t : Tick) (r : Req) (n v : Nat) (s : State), n < 16 → Reaches (s.upTo t) r (chIdx9 n) 3 (objBytes 0x9001 3 v) v → v ≤ 0x1E →
    reqWord r ≠ 0 → ((s.upTo t).lock (10 + n)).owner = reqWord r →
    Completes (.chTrig t r n v) t s fun w u =>
      u.o (chIdx9 n) 3 = v ∧ u.o (chIdx9 n) 0x0B = 0 ∧ u.ch n = { w.ch n with trigAt := w.now, fired := 0 } ∧
      (∀ m, m ≠ n → u.ch m = w.ch m) ∧ Answered w u r 2 (objWord (chIdx9 n) 3) 0 [] ∧
      Frame (.dma :: writeParts) [key (chIdx9 n) 3, key (chIdx9 n) 0x0B] w u)

/-- R373 to R377: a descriptor that passes its judgement starts; a burst of 256 bytes of a fill; a period of a channel's timer. R367: a
capture buffer is armed with the settings its objects hold, and completes when it has taken all it was to take; at DAC_IN it takes the
DAC's input words (R96, R105). -/
def Obligations.DescriptorsBurstsAndCaptures : Prop :=
  (∀ (t : Tick) (n : Nat) (s : State), DescReady (s.upTo t) n 0 →
    Completes (.dmaCopy t n) t s fun w u =>
      u.ch n = { w.ch n with fetch := false, run := some (w.descRun n) } ∧ (∀ m, m ≠ n → u.ch m = w.ch m) ∧ Frame [.dma] [] w u) ∧
  (∀ (t : Tick) (n : Nat) (s : State), DescReady (s.upTo t) n 1 →
    Completes (.dmaFill t n) t s fun w u =>
      u.ch n = { w.ch n with fetch := false, run := some (w.descRun n) } ∧ (∀ m, m ≠ n → u.ch m = w.ch m) ∧ Frame [.dma] [] w u) ∧
  (∀ (t : Tick) (n : Nat) (s : State), DescReady (s.upTo t) n 2 →
    Completes (.dmaCompare t n) t s fun w u =>
      u.ch n = { w.ch n with fetch := false, run := some (w.descRun n) } ∧ (∀ m, m ≠ n → u.ch m = w.ch m) ∧ Frame [.dma] [] w u) ∧
  (∀ (t : Tick) (n : Nat) (x : DmaRun) (s : State), n < 16 → MemOk s → (∀ m, m < 16 → m ≠ n → ((s.upTo t).ch m).run = none) →
    ((s.upTo t).ch n).run = some x → x.op = 1 → x.down = false → x.src < 2 ^ 32 → x.done + 256 < x.len →
    0x50000000 ≤ x.dst → x.dst + x.len ≤ 0x50010000 → (s.upTo t).o (chIdx9 n) 9 = 3 → ((s.upTo t).ch n).held = false →
    ((s.upTo t).ch n).stop = false → (s.upTo t).power.stalls = [] → (s.upTo t).domOn Dom.cp = true →
    Completes (.dmaBurst t) t s fun w u =>
      u.ch n = { w.ch n with run := some { x with done := x.done + 256 } } ∧ (∀ m, m ≠ n → u.ch m = w.ch m) ∧ u.dma.last = n ∧
      (∀ j, j < 256 → u.rd8 (x.dst + x.done + j) =
        ((descWords (x.dst + x.done) (List.replicate 64 x.src)).flatMap (bytesLE 4)).getD j 0) ∧
      (∀ a, (a < x.dst + x.done ∨ x.dst + x.done + 256 ≤ a) → u.rd8 a = w.rd8 a) ∧ Frame [.dma, .mem] [] w u) ∧
  (∀ (t : Tick) (n : Nat) (s : State), n < 16 → (s.upTo t).o (chIdx9 n) 3 = 0x18 →
    ((s.upTo t).ch n).trigAt + (((s.upTo t).ch n).fired + 1) * (s.upTo t).o (chIdx9 n) 4 * tUs ≤ (s.upTo t).now →
    Completes (.dmaTrigger t n) t s fun w u =>
      (if w.o (chIdx9 n) 0x0B < 255 then
        u.o (chIdx9 n) 0x0B = w.o (chIdx9 n) 0x0B + 1 ∧ u.o (chIdx9 n) 0x0E = w.o (chIdx9 n) 0x0E else
        u.o (chIdx9 n) 0x0B = w.o (chIdx9 n) 0x0B ∧ u.o (chIdx9 n) 0x0E = (w.o (chIdx9 n) 0x0E + 1) % 2 ^ 32) ∧
      u.ch n = { w.ch n with fired := (w.ch n).fired + 1 } ∧ (∀ m, m ≠ n → u.ch m = w.ch m) ∧
      Frame [.dma] [key (chIdx9 n) 0x0B, key (chIdx9 n) 0x0E] w u) ∧
  (∀ (t : Tick) (r : Req) (b : Nat) (s : State), b < 4 → MemOk s → Reaches (s.upTo t) r (capIdx b) 7 (objBytes 0x9020 7 1) 1 →
    (s.upTo t).capState b ≠ 2 →
    Completes (.capArm t r b 1) t s fun w u =>
      u.o (capIdx b) 8 = 1 ∧ (u.capb b).point = w.o (capIdx b) 1 ∧ (u.capb b).path = w.o (capIdx b) 2 ∧
      (u.capb b).car = w.o (capIdx b) 3 ∧ (u.capb b).stream = w.o (capIdx b) 4 ∧ (u.capb b).len = w.o (capIdx b) 6 ∧
      (u.capb b).units = 0 ∧ (u.capb b).bytes = 0 ∧ (u.capb b).seq = (w.capb b).seq ∧ (u.capb b).trunc = false ∧
      (∀ m, m ≠ b → u.capb m = w.capb m) ∧ bit (u.rd32 (capBase b)) 22 = false ∧
      (∀ a, (a < capBase b ∨ capBase b + 4 ≤ a) → u.rd8 a = w.rd8 a) ∧
      Answered w u r 2 (objWord (capIdx b) 7) 0 [] ∧ Frame (.dma :: .mem :: writeParts) [key (capIdx b) 8] w u) ∧
  (∀ (t : Tick) (r : Req) (b : Nat) (s : State), b < 4 → Reaches (s.upTo t) r (capIdx b) 7 (objBytes 0x9020 7 1) 1 →
    (s.upTo t).capState b = 2 → ((s.upTo t).capb b).units < ((s.upTo t).capb b).len → ((s.upTo t).capb b).trunc = false →
    (((s.upTo t).capb b).point = 2 → ((s.upTo t).capb b).units = 0 → (s.upTo t).time_ < (s.upTo t).capEnd b) →
    Completes (.capArm t r b 1) t s fun w u => Answered w u r 2 (objWord (capIdx b) 7) 0x62 [] ∧ Frame writeParts [] w u) ∧
  (∀ (t : Tick) (b : Nat) (q : Bool) (s : State), b < 4 → MemOk s → (s.upTo t).o (capIdx b) 8 = 2 →
    ((s.upTo t).capb b).trunc = q → (q = true ∨ ((s.upTo t).capb b).units = ((s.upTo t).capb b).len) → 0 < ((s.upTo t).capb b).units →
    Completes (.captureComplete t b q) t s fun w u =>
      u.o (capIdx b) 8 = 3 ∧ u.capb b = { w.capb b with seq := ((w.capb b).seq + 1) % 2 ^ 16 } ∧ (∀ m, m ≠ b → u.capb m = w.capb m) ∧
      u.rd32 (capBase b) = withBit (withBit (w.rd32 (capBase b)) 22 true) 21 q ∧
      u.rd32 (capBase b + 12) = ((w.capb b).seq + 1) % 2 ^ 16 * 2 ^ 16 + w.rd32 (capBase b + 12) % 2 ^ 16 ∧
      (∀ a, (a < capBase b ∨ (capBase b + 4 ≤ a ∧ a < capBase b + 12) ∨ capBase b + 16 ≤ a) → u.rd8 a = w.rd8 a) ∧
      (∀ c, c < 16 → u.o (chIdx9 c) 0x0B =
        if w.o (chIdx9 c) 3 = 0x1B + b ∧ w.o (chIdx9 c) 0x0B < 255 then w.o (chIdx9 c) 0x0B + 1 else w.o (chIdx9 c) 0x0B) ∧
      Frame [.dma, .mem] (key (capIdx b) 8 :: trigKeys) w u) ∧
  (∀ (t : Tick) (b : Nat) (s : State), b < 4 → MemOk s → (s.upTo t).capState b = 2 → ((s.upTo t).capb b).point = 2 →
    ((s.upTo t).capb b).units = 0 → 0 < ((s.upTo t).capb b).len → ((s.upTo t).capb b).len ≤ capMax / 4 →
    ((s.upTo t).capb b).trunc = false → (s.upTo t).capEnd b ≤ (s.upTo t).time_ →
    Completes (.captureComplete t b false) t s fun w u =>
      u.o (capIdx b) 8 = 3 ∧ u.capb b = { w.capb b with
        units := (w.capb b).len, bytes := 4 * (w.capb b).len, seq := ((w.capb b).seq + 1) % 2 ^ 16 } ∧
      (∀ m, m ≠ b → u.capb m = w.capb m) ∧
      (∀ i j, i < (w.capb b).len → j < 4 → u.rd8 (capBase b + 32 + 4 * i + j) =
        (w.dacWord (w.capb b).path (w.rsFirst (w.airSample (w.capb b).start) + (i : Int))).getD j 0) ∧
      (∀ a, (a < capBase b ∨ capBase b + 32 + 4 * (w.capb b).len ≤ a) → u.rd8 a = w.rd8 a) ∧
      Frame [.dma, .mem] (key (capIdx b) 8 :: trigKeys) w u)

/-! ### Power (chapter 16) -/

/-- R18, R19, R383 to R386: a request is granted whole, or refused whole and counted; a release gives its cost back, and of one
AON cycle's requests releases go first; a cap is set between what is booked and its ceiling. Each time LEDGER_OVER is judged (when it
is, between the slot boundaries, is the model's choice: assumption 16). -/
def Obligations.LedgerAndCaps : Prop :=
  (∀ (t : Tick) (q : LedReq) (s : State), q.release = false → q.dom < 22 → q.cost.length = 8 →
    (s.upTo t).fits ((s.upTo t).costOf .block q.n) q.cost = true →
    Completes (.ledgerRequest t [q]) t s fun w u =>
      u.costOf .block q.n = q.cost ∧ (∀ k n, ¬ (k = GKind.block ∧ n = q.n) → u.costOf k n = w.costOf k n) ∧
      LedgerJudged w u ∧ Frame (.grants :: .rf :: logParts) logKeys w u) ∧
  (∀ (t : Tick) (q : LedReq) (s : State), q.release = false → q.dom < 22 → q.cost.length = 8 →
    (s.upTo t).fits ((s.upTo t).costOf .block q.n) q.cost = false →
    Completes (.ledgerRequest t [q]) t s fun w u =>
      u.o 0x5005 (q.dom + 1) = (w.o 0x5005 (q.dom + 1) + 1) % 2 ^ 32 ∧ LedgerJudged w u ∧
      Frame logParts (key 0x5005 (q.dom + 1) :: logKeys) w u) ∧
  (∀ (t : Tick) (q x : LedReq) (s : State), q.release = false → x.release = true → 2 ≤ q.cls → q.n ≠ x.n → q.cost.length = 8 →
    ((s.upTo t).release .block x.n).fits ((s.upTo t).costOf .block q.n) q.cost = true →
    Completes (.ledgerRequest t [q, x]) t s fun w u =>
      u.costOf .block x.n = noCost ∧ u.costOf .block q.n = q.cost ∧
      (∀ k n, ¬ (k = GKind.block ∧ (n = q.n ∨ n = x.n)) → u.costOf k n = w.costOf k n) ∧ LedgerJudged w u ∧
      Frame (.grants :: .rf :: logParts) logKeys w u) ∧
  (∀ (t : Tick) (r : Req) (rail v : Nat) (s : State), rail < 8 →
    Reaches (s.upTo t) r (0x5000) (rail + 1) (objBytes 0x5000 1 v) v → v ≤ ceilOf rail → (s.upTo t).booked rail ≤ v →
    (∀ x, x < 8 → (s.upTo t).raised Al.ledgerOver x = false ∧ (s.upTo t).booked x ≤ (s.upTo t).cap x) →
    Completes (.ledgerCapWrite t r rail v) t s fun w u =>
      u.cap rail = v ∧ Answered w u r 2 (objWord 0x5000 (rail + 1)) 0 [] ∧ Frame writeParts [key 0x5000 (rail + 1)] w u) ∧
  (∀ (t : Tick) (r : Req) (rail v : Nat) (s : State), rail < 8 →
    Reaches (s.upTo t) r (0x5000) (rail + 1) (objBytes 0x5000 1 v) v → v ≤ ceilOf rail → v < (s.upTo t).booked rail →
    Completes (.ledgerCapWrite t r rail v) t s fun w u =>
      Answered w u r 2 (objWord 0x5000 (rail + 1)) 0x72 [] ∧ Frame writeParts [] w u)

/-- R389 to R391: DOMAIN_REQ and POWER_REQ ask the domains; a domain that has work to complete delays its answer; the act phase
begins when none waits; a domain that answers too late ends the request with POWER_REFUSED and reason 8. -/
def Obligations.PowerHandshake : Prop :=
  (∀ (t : Tick) (r : Req) (d : Nat) (s : State), d < 20 → d ≠ 18 → Reaches (s.upTo t) r 0x5021 (d + 1) [0] 0 →
    (s.upTo t).powerBusy = false → (s.upTo t).domState d = 1 → (s.upTo t).refuses d = none → (s.upTo t).delays d = true →
    Completes (.domainReqDown t r d) t s fun w u =>
      u.domState d = 2 ∧ u.power = { w.power with hand := some ⟨false, [d], [d], w.now, [], false⟩ } ∧
      Answered w u r 2 (objWord 0x5021 (d + 1)) 0 [] ∧ Frame (.power :: writeParts) [key 0x5022 (d + 1)] w u) ∧
  (∀ (t : Tick) (r : Req) (d : Nat) (s : State), d < 20 → d ≠ 18 → Reaches (s.upTo t) r 0x5021 (d + 1) [0] 0 →
    (s.upTo t).powerBusy = false → (s.upTo t).domState d = 1 → (s.upTo t).refuses d = none → (s.upTo t).delays d = false →
    Completes (.domainReqDown t r d) t s fun w u =>
      u.domState d = 3 ∧ u.power = { w.power with hand := some ⟨false, [d], [], w.now, [d], true⟩ } ∧
      Answered w u r 2 (objWord 0x5021 (d + 1)) 0 [] ∧ Frame (.power :: writeParts) [key 0x5022 (d + 1)] w u) ∧
  (∀ (t : Tick) (r : Req) (d : Nat) (s : State), d < 22 → Reaches (s.upTo t) r 0x5021 (d + 1) [1] 1 →
    (s.upTo t).powerBusy = false → (s.upTo t).domState d = 0 → (s.upTo t).power.dormant = false →
    (s.upTo t).start.vidGoal = none → (s.upTo t).fits ((s.upTo t).costOf .dom d) (domCost d) = true →
    Completes (.domainReqUp t r d) t s fun w u =>
      u.domState d = 4 ∧ smFind u.power.waking d = some w.now ∧ u.costOf .dom d = domCost d ∧
      u.o 0x5050 4 = (w.o 0x5050 4 + 1) % 2 ^ 32 ∧ u.o 0x5020 3 = 0 ∧ u.o 0x5020 4 = 0xFF ∧ u.o 0x5020 5 = 0 ∧
      Answered w u r 2 (objWord 0x5021 (d + 1)) 0 [] ∧
      Frame (.power :: .grants :: .rf :: writeParts)
        [key 0x5022 (d + 1), key 0x5050 4, key 0x5020 3, key 0x5020 4, key 0x5020 5] w u) ∧
  (∀ (t : Tick) (r : Req) (s : State), Reaches (s.upTo t) r 0x5020 1 (objBytes 0x5020 1 1) 1 →
    (s.upTo t).powerBusy = false → (∀ d, d < 22 → (s.upTo t).domState d ≠ 4 ∧ (s.upTo t).refuses d = none) →
    (s.upTo t).o 0x5020 6 % 16 ≠ 0 → (s.upTo t).power.fired ≠ some (s.upTo t).now →
    (dormantOrder.filter (s.upTo t).forDormant).any (s.upTo t).delays = true →
    Completes (.powerReq t r 1) t s fun w u =>
      u.power = { w.power with hand := some ⟨true, dormantOrder.filter w.forDormant,
        (dormantOrder.filter w.forDormant).filter w.delays, w.now, [], false⟩ } ∧
      (∀ d, d < 22 → u.domState d = if d ∈ dormantOrder.filter w.forDormant then 2 else w.domState d) ∧
      Answered w u r 2 (objWord 0x5020 1) 0 [] ∧ Frame (.power :: writeParts) ((List.range 22).map (fun d => key 0x5022 (d + 1))) w u) ∧
  (∀ (t : Tick) (r : Req) (s : State), Reaches (s.upTo t) r 0x5020 1 (objBytes 0x5020 1 1) 1 →
    (s.upTo t).powerBusy = false → (∀ d, d < 22 → (s.upTo t).domState d ≠ 4) →
    (s.upTo t).o 0x5020 6 % 16 ≠ 0 → (s.upTo t).power.fired = some (s.upTo t).now →
    Completes (.powerReq t r 1) t s fun w u =>
      u.o 0x5020 3 = 0x71 ∧ u.o 0x5020 4 = 0xFF ∧ u.o 0x5020 5 = 0 ∧ Answered w u r 2 (objWord 0x5020 1) 0 [] ∧
      Frame writeParts [key 0x5020 3, key 0x5020 4, key 0x5020 5] w u) ∧
  (∀ (t : Tick) (d e : Nat) (h : Handshake) (s : State), d < 22 → (s.upTo t).power.hand = some h → d ∈ h.waiting →
    e ∈ h.waiting → e ≠ d → (s.upTo t).refuses d = none → (s.upTo t).delays d = false →
    Completes (.domainAnswer t d) t s fun w u =>
      u.power = { w.power with hand := some { h with waiting := h.waiting.filter (fun x => x != d) } } ∧
      Frame [.power] [] w u) ∧
  (∀ (t : Tick) (d f : Nat) (l : List Nat) (h : Handshake) (s : State), d < 22 → f < 22 → (s.upTo t).power.hand = some h →
    h.waiting = [d] → h.doms = f :: l → h.dormant = false → (s.upTo t).refuses d = none → (s.upTo t).delays d = false →
    Completes (.domainAnswer t d) t s fun w u =>
      u.power = { w.power with hand := some { h with waiting := [], acting := h.doms, started := true } } ∧ u.domState f = 3 ∧
      Frame [.power] [key 0x5022 (f + 1)] w u) ∧
  (∀ (t : Tick) (d : Nat) (h : Handshake) (s : State), d < 22 → (s.upTo t).power.hand = some h → d ∈ h.waiting →
    h.since + maxDelay d ≤ (s.upTo t).now → (s.upTo t).power.stalls = [] →
    Completes (.domainAnswerTimeout t d) t s fun w u =>
      u.power = { w.power with hand := none } ∧ u.raised Al.powerRefused d = true ∧ u.o 0x5020 3 = 0x70 ∧ u.o 0x5020 4 = d ∧
      u.o 0x5020 5 = 8 ∧
      (∀ e, e < 22 → u.domState e = if e ∈ h.doms then (if 15 ≤ e ∧ e < 18 ∧ (w.port (e - 15)).deep = true then 5 else 1)
        else w.domState e) ∧
      Frame (.power :: logParts) ([key 0x5020 3, key 0x5020 4, key 0x5020 5] ++ h.doms.map (fun e => key 0x5022 (e + 1)) ++ logKeys) w u)

/-- R391, R397, R402: a domain that powers down loses its cost and its state, and the next is isolated; a domain that wakes is ON
after its time; an access whose domain gets no credit for 10 ms ends. -/
def Obligations.DomainsGoAndCome : Prop :=
  (∀ (t : Tick) (d e : Nat) (l : List Nat) (h : Handshake) (s : State), d < 12 → e < 22 → e ≠ d → (s.upTo t).power.hand = some h →
    h.started = true → h.acting = d :: e :: l →
    Completes (.domainPowerDown t d) t s fun w u =>
      u.domState d = 0 ∧ u.domState e = 3 ∧ u.granted .dom d = false ∧ u.power = { w.power with hand := some { h with acting := e :: l } } ∧
      u.pin .trsw d = 0 ∧ u.pin .lnabyp d = 1 ∧
      (∀ n, n ∈ pathsOf d → u.pin .txon n = 0 ∧ u.pin .driver n = 0 ∧ u.pin .rxStage n = 0) ∧
      (∀ k n, ¬ (k = GKind.dom ∧ n = d) → u.costOf k n = w.costOf k n) ∧
      Frame [.power, .grants, .rf] [key 0x5022 (d + 1), key 0x5022 (e + 1)] w u) ∧
  (∀ (t : Tick) (h : Handshake) (s : State), MemOk s → (s.upTo t).power.hand = some h → h.started = true → h.acting = [Dom.dc] →
    h.dormant = false → (s.upTo t).power.stalls = [] →
    Completes (.domainPowerDown t Dom.dc) t s fun w u =>
      u.domState Dom.dc = 0 ∧ u.granted .dom Dom.dc = false ∧ u.power = { w.power with hand := none, dormant := false } ∧
      (∀ a, u.rd8 a = if 0x40000000 ≤ a ∧ a < 0x40300000 then 0 else w.rd8 a) ∧
      u.o 0x5020 3 = 0 ∧ u.o 0x5020 4 = 0xFF ∧ u.o 0x5020 5 = 0 ∧ LedgerJudged w u ∧
      Frame (.power :: .grants :: .rf :: .mem :: .dma :: logParts)
        ([key 0x5022 (Dom.dc + 1), key 0x5020 3, key 0x5020 4, key 0x5020 5] ++ logKeys) w u) ∧
  (∀ (t : Tick) (d : Nat) (x : Tick) (l : List Nat) (s : State), d < 12 → (s.upTo t).domState d = 4 → (s.upTo t).power.wakeStep = 0 →
    smFind (s.upTo t).power.waking d = some x → x + domReady d ≤ (s.upTo t).now →
    (∀ y, y ∈ (s.upTo t).power.stalls → y.dom ≠ d) →
    Completes (.domainReady t ⟨d, l⟩) t s fun w u =>
      u.domState d = 1 ∧ u.power = { w.power with waking := smErase w.power.waking d } ∧ Frame [.power] [key 0x5022 (d + 1)] w u) ∧
  (∀ (t : Tick) (x : Tick) (l : List Nat) (s : State), (s.upTo t).domState Dom.bf = 4 → (s.upTo t).power.wakeStep = 0 →
    smFind (s.upTo t).power.waking Dom.bf = some x → x + domReady Dom.bf ≤ (s.upTo t).now →
    (∀ y, y ∈ (s.upTo t).power.stalls → y.dom ≠ Dom.bf) → (∀ b, b < 8 → b ∈ l → b ∉ (s.upTo t).power.signed) →
    Completes (.domainReady t ⟨Dom.bf, l⟩) t s fun w u =>
      u.domState Dom.bf = 1 ∧
      u.power = { w.power with waking := smErase w.power.waking Dom.bf, signed := w.power.signed.filter (fun b => decide (8 ≤ b)) } ∧
      Frame [.power] [key 0x5022 (Dom.bf + 1)] w u) ∧
  (∀ (t : Tick) (b : Nat) (x : Tick) (s : State), b < 8 → MemOk s → (s.upTo t).domState Dom.bf = 4 → (s.upTo t).power.wakeStep = 0 →
    smFind (s.upTo t).power.waking Dom.bf = some x → x + domReady Dom.bf ≤ (s.upTo t).now →
    (∀ y, y ∈ (s.upTo t).power.stalls → y.dom ≠ Dom.bf) → b ∈ (s.upTo t).power.signed →
    Completes (.domainReady t ⟨Dom.bf, [b]⟩) t s fun w u =>
      u.domState Dom.bf = 1 ∧ bit (u.o (0x3100 + b / 4) 6) (b % 4) = false ∧
      (∀ a, u.rd8 a = if bankAt b ≤ a ∧ a < bankAt b + bankBytes then 0 else w.rd8 a) ∧
      u.o 0x5050 5 = (w.o 0x5050 5 + 1) % 2 ^ 32 ∧ u.raised Al.retCrc b = true ∧
      u.power = { w.power with waking := smErase w.power.waking Dom.bf, signed := w.power.signed.filter (fun b => decide (8 ≤ b)) } ∧
      Frame (.power :: .mem :: .dma :: logParts) ([key 0x5022 (Dom.bf + 1), key (0x3100 + b / 4) 6, key 0x5050 5] ++ logKeys) w u) ∧
  (∀ (t : Tick) (x : Tick) (l : List Nat) (s : State), MemOk s → (s.upTo t).domState Dom.dc = 4 → (s.upTo t).power.wakeStep = 0 →
    smFind (s.upTo t).power.waking Dom.dc = some x → x + domReady Dom.dc ≤ (s.upTo t).now →
    (∀ y, y ∈ (s.upTo t).power.stalls → y.dom ≠ Dom.dc) →
    Completes (.domainReady t ⟨Dom.dc, l⟩) t s fun w u =>
      u.domState Dom.dc = 1 ∧ u.power = { w.power with waking := smErase w.power.waking Dom.dc } ∧
      (∀ c i, c < 24 → i < 16384 → u.rd8 (0x40010000 + c * 0x20000 + i) = Config.dcProgram w.sec.run.measure i % 256) ∧
      (∀ a, (∀ c, c < 24 → ¬ (0x40010000 + c * 0x20000 ≤ a ∧ a < 0x40014000 + c * 0x20000)) → u.rd8 a = w.rd8 a) ∧
      u.dpd = { w.dpd with reload := w.dpd.reload.filter (fun k => decide (24 ≤ k)) } ∧
      Frame [.power, .dpd, .mem, .dma] [key 0x5022 (Dom.dc + 1)] w u) ∧
  (∀ (t : Tick) (d : Nat) (x : Stall) (s : State), d < 22 → (s.upTo t).power.stalls = [x] → x.dom = d → x.mem = none → x.chan = none →
    x.since + 10 * tMs ≤ (s.upTo t).now → (s.upTo t).power.pend.any (fun y => y.1 == d) = true →
    Completes (.wakeStallTimeout t d) t s fun w u =>
      u.power = { w.power with stalls := [], pend := w.power.pend.filter (fun y => decide (y.1 ≠ d)) } ∧
      u.raised Al.wakeStall d = true ∧ Frame (.power :: logParts) logKeys w u) ∧
  (∀ (t : Tick) (d : Nat) (x : Stall) (m : MReq) (s : State), d < 22 → (s.upTo t).power.stalls = [x] → x.dom = d → x.mem = some m →
    m.req.kind = 3 → m.req.bcast = false →
    x.since + 10 * tMs ≤ (s.upTo t).now → (s.upTo t).power.pend.any (fun y => y.1 == d) = true →
    Completes (.wakeStallTimeout t d) t s fun w u =>
      u.power = { w.power with stalls := [], pend := w.power.pend.filter (fun y => decide (y.1 ≠ d)) } ∧
      u.raised Al.wakeStall d = true ∧ Answered w u m.req m.op m.w1 0x24 [] ∧
      Frame (.power :: .inService :: .lhp :: logParts) logKeys w u)

/-- R283, R395, R398 to R401: a wake source that WAKE_EN selects ends a request for Dormant that has not begun to act, or starts
the wake from Dormant; a WAKE pattern wakes a deep port; a nap slot gates the chains and the bias returns ahead of its end. -/
def Obligations.WakeSourcesAndNaps : Prop :=
  (∀ (t : Tick) (h : Handshake) (s : State), bit ((s.upTo t).o 0x5020 6) 3 = true → (s.upTo t).power.hand = some h →
    h.dormant = true → h.started = false ∨ h.acting = h.doms → (s.upTo t).power.stalls = [] →
    Completes (.wakePin t) t s fun w u =>
      u.power = { w.power with hand := none, fired := some w.now } ∧ u.o 0x5020 3 = 0x71 ∧ u.o 0x5020 4 = 0xFF ∧ u.o 0x5020 5 = 0 ∧
      (∀ e, e < 22 → u.domState e = if e ∈ h.doms then (if 15 ≤ e ∧ e < 18 ∧ (w.port (e - 15)).deep = true then 5 else 1)
        else w.domState e) ∧
      Frame [.power] ([key 0x5020 3, key 0x5020 4, key 0x5020 5] ++ h.doms.map (fun e => key 0x5022 (e + 1))) w u) ∧
  (∀ (t : Tick) (s : State), bit ((s.upTo t).o 0x5020 6) 3 = true → (s.upTo t).power.hand = none → (s.upTo t).power.dormant = true →
    Completes (.wakePin t) t s fun w u =>
      u.o 0x5020 8 = 8 ∧ u.o 0x5050 3 = (w.o 0x5050 3 + 1) % 2 ^ 32 ∧
      u.power = { w.power with
        dormant := false, settling := true, brief := true, keepTime := false, wakeStep := 1,
        wakeOk := u.power.wakeOk, wakeTry := w.now, fired := some w.now } ∧
      u.timeBase = (if w.power.keepTime = true ∨ w.domOn Dom.tm = true then w.timeBase else -(w.now : Int)) ∧
      Frame [.power, .grants, .rf, .timeBase] [key 0x5020 8, key 0x5050 3, key 0x5005 (Dom.tm + 1)] w u) ∧
  (∀ (t : Tick) (s : State), bit ((s.upTo t).o 0x5020 6) 3 = true → (s.upTo t).power.hand = none → (s.upTo t).power.dormant = false →
    (s.upTo t).power.wakeStep = 1 ∨ (s.upTo t).power.wakeStep = 2 →
    Completes (.wakePin t) t s fun w u => u.o 0x5020 8 = w.o 0x5020 8 ||| 8 ∧ u.power = { w.power with fired := some w.now } ∧
      Frame [.power] [key 0x5020 8] w u) ∧
  (∀ (t : Tick) (p kind : Nat) (s : State), p < 3 → ((s.upTo t).port p).deep = true → ((s.upTo t).port p).deepWake = none →
    (s.upTo t).a 0x6112 (p + 1) ≠ 0 → ((s.upTo t).a 0x6112 (p + 1) = 1 → kind = 0) →
    (s.upTo t).power.dormant = false → (s.upTo t).power.hand = none → bit ((s.upTo t).o 0x5020 6) 0 = false →
    Completes (.laneWakeDetect t p kind) t s fun w u =>
      u.domState (portDom p) = 4 ∧ u.port p = { w.port p with deepWake := some w.now } ∧ (∀ q, q ≠ p → u.port q = w.port q) ∧
      Frame [.ports] [key 0x5022 (portDom p + 1)] w u) ∧
  (∀ (t : Tick) (s : State), (s.upTo t).napSlot ((s.upTo t).radioSlot (s.upTo t).time_) = true → (s.upTo t).power.napping = false →
    (s.upTo t).slotStart ((s.upTo t).a 0x2020 2) ((s.upTo t).radioSlot (s.upTo t).time_) - (s.upTo t).txBoard + ns 500 ≤
      (s.upTo t).time_ →
    Completes (.napGate t) t s fun w u =>
      (∀ n, n < 96 → u.pin .driver n = 0 ∧ u.pin .rxStage n = 0) ∧
      (∀ l, l < 4 → u.radioState l = if 3 ≤ w.radioState l then 2 else w.radioState l) ∧
      (∀ n, n < 96 → u.pin .txon n = w.pin .txon n ∧ u.pin .trsw n = w.pin .trsw n) ∧
      ((∀ l, l < 4 → w.radioState l < 3) →
        ∀ k n, n < 96 → k ≠ PinKind.driver → k ≠ PinKind.rxStage → u.pin k n = w.pin k n) ∧
      u.power = { w.power with napping := true } ∧ Frame [.rf, .power] [] w u) ∧
  (∀ (t : Tick) (s : State), (s.upTo t).power.napping = true →
    (s.upTo t).napSlot ((s.upTo t).radioSlot ((s.upTo t).time_ + ns 25000 + (s.upTo t).txBoard)) = false →
    Completes (.napBias t) t s fun w u => u.power = { w.power with napping := false } ∧ Frame [.power] [] w u)

/-! ### Housekeeping (chapter 17) -/

/-- R166, R214, R379, R407 to R409: a round starts at a multiple of 10 ms, unless the HK clock stands, each conversion writes its entry
into the ring, with REFNOTREADY until the reference has settled; a one-shot is queued. -/
def Obligations.Conversions : Prop :=
  (∀ (t : Tick) (s : State), (s.upTo t).domOn Dom.hk = true → (s.upTo t).clk.hkStopped = false → 247 ≤ (s.upTo t).hk.pos →
    (s.upTo t).hk.roundAt ≠ some ((s.upTo t).time_ / ((10 * tMs : Nat) : Int)) →
    Completes (.hkRoundStart t) t s fun w u =>
      u.hk = { w.hk with
        pos := 0, roundAt := some (w.time_ / ((10 * tMs : Nat) : Int)), bad := false, judged := false, tx := [],
        suspAt := w.o 0x7101 1 } ∧ u.cal = { w.cal with sel := smSet none w.cal.sel 1280 w.cal.trim } ∧ Frame [.hk, .cal] [] w u) ∧
  (∀ (t : Tick) (s : State), (s.upTo t).clk.hkStopped = true →
    Completes (.hkRoundStart t) t s fun w u => Frame [] [] w u) ∧
  (∀ (t : Tick) (code c i : Nat) (x : Tick) (s : State), MemOk s → code < 4096 → (s.upTo t).domOn Dom.hk = true →
    (s.upTo t).clk.hkStopped = false → (s.upTo t).hk.shot = false → (s.upTo t).hk.pos < 246 →
    hkList.getD (s.upTo t).hk.pos (0, 0) = (c, i) → (s.upTo t).hk.refAt = some x →
    x + 2 * tMs + tUs ≤ (s.upTo t).now → (s.upTo t).hk.unread < 4096 → (s.upTo t).o 0x9000 4 < 4096 → sensorOf c = none →
    Completes (.hkConversion t code) t s fun w u =>
      u.rd32 (0x30000000 + 8 * w.o 0x9000 4) = c * 2 ^ 26 + i * 2 ^ 21 + code ∧ u.o 0x9000 4 = (w.o 0x9000 4 + 1) % 4096 ∧
      (∀ a, (a < 0x30000000 + 8 * w.o 0x9000 4 ∨ 0x30000000 + 8 * w.o 0x9000 4 + 8 ≤ a) → u.rd8 a = w.rd8 a) ∧
      u.hkCode c i = some code ∧ u.hk.pos = w.hk.pos + 1 ∧ u.hk.unread = w.hk.unread + 1 ∧ u.hk.bad = w.hk.bad ∧
      Frame [.hk, .mem, .dma] (key 0x9000 4 :: trigKeys) w u) ∧
  (∀ (t : Tick) (code c i : Nat) (s : State), MemOk s → code < 4096 → (s.upTo t).domOn Dom.hk = true →
    (s.upTo t).clk.hkStopped = false → (s.upTo t).hk.shot = false → (s.upTo t).hk.pos < 246 →
    hkList.getD (s.upTo t).hk.pos (0, 0) = (c, i) → (s.upTo t).hk.refAt = none →
    (s.upTo t).hk.unread < 4096 → (s.upTo t).o 0x9000 4 < 4096 → sensorOf c = none →
    Completes (.hkConversion t code) t s fun w u =>
      u.rd32 (0x30000000 + 8 * w.o 0x9000 4) = c * 2 ^ 26 + i * 2 ^ 21 + 2 ^ 20 + code ∧ u.o 0x7220 4 = (w.o 0x7220 4 + 1) % 2 ^ 32 ∧
      u.hk = { w.hk with pos := w.hk.pos + 1, unread := w.hk.unread + 1, bad := true } ∧
      Frame [.hk, .mem, .dma] (key 0x9000 4 :: key 0x7220 4 :: trigKeys) w u) ∧
  (∀ (t : Tick) (x : Tick) (s : State), (s.upTo t).hk.refAt = some x → x + 2 * tMs ≤ (s.upTo t).now →
    Completes (.hkRefReady t) t s fun w u => u.o 0x7000 1 = 1 ∧ Frame [] [key 0x7000 1] w u) ∧
  (∀ (t : Tick) (r : Req) (v : Nat) (s : State), Reaches (s.upTo t) r 0x7000 2 (objBytes 0x7000 2 v) v → bits v 0 5 < subsOf (bits v 8 6) →
    (s.upTo t).hk.oneshot = none →
    Completes (.hkOneshot t r v) t s fun w u =>
      u.hk = { w.hk with oneshot := some v, shot := decide (w.hk.pos = 247) } ∧ Answered w u r 2 (objWord 0x7000 2) 0 [] ∧
      Frame (.hk :: writeParts) [] w u) ∧
  (∀ (t : Tick) (r : Req) (v : Nat) (s : State), Reaches (s.upTo t) r 0x7000 2 (objBytes 0x7000 2 v) v → bits v 0 5 < subsOf (bits v 8 6) →
    (s.upTo t).hk.oneshot ≠ none →
    Completes (.hkOneshot t r v) t s fun w u => Answered w u r 2 (objWord 0x7000 2) 0x81 [] ∧ Frame writeParts [] w u)

/-- R410, R411, R416: a complete round is judged once: the sensors, the bands with their hysteresis, the rails. -/
def Obligations.RoundJudgement : Prop :=
  (∀ (t : Tick) (s : State), 247 ≤ (s.upTo t).hk.pos → (s.upTo t).hk.roundAt ≠ none → (s.upTo t).hk.judged = false →
    (s.upTo t).hk.bad = false → (s.upTo t).cpAbsent = none → (s.upTo t).domOn Dom.hk = true →
    Completes (.bandJudge t) t s fun w u =>
      u.hk.judged = true ∧
      (∀ a, a < 14 → smGet 2 u.hk.areaNext a = match u.areaTemp a with
        | some x => bandDown x 5 (bandUp x 5 (smGet 2 w.hk.areaNext a))
        | none => smGet 2 w.hk.areaNext a) ∧
      (∀ r, r < 8 → u.o 0x7001 (r + 1) = mulDiv (1000 * (w.hkCode r 0).getD 0) 2048 % 2 ^ 16) ∧
      u.o 0x7000 6 = mulDiv (1000 * (w.hkCode 32 0).getD 0) 4096 % 2 ^ 16 ∧ u.hk.codes = w.hk.codes ∧ u.hk.trip = w.hk.trip ∧
      (∀ a, u.o 0x7102 a = w.o 0x7102 a) ∧ u.band = w.band ∧
      Frame (.hk :: .free :: .rf :: .slotAlarms :: logParts) judgeKeys w u) ∧
  (∀ (t : Tick) (s : State), (s.upTo t).hk.bad = true ∨ (s.upTo t).hk.judged = true →
    Completes (.bandJudge t) t s fun w u => u = s.done t w)

/-- R413 to R415, R420: the reflected-power trip stops the path, its retry, a readback mismatch, and the calibration of the VSWR
monitor. -/
def Obligations.Protection : Prop :=
  (∀ (t : Tick) (n : Nat) (s : State), n < 96 → (s.upTo t).txOn (s.upTo t).time_ n = true → (s.upTo t).domOn Dom.hk = true →
    (s.upTo t).pin .driver n ≠ 0 → (s.upTo t).raised Al.rflTrip n = false →
    Completes (.rflTrip t n) t s fun w u =>
      bit (u.block n) 3 = true ∧ u.o 0x7220 1 = (w.o 0x7220 1 + 1) % 2 ^ 32 ∧ u.o 0x2130 5 = (w.o 0x2130 5 + 1) % 2 ^ 32 ∧
      u.raised Al.rflTrip n = true ∧ (Al.feFastStop, 0) ∈ u.slotAlarms ∧ PinEdge.mk w.time_ .driver n 0 ∈ u.rf.edges ∧
      PinEdge.mk (w.time_ + ns 100 + w.skew 0x2004 (n + 1)) .txon n 0 ∈ u.rf.edges ∧
      PinEdge.mk (w.time_ + ns 1300) .gate n 1 ∈ u.rf.edges ∧ u.pin .driver n = 0 ∧ (n, w.now) ∈ u.hk.trips ∧
      u.hk = { w.hk with trips := u.hk.trips } ∧
      u.rf = { w.rf with edges := u.rf.edges } ∧
      Frame (.hk :: .rf :: .slotAlarms :: logParts) (key 0x2106 (n + 1) :: key 0x7220 1 :: key 0x2130 5 :: logKeys) w u) ∧
  (∀ (t : Tick) (n : Nat) (x : Tick) (s : State), n < 96 → (s.upTo t).tripsOf n = [x] → (s.upTo t).a 0x7014 4 = 1 →
    bit ((s.upTo t).block n) 3 = true → x + (s.upTo t).a 0x7014 5 * tMs ≤ (s.upTo t).now →
    Completes (.rflRetryClear t n) t s fun w u =>
      bit (u.block n) 3 = false ∧ (∀ b, b ≠ 3 → bit (u.block n) b = bit (w.block n) b) ∧ (n, none) ∈ u.rf.held ∧
      u.raised Al.rflTrip n = false ∧ u.rf = { w.rf with held := u.rf.held } ∧
      Frame (.rf :: logParts) (key 0x2106 (n + 1) :: logKeys) w u) ∧
  (∀ (t : Tick) (n : Nat) (s : State), n < 96 → bit ((s.upTo t).block n) 0 = false → (s.upTo t).pin .driver n = 0 →
    (s.upTo t).pin .txon n = 0 → (s.upTo t).rf.edges = [] →
    Completes (.gbFaultDetect t n 0 true) t s fun w u =>
      bit (u.o 0x7212 (n + 1)) 0 = true ∧ bit (u.block n) 0 = true ∧ u.o 0x7220 2 = (w.o 0x7220 2 + 1) % 2 ^ 32 ∧
      u.raised Al.gbFault n = true ∧ Frame logParts (key 0x7212 (n + 1) :: key 0x2106 (n + 1) :: key 0x7220 2 :: logKeys) w u) ∧
  (∀ (t : Tick) (n : Nat) (s : State), n < 96 →
    Completes (.gbFaultDetect t n 0 false) t s fun w u =>
      bit (u.o 0x7212 (n + 1)) 0 = false ∧ (∀ b, b ≠ 0 → bit (u.o 0x7212 (n + 1)) b = bit (w.o 0x7212 (n + 1)) b) ∧
      Frame [] [key 0x7212 (n + 1)] w u) ∧
  (∀ (t : Tick) (x n : Nat) (s : State), x < 8 →
    ((List.range 12).map (fun i => 12 * x + (smGet 0 (s.upTo t).hk.turn x + i) % 12)).find? (fun n => (s.upTo t).pin .driver n == 1) = some n →
    (s.upTo t).orxOn x = true → (s.upTo t).domOn Dom.hk = true →
    smGet 0 (s.upTo t).hk.vswrAt x + (s.upTo t).a 0x7014 6 * tSec ≤ (s.upTo t).now → (s.upTo t).holder x ≠ 13 →
    (∀ q, q ∈ ((s.upTo t).ox x).queue → q.who < 13) →
    Completes (.vswrCal t x none) t s fun w u =>
      (∃ q, q ∈ (u.ox x).queue ∧ q.who = 13 ∧ q.code = n % 12 ∧ q.lo = none ∧ q.since = w.now) ∧ smGet 0 u.hk.turn x = (n % 12 + 1) % 12 ∧
      smGet 0 u.hk.vswrAt x = w.now ∧ u.hk = { w.hk with turn := u.hk.turn, vswrAt := u.hk.vswrAt } ∧
      (∀ y, y ≠ x → u.ox y = w.ox y) ∧ Frame [.hk, .dpd] [] w u) ∧
  (∀ (t : Tick) (x n c : Nat) (x0 : Tick) (p : Int) (s : State), x < 8 → (s.upTo t).holder x = 13 →
    ((s.upTo t).ox x).settled = some x0 → n = 12 * x + ((s.upTo t).ox x).sel → (s.upTo t).hkCode (24 + n / 24) (n % 24) = some c →
    Completes (.vswrCal t x (some p)) t s fun w u =>
      smGet 0 u.hk.icpt n = p - w.detDb (c : Int) ∧ n ∈ u.hk.icptSet ∧ u.hk = { w.hk with icpt := u.hk.icpt, icptSet := u.hk.icptSet } ∧
      u.holder x = 15 ∧ u.lock x = lockFree ∧ u.o 0x4211 (x + 1) = (w.o 0x4211 (x + 1) + 1) % 2 ^ 32 ∧
      (∀ y, y ≠ x → u.ox y = w.ox y) ∧ u.cal = { w.cal with sel := smSet none w.cal.sel (1024 + x) w.cal.trim } ∧
      Frame [.hk, .dpd, .locks, .cal] [key 0x4210 (x + 1), key 0x4211 (x + 1)] w u)

/-- R214, R418, R419: a code of an aux channel takes effect at once or after the hold of its deglitcher; the compliance of a current
output. -/
def Obligations.AuxChannels : Prop :=
  (∀ (t : Tick) (r : Req) (x v c : Nat) (s : State), x < 32 → v < 2 ^ 16 → Reaches (s.upTo t) r 0x7201 (x + 1) (objBytes 0x7201 1 v) v →
    smGet AuxOut.init (s.upTo t).hk.aux x = ⟨some c, none⟩ →
    Completes (.auxCode t r x v) t s fun w u =>
      u.o 0x7201 (x + 1) = v ∧
      smGet AuxOut.init u.hk.aux x = (if c / 256 = v / 256 then ⟨some v, none⟩ else
        ⟨some c, some (v, w.now + holdOf (w.a 0x7200 (x + 1) % 8))⟩) ∧
      (∀ y, y ≠ x → smGet AuxOut.init u.hk.aux y = smGet AuxOut.init w.hk.aux y) ∧ u.hk = { w.hk with aux := u.hk.aux } ∧
      u.cal = (if w.o 0x7201 (x + 1) = v then w.cal else { w.cal with sel := smSet none w.cal.sel (512 + x) w.cal.trim }) ∧
      Answered w u r 2 (objWord 0x7201 (x + 1)) 0 [] ∧ Frame (.hk :: .cal :: writeParts) [key 0x7201 (x + 1)] w u) ∧
  (∀ (t : Tick) (x v c e : Nat) (s : State), x < 32 → smGet AuxOut.init (s.upTo t).hk.aux x = ⟨some c, some (v, e)⟩ → e ≤ (s.upTo t).now →
    Completes (.deglitchHoldEnd t x) t s fun w u =>
      smGet AuxOut.init u.hk.aux x = ⟨some v, none⟩ ∧
      (∀ y, y ≠ x → smGet AuxOut.init u.hk.aux y = smGet AuxOut.init w.hk.aux y) ∧ u.hk = { w.hk with aux := u.hk.aux } ∧
      Frame [.hk] [] w u) ∧
  (∀ (t : Tick) (x c : Nat) (s : State), x < 32 → (s.upTo t).a 0x7200 (x + 1) % 8 = 4 ∨ (s.upTo t).a 0x7200 (x + 1) % 8 = 5 →
    (smGet AuxOut.init (s.upTo t).hk.aux x).out = some c →
    Completes (.auxCompliance t x true) t s fun w u =>
      bit (u.o 0x7202 1) x = true ∧ (∀ y, y ≠ x → bit (u.o 0x7202 1) y = bit (w.o 0x7202 1) y) ∧
      u.raised Al.auxCompliance x = true ∧ Frame logParts (key 0x7202 1 :: logKeys) w u) ∧
  (∀ (t : Tick) (x : Nat) (s : State), x < 32 →
    Completes (.auxCompliance t x false) t s fun w u =>
      bit (u.o 0x7202 1) x = false ∧ (∀ y, y ≠ x → bit (u.o 0x7202 1) y = bit (w.o 0x7202 1) y) ∧
      u.raised Al.auxCompliance x = false ∧ Frame logParts (key 0x7202 1 :: logKeys) w u)

/-! ### The hallmark engine (chapter 18) -/

/-- R431 to R436: loading, trial and confirmation of firmware: a bundle is judged in the order of its checks, a confirmed image blows
its fuses one after another, and a watchdog restart in TRIAL goes back to the other bank, whose
program each DSP core then loads before its next task. -/
def Obligations.Firmware : Prop :=
  (∀ (t : Tick) (r : Req) (s : State), Reaches (s.upTo t) r 0x8000 3 (objBytes 0x8000 3 1) 1 → (s.upTo t).o 0x8000 2 ≠ 1 →
    (s.upTo t).swapPending = false → (s.upTo t).o 0x8000 1 ≠ 1 → (s.upTo t).fits ((s.upTo t).costOf .fwVerify 0) secCost = true →
    Completes (.fwVerify t r 1) t s fun w u =>
      u.o 0x8000 2 = 1 ∧ u.sec = { w.sec with verify := some (w.now, if r.kind = 3 then 2 else 1) } ∧ u.costOf .fwVerify 0 = secCost ∧
      Answered w u r 2 (objWord 0x8000 3) 0 [] ∧ Frame (.sec :: .grants :: .rf :: writeParts) [key 0x8000 2] w u) ∧
  (∀ (t : Tick) (r : Req) (s : State), Reaches (s.upTo t) r 0x8000 3 (objBytes 0x8000 3 1) 1 →
    (s.upTo t).o 0x8000 2 = 1 ∨ (s.upTo t).swapPending = true ∨ (s.upTo t).o 0x8000 1 = 1 →
    Completes (.fwVerify t r 1) t s fun w u => Answered w u r 2 (objWord 0x8000 3) 0x97 [] ∧ Frame writeParts [] w u) ∧
  (∀ (t : Tick) (x : Nat × Nat) (s : State), (s.upTo t).granted .fwVerify 0 = true → (s.upTo t).sec.verify = some x →
    (s.upTo t).recovery = false →
    Completes (.fwVerifyDone t) t s fun w u =>
      u.granted .fwVerify 0 = false ∧ u.sec.verify = none ∧ u.o 0x8000 4 = w.bundleStatus w.staged ∧
      (if w.bundleStatus w.staged = 0 then
        u.o 0x8000 2 = 2 ∧ u.sec.inact = some (imageOf (w.staged 0 512)) ∧ u.o 0x8000 0x10 = w.o 0x8000 0x10 else
        u.o 0x8000 2 = 3 ∧ u.sec.inact = w.sec.inact ∧ u.o 0x8000 0x10 = (w.o 0x8000 0x10 + 1) % 2 ^ 32 ∧
        u.raised Al.fwVerifyFail 0 = true) ∧
      Frame (.sec :: .grants :: .rf :: logParts)
        (key 0x8000 2 :: key 0x8000 4 :: key 0x8000 0x0B :: key 0x8000 0x0C :: key 0x8000 0x10 :: logKeys) w u) ∧
  (∀ (t : Tick) (r : Req) (s : State), Reaches (s.upTo t) r 0x8000 6 (objBytes 0x8000 6 1) 1 → (s.upTo t).o 0x8000 1 = 1 →
    (s.upTo t).sec.blow = [] → (s.upTo t).sec.run.svn ≤ (s.upTo t).o 0x8000 0x0A →
    (∀ j, j < 4 → bit (s.upTo t).sec.run.revoke j = true → bit ((s.upTo t).o 0x8000 0x0D) j = true) →
    Completes (.fwConfirm t r 1) t s fun w u =>
      u.o 0x8000 1 = 0 ∧ u.sec = { w.sec with trialAt := none, blow := [], tries := 0 } ∧
      Answered w u r 2 (objWord 0x8000 6) 0 [] ∧ Frame (.sec :: writeParts) [key 0x8000 1] w u) ∧
  (∀ (t : Tick) (x : Tick) (k : Nat) (s : State), (s.upTo t).sec.trialAt = some x → (s.upTo t).o 0x8000 7 ≠ 0 →
    x + (s.upTo t).o 0x8000 7 * tSec ≤ (s.upTo t).now → (s.upTo t).o 0x8000 1 = 1 → (s.upTo t).sec.blow = [] →
    (s.upTo t).sec.blowAt = none → (s.upTo t).sec.run.svn = (s.upTo t).o 0x8000 0x0A + (k + 1) → (s.upTo t).sec.run.revoke = 0 →
    (s.upTo t).fits ((s.upTo t).costOf .otp 0) blowCost = true →
    Completes (.fwTrialExpiry t) t s fun w u =>
      u.sec = { w.sec with trialAt := none, blow := List.replicate (k + 1) 0, tries := 0, blowAt := some w.now, blowWait := none } ∧
      u.o 0x8000 1 = 1 ∧ u.costOf .otp 0 = blowCost ∧ Frame [.sec, .grants, .rf] [] w u) ∧
  (∀ (t : Tick) (x : Tick) (s : State), (s.upTo t).sec.blowAt = some x → (s.upTo t).sec.blow = [0] → x + tMs ≤ (s.upTo t).now →
    (s.upTo t).o 0x8000 0x0A < 63 →
    Completes (.otpFuseBlow t true) t s fun w u =>
      u.o 0x8000 0x0A = w.o 0x8000 0x0A + 1 ∧ u.o 0x8000 1 = 0 ∧ u.sec = { w.sec with blowAt := none, blow := [], tries := 0 } ∧
      u.granted .otp 0 = false ∧ Frame [.sec, .grants, .rf] [key 0x8000 0x0A, key 0x8000 1] w u) ∧
  (∀ (t : Tick) (x : Tick) (f : Nat) (l : List Nat) (s : State), (s.upTo t).sec.blowAt = some x → (s.upTo t).sec.blow = f :: l →
    x + tMs ≤ (s.upTo t).now → 3 ≤ (s.upTo t).sec.tries →
    Completes (.otpFuseBlow t false) t s fun w u =>
      u.sec = { w.sec with blowAt := none, blow := [], tries := 0 } ∧ u.granted .otp 0 = false ∧ u.raised Al.otpFault 0 = true ∧
      Frame (.sec :: .grants :: .rf :: logParts) logKeys w u) ∧
  (∀ (t : Tick) (s : State), (s.upTo t).cpRuns = true → (s.upTo t).o 0x8000 1 ≠ 1 → (s.upTo t).stage = none →
    (∀ n, n < 28 → ownKind ((s.upTo t).lock n).owner ≠ 1) →
    Completes (.watchdogExpiry t) t s fun w u =>
      u.start = { w.start with restart := some w.now } ∧ u.cpAbsent = some (w.cpAbsent.getD w.now) ∧
      u.o 0x5070 6 = (w.o 0x5070 6 + 1) % 2 ^ 32 ∧ u.o 0x5070 1 = 4 ∧
      Frame [.start, .cpAbsent, .swp] [key 0x5070 6, key 0x5070 1] w u) ∧
  (∀ (t : Tick) (i : Image) (s : State), (s.upTo t).cpRuns = true → (s.upTo t).o 0x8000 1 = 1 → (s.upTo t).stage = none →
    (s.upTo t).sec.inact = some i → (s.upTo t).o 0x8000 0x0A ≤ i.svn → (s.upTo t).o 0x1000 5 ≤ 1 →
    (∀ n, n < 28 → ownKind ((s.upTo t).lock n).owner ≠ 1) →
    Completes (.watchdogExpiry t) t s fun w u =>
      u.o 0x8000 1 = 0 ∧ u.o 0x1000 5 = 1 - w.o 0x1000 5 ∧ u.sec.run = i ∧ u.sec.inact = some w.sec.run ∧ u.sec.trialAt = none ∧
      u.raised Al.fwReverted 0 = true ∧ u.start.restart = some w.now ∧ u.o 0x5070 1 = 4 ∧
      u.o 0x8000 0x0F = (w.o 0x8000 0x0F + 1) % 2 ^ 32 ∧
      u.dpd = { w.dpd with reload := List.range 24 } ∧ Frame (.sec :: .dpd :: .grants :: .rf :: .start :: .cpAbsent :: .swp :: logParts)
        ([key 0x8000 1, key 0x8000 8, key 0x8000 9, key 0x8000 0x0B, key 0x8000 0x0C, key 0x8000 0x0F, key 0x1000 4, key 0x1000 5,
          key 0x1000 7, key 0x5070 1, key 0x5070 6] ++ logKeys) w u)

/-- R439, R440: a session: a fresh challenge bound to its reader, the two signatures, the opening and its failure, the lockout, the
close. R441, R442: credentials are written once and revoked, and an attestation report is made and signed twice. -/
def Obligations.SessionsCredentialsAndReports : Prop :=
  (∀ (t : Tick) (r : Req) (s : State), Served (s.upTo t) r → ((s.upTo t).renew r).judgeR r 0x8020 1 = 0 →
    Completes (.sessionChallenge t r) t s fun w u =>
      u.sec = { w.sec with chal := some ((w.draw 256).1, reqWord r, w.now) } ∧
      Answered w u r 1 (objWord 0x8020 1) 0 (bytesBE 32 (w.draw 256).1) ∧ u.free = w.free + 1 ∧
      Frame (.sec :: .free :: writeParts) [] w u) ∧
  (∀ (t : Tick) (v o : Nat) (x : Tick) (s : State), (s.upTo t).sec.chal = some (v, o, x) → x + 60 * tSec ≤ (s.upTo t).now →
    Completes (.challengeExpiry t) t s fun w u => u.sec = { w.sec with chal := none } ∧ Frame [.sec] [] w u) ∧
  (∀ (t : Tick) (r : Req) (v : Nat) (s : State), Reaches (s.upTo t) r 0x8020 2 (objBytes 0x8020 2 v) v →
    Completes (.sessionRespRsa t r v) t s fun w u =>
      u.sec = { w.sec with rsa := some (reqWord r, v) } ∧ Answered w u r 2 (objWord 0x8020 2) 0 [] ∧
      Frame (.sec :: writeParts) [] w u) ∧
  (∀ (t : Tick) (r : Req) (v : Nat) (s : State), Reaches (s.upTo t) r 0x8020 3 (objBytes 0x8020 3 v) v →
    Completes (.sessionRespSlh t r v) t s fun w u =>
      u.sec = { w.sec with slh := some (reqWord r, v) } ∧ Answered w u r 2 (objWord 0x8020 3) 0 [] ∧
      Frame (.sec :: writeParts) [] w u) ∧
  (∀ (t : Tick) (r : Req) (c : Nat) (x : Tick) (s : State), Reaches (s.upTo t) r 0x8020 4 (objBytes 0x8020 4 0xFF) 0xFF →
    (s.upTo t).sec.lockout = none → ((s.upTo t).lock 26).owner = 0 → (s.upTo t).sec.chal = some (c, reqWord r, x) →
    (s.upTo t).now < x + 60 * tSec → (s.upTo t).sec.fails = [] → (s.upTo t).fits ((s.upTo t).costOf .session 0) secCost = true →
    Completes (.sessionOpen t r 0xFF) t s fun w u =>
      u.sec.chal = none ∧ u.sec.rsa = none ∧ u.sec.slh = none ∧ u.sec.openWait = none ∧ u.granted .session 0 = false ∧
      (if w.sigsOk r 0xFF c = true then
        u.lock 26 = ⟨reqWord r, some (w.now + w.o 0x8020 6 * tSec)⟩ ∧ u.o 0x8023 2 = 3 ∧ u.sec.slot = 0xFF ∧
        Answered w u r 2 (objWord 0x8020 4) 0 [] else
        u.lock 26 = w.lock 26 ∧ u.o 0x8020 7 = (w.o 0x8020 7 + 1) % 2 ^ 32 ∧ u.sec.fails = [w.now] ∧
        Answered w u r 2 (objWord 0x8020 4) 0x98 []) ∧
      Frame (.sec :: .grants :: .rf :: writeParts) [key 0x8023 2, key 0x8020 7] w u) ∧
  (∀ (t : Tick) (r : Req) (slot : Nat) (s : State), slot < 256 → Reaches (s.upTo t) r 0x8020 4 (objBytes 0x8020 4 slot) slot →
    (s.upTo t).sec.lockout ≠ none → ((s.upTo t).lock 26).owner = 0 →
    Completes (.sessionOpen t r slot) t s fun w u =>
      u.sec = { w.sec with chal := none } ∧ Answered w u r 2 (objWord 0x8020 4) 0x99 [] ∧ Frame (.sec :: writeParts) [] w u) ∧
  (∀ (t : Tick) (r : Req) (s : State), Reaches (s.upTo t) r 0x8020 5 (objBytes 0x8020 5 1) 1 → reqWord r ≠ 0 →
    ((s.upTo t).lock 26).owner = reqWord r →
    Completes (.sessionClose t r 1) t s fun w u =>
      u.lock 26 = lockFree ∧ u.o 0x8023 2 = 0 ∧ Answered w u r 2 (objWord 0x8020 5) 0 [] ∧
      Frame writeParts [key 0x8023 2] w u) ∧
  (∀ (t : Tick) (r : Req) (s : State), Reaches (s.upTo t) r 0x8020 5 (objBytes 0x8020 5 1) 1 →
    ((s.upTo t).lock 26).owner ≠ reqWord r →
    Completes (.sessionClose t r 1) t s fun w u => Answered w u r 2 (objWord 0x8020 5) 0x26 [] ∧ Frame writeParts [] w u) ∧
  (∀ (t : Tick) (x : Tick) (s : State), (s.upTo t).sec.lockout = some x → x + 60 * tSec ≤ (s.upTo t).now →
    Completes (.sessionLockoutEnd t) t s fun w u =>
      u.sec = { w.sec with lockout := none } ∧ u.raised Al.sessionLockout 0 = false ∧ Frame (.sec :: logParts) logKeys w u) ∧
  (∀ (t : Tick) (r : Req) (n v : Nat) (s : State), n < 8 → Reaches (s.upTo t) r 0x8021 (n + 1) (objBytes 0x8021 1 v) v →
    (s.upTo t).o 0x8022 (n + 1) ≠ 1 →
    Completes (.credKeys t r n v) t s fun w u =>
      u.o 0x8021 (n + 1) = v ∧ u.o 0x8022 (n + 1) = 1 ∧ u.start = { w.start with credAt := some w.now } ∧
      Answered w u r 2 (objWord 0x8021 (n + 1)) 0 [] ∧ Frame (.start :: writeParts) [key 0x8021 (n + 1), key 0x8022 (n + 1)] w u) ∧
  (∀ (t : Tick) (r : Req) (n v : Nat) (s : State), n < 8 → Reaches (s.upTo t) r 0x8021 (n + 1) (objBytes 0x8021 1 v) v →
    (s.upTo t).o 0x8022 (n + 1) = 1 →
    Completes (.credKeys t r n v) t s fun w u => Answered w u r 2 (objWord 0x8021 (n + 1)) 0x9A [] ∧ Frame writeParts [] w u) ∧
  (∀ (t : Tick) (r : Req) (n : Nat) (s : State), n < 8 → Reaches (s.upTo t) r 0x8023 1 (objBytes 0x8023 1 n) n →
    Completes (.credRevoke t r n) t s fun w u =>
      u.o 0x8022 (n + 1) = 2 ∧ u.start = { w.start with credAt := some w.now } ∧
      (if (w.lock 26).owner ≠ 0 ∧ w.sec.slot = n then u.lock 26 = lockFree ∧ u.o 0x8023 2 = 0 else u.o 0x8023 2 = w.o 0x8023 2) ∧
      Answered w u r 2 (objWord 0x8023 1) 0 [] ∧ Frame (.start :: writeParts) [key 0x8022 (n + 1), key 0x8023 2] w u) ∧
  (∀ (t : Tick) (r : Req) (nonce : Nat) (s : State), Reaches (s.upTo t) r 0x8030 1 (objBytes 0x8030 1 nonce) nonce →
    (s.upTo t).o 0x8030 2 = 0 ∨ (s.upTo t).o 0x8030 2 = 3 → (s.upTo t).sec.attWait = none →
    (s.upTo t).fits ((s.upTo t).costOf .attest 0) secCost = true →
    Completes (.attestReq t r nonce) t s fun w u =>
      u.o 0x8030 2 = 1 ∧ u.o 0x8030 3 = ofBytesBE (w.attestBody nonce) % 2 ^ 2048 ∧ u.o 0x8030 4 = 0 ∧ u.o 0x8030 5 = 0 ∧
      u.costOf .attest 0 = secCost ∧ Answered w u r 2 (objWord 0x8030 1) 0 [] ∧
      Frame (.grants :: .rf :: writeParts) [key 0x8030 2, key 0x8030 3, key 0x8030 4, key 0x8030 5] w u) ∧
  (∀ (t : Tick) (r : Req) (nonce : Nat) (s : State), Reaches (s.upTo t) r 0x8030 1 (objBytes 0x8030 1 nonce) nonce →
    (s.upTo t).o 0x8030 2 = 1 ∨ (s.upTo t).o 0x8030 2 = 2 ∨ (s.upTo t).sec.attWait ≠ none →
    Completes (.attestReq t r nonce) t s fun w u => Answered w u r 2 (objWord 0x8030 1) 0x9B [] ∧ Frame writeParts [] w u) ∧
  (∀ (t : Tick) (s : State), (s.upTo t).o 0x8030 2 = 1 →
    Completes (.attestRsaDone t) t s fun w u =>
      u.o 0x8030 2 = 2 ∧ u.o 0x8030 4 = Config.rsaSign (bytesBE 256 (w.o 0x8030 3)) (w.draw 384).1 % 256 ^ width (key 0x8030 4) ∧
      u.free = w.free + 1 ∧ Frame [.free] [key 0x8030 2, key 0x8030 4] w u) ∧
  (∀ (t : Tick) (s : State), (s.upTo t).o 0x8030 2 = 2 →
    Completes (.attestSlhDone t) t s fun w u =>
      u.o 0x8030 2 = 3 ∧ u.o 0x8030 5 = Config.slhSign (bytesBE 256 (w.o 0x8030 3)) (w.draw 128).1 % 256 ^ width (key 0x8030 5) ∧
      u.free = w.free + 1 ∧ u.granted .attest 0 = false ∧ Frame [.free, .grants, .rf] [key 0x8030 2, key 0x8030 5] w u)

/-! ### Start-up, resets and the control processor (chapter 19) -/

/-- R446, R455: a rail that goes bad outside reset begins a power-on reset, and a low RESET_N or RESET_REQ 1 a pin reset: the block is
as `State.reset` leaves it, but for what Table 19-7 keeps and what the outside drives; local time is 0. R446, R447, R452: reset ends 5
ms after the last rail turned good, or 100 µs after RESET_N was released: the straps give role, boot source and address mode, and step
1 of start-up begins. -/
def Obligations.ResetsBeginAndEnd : Prop :=
  (∀ (t : Tick) (rail : Nat) (s : State), rail < 8 → (s.upTo t).start.held ≠ 1 →
    Completes (.railBad t rail) t s fun w u =>
      u.start.held = 1 ∧ u.start.rails = withBit w.start.rails rail false ∧ u.o 0x5070 1 = (if rail = 7 then 1 else 0x81) ∧
      u.cpAbsent = some w.now ∧ u.time_ = 0 ∧ u.now = w.now ∧ u.pending = w.pending ∧ u.free = w.free ∧
      (∀ k, k ∈ otpKeys → u.o (k / 256) (k % 256) = w.o (k / 256) (k % 256)) ∧
      Frame [.now, .pending, .timeBase, .act, .free, .cpAbsent, .lanes, .rf, .start] (key 0x5070 1 :: otpKeys) State.reset u) ∧
  (∀ (t : Tick) (rail : Nat) (s : State), rail < 7 → (s.upTo t).start.held = 1 →
    Completes (.railBad t rail) t s fun w u =>
      u.start = { w.start with rails := withBit w.start.rails rail false, goodAt := none } ∧ Frame [.start] [] w u) ∧
  (∀ (t : Tick) (s : State), (s.upTo t).start.held ≠ 1 →
    Completes (.resetNAssert t) t s fun w u =>
      u.start.held = 2 ∧ u.start.low = some w.now ∧ u.start.rails = w.start.rails ∧ u.o 0x5070 1 = 2 ∧
      u.cpAbsent = some w.now ∧ u.time_ = 0 ∧ u.now = w.now ∧ u.pending = w.pending ∧ u.free = w.free ∧
      u.cal = { State.reset.cal with store := w.cal.store } ∧
      (∀ k, k ∈ otpKeys ++ storeKeys ++ [key 0x4800 2, key 0x4800 3] →
        u.o (k / 256) (k % 256) = w.o (k / 256) (k % 256) ∧ u.a (k / 256) (k % 256) = w.o (k / 256) (k % 256)) ∧
      Frame [.now, .pending, .timeBase, .act, .free, .cpAbsent, .lanes, .rf, .start, .cal]
        (key 0x5070 1 :: otpKeys ++ storeKeys ++ [key 0x4800 2, key 0x4800 3]) State.reset u) ∧
  (∀ (t : Tick) (s : State), (s.upTo t).start.held = 1 →
    Completes (.resetNAssert t) t s fun w u => u.start = { w.start with low := some w.now } ∧ Frame [.start] [] w u) ∧
  (∀ (t : Tick) (r : Req) (s : State), Reaches (s.upTo t) r 0x5070 3 [1, 0] 0x100 →
    Completes (.resetReqPin t r) t s fun w u =>
      u.start.held = 2 ∧ u.start.low = some w.now ∧ u.o 0x5070 1 = 8 ∧ u.cpAbsent = some w.now ∧ u.time_ = 0 ∧ u.now = w.now ∧
      u.pending = w.pending ∧ u.free = w.free ∧ u.cal = { State.reset.cal with store := w.cal.store } ∧
      Frame [.now, .pending, .timeBase, .act, .free, .cpAbsent, .lanes, .rf, .start, .cal]
        (key 0x5070 1 :: otpKeys ++ storeKeys ++ [key 0x4800 2, key 0x4800 3]) State.reset u) ∧
  (∀ (t : Tick) (rail : Nat) (s : State), rail < 8 → bit (s.upTo t).start.rails rail = false →
    Completes (.railGood t rail) t s fun w u =>
      u.start = (if withBit w.start.rails rail true = 255 then
        { w.start with rails := 255, goodAt := some w.now, firstAt := some w.now }
        else { w.start with rails := withBit w.start.rails rail true }) ∧ Frame [.start] [] w u) ∧
  (∀ (t : Tick) (role src : Nat) (auto : Bool) (x : Tick) (s : State), role < 3 → src < 3 → (s.upTo t).start.held = 1 →
    (s.upTo t).start.goodAt = some x → (s.upTo t).start.rails = 255 → x + 5 * tMs ≤ (s.upTo t).now → (s.upTo t).start.low = none →
    (s.upTo t).start.cause < 0x80 → (s.upTo t).start.cause ≠ 3 →
    Completes (.resetHoldExpiry t role src auto) t s fun w u =>
      u.start = { w.start with held := 0, low := none, step := 1, ok := u.start.ok, tryAt := w.now } ∧
      u.o 0x5070 1 = w.start.cause ∧ u.o 0x5070 2 = b2n auto * 16 + src * 4 + role ∧ u.role = role ∧ u.o 0x1100 1 = role ∧
      u.a 0x1100 3 = b2n auto ∧ u.o 0x1100 3 = b2n auto ∧ (auto = true → role = 2 → u.addr = 1) ∧
      Frame [.start, .act, .grants, .rf] [key 0x5070 1, key 0x5070 2, key 0x1100 1, key 0x1100 2, key 0x1100 3,
        key 0x5005 (Dom.tm + 1), key 0x5005 (Dom.cp + 1)] w u) ∧
  (∀ (t : Tick) (role src : Nat) (auto : Bool) (x : Tick) (s : State), role < 3 → src < 3 → (s.upTo t).start.held = 2 →
    (s.upTo t).start.low = some x → x + 100 * tUs ≤ (s.upTo t).now → (s.upTo t).start.cause < 0x80 → (s.upTo t).start.cause ≠ 3 →
    Completes (.resetNRelease t role src auto) t s fun w u =>
      u.start = { w.start with held := 0, low := none, step := 1, ok := u.start.ok, tryAt := w.now } ∧
      u.o 0x5070 1 = w.start.cause ∧ u.o 0x5070 2 = b2n auto * 16 + src * 4 + role ∧ u.role = role ∧ u.o 0x1100 1 = role ∧
      u.a 0x1100 3 = b2n auto ∧ u.o 0x1100 3 = b2n auto ∧ (auto = true → role = 2 → u.addr = 1) ∧
      Frame [.start, .act, .grants, .rf] [key 0x5070 1, key 0x5070 2, key 0x1100 1, key 0x1100 2, key 0x1100 3,
        key 0x5005 (Dom.tm + 1), key 0x5005 (Dom.cp + 1)] w u)

/-- R15, R16, R328, R455, R457: the control processor goes and returns: a restart by command or by a parent's message, its end, the
switch back from the AON clock, and the answer CP_ABSENT after 30 ms. -/
def Obligations.ControlProcessorRestarts : Prop :=
  (∀ (t : Tick) (r : Req) (s : State), Reaches (s.upTo t) r 0x5070 3 [2, 0] 0x200 → (s.upTo t).stage = none →
    (∀ n, n < 28 → ownKind ((s.upTo t).lock n).owner ≠ 1) →
    Completes (.resetReqRestart t r) t s fun w u =>
      u.start = { w.start with restart := some w.now } ∧ u.cpAbsent = some w.now ∧ u.o 0x5070 6 = (w.o 0x5070 6 + 1) % 2 ^ 32 ∧
      u.o 0x5070 1 = 6 ∧ Answered w u r 2 (objWord 0x5070 3) 0 [] ∧
      Frame (.start :: .cpAbsent :: .swp :: writeParts) [key 0x5070 6, key 0x5070 1] w u) ∧
  (∀ (t : Tick) (a2 : Nat) (s : State), a2 < 256 → (s.upTo t).o 0x5070 4 ≠ 0 → (s.upTo t).start.held = 0 → (s.upTo t).stage = none →
    (∀ n, n < 28 → ownKind ((s.upTo t).lock n).owner ≠ 1) → ((s.upTo t).port 0).lastLmg = none →
    Completes (.lmgReset t 0 ((lmg 0x20 2 a2 0 0 0).drop 1)) t s fun w u =>
      u.start = { w.start with restart := some w.now, alarms := w.start.alarms ++ [(Al.linkReset, 2)] } ∧
      u.cpAbsent = some (w.cpAbsent.getD w.now) ∧ u.o 0x5070 6 = (w.o 0x5070 6 + 1) % 2 ^ 32 ∧ u.o 0x5070 1 = 7 ∧
      u.port 0 = { w.port 0 with lastLmg := some ((lmg 0x20 2 a2 0 0 0).drop 1, w.now) } ∧ (∀ p, p ≠ 0 → u.port p = w.port p) ∧
      Frame [.start, .cpAbsent, .swp, .ports] [key 0x5070 6, key 0x5070 1] w u) ∧
  (∀ (t : Tick) (x : Tick) (s : State), (s.upTo t).start.restart = some x → (s.upTo t).cpRuns = true →
    bit ((s.upTo t).o 0x2420 8) 6 = false → (s.upTo t).start.alarms = [] → (∀ p, p < 3 → ((s.upTo t).port p).aWait = []) →
    Completes (.controlRestartDone t) t s fun w u =>
      u.start = { w.start with restart := none } ∧ u.cpAbsent = none ∧ u.cpLost = false ∧ u.raised Al.cpAbsent 0 = false ∧
      Frame (.start :: .cpAbsent :: .cpLost :: logParts) logKeys w u) ∧
  (∀ (t : Tick) (s : State), (s.upTo t).start.restart = none → (s.upTo t).cpRuns = true → (s.upTo t).cpAbsent.isSome = true →
    bit ((s.upTo t).o 0x2420 8) 6 = true → (s.upTo t).pllLocked 3 = false →
    (s.upTo t).start.alarms = [] → (∀ p, p < 3 → ((s.upTo t).port p).aWait = []) →
    Completes (.clkPllRelock t 3) t s fun w u =>
      u.pllLocked 3 = true ∧ bit (u.o 0x2420 8) 6 = false ∧ smGet none u.clk.pllAt 3 = some w.now ∧
      u.cpAbsent = none ∧ u.cpLost = false ∧ u.raised Al.cpAbsent 0 = false ∧
      Frame (.start :: .clk :: .cpAbsent :: .cpLost :: logParts) (key 0x2420 8 :: logKeys) w u) ∧
  (∀ (t : Tick) (s : State), (s.upTo t).cpAbsent = none → bit ((s.upTo t).o 0x2420 8) 7 = true → (s.upTo t).pllLocked 2 = false →
    Completes (.clkPllRelock t 2) t s fun w u =>
      u.pllLocked 2 = true ∧ bit (u.o 0x2420 8) 7 = false ∧ smGet none u.clk.pllAt 2 = some w.now ∧
      (∀ n, n ≠ 2 → n ≠ 7 → bit (u.o 0x2420 8) n = bit (w.o 0x2420 8) n) ∧ Frame [.clk] [key 0x2420 8] w u) ∧
  (∀ (t : Tick) (s : State), (s.upTo t).cpAbsent = none → (s.upTo t).clk.hkStopped = true → (s.upTo t).pllLocked 5 = false →
    Completes (.clkPllRelock t 5) t s fun w u =>
      u.pllLocked 5 = true ∧ u.clk = { w.clk with hkStopped := false, pllAt := u.clk.pllAt } ∧ smGet none u.clk.pllAt 5 = some w.now ∧
      (∀ n, n ≠ 5 → bit (u.o 0x2420 8) n = bit (w.o 0x2420 8) n) ∧ Frame [.clk] [key 0x2420 8] w u) ∧
  (∀ (t : Tick) (x : Tick) (m : MReq) (s : State), (s.upTo t).cpAbsent = some x → (s.upTo t).cpLost = false → (s.upTo t).cpRuns = true →
    x + 30 * tMs ≤ (s.upTo t).now → (s.upTo t).mq = [m] → m.req.kind = 3 → (s.upTo t).lhp.inq = [] →
    (∀ n, n < 96 → (s.upTo t).dpdMode n ≠ 2) →
    Completes (.cpAbsentTimeout t) t s fun w u =>
      u.cpLost = true ∧ u.mq = [] ∧ u.raised Al.cpAbsent 0 = true ∧ Answered w u m.req m.op m.w1 0x18 [] ∧
      Frame (.cpLost :: .mq :: .inService :: .lhp :: logParts) logKeys w u)

/-- R456, R458: RESET_REQ 3 resets a domain, whose power and credit stay in place; CHILD_RESET sends RESET to a child. -/
def Obligations.DomainAndChildResets : Prop :=
  (∀ (t : Tick) (r : Req) (d : Nat) (s : State), d < 12 → Reaches (s.upTo t) r 0x5070 3 [3, d] (0x300 + d) →
    (s.upTo t).domState d = 1 → (∀ n, n ∈ pathsOf d → (s.upTo t).txOn (s.upTo t).time_ n = false) →
    (∀ n, n < 28 → ((s.upTo t).lock n).owner ≠ 0 → ownedBy d ((s.upTo t).lock n).owner = false) →
    Completes (.resetReqDomain t r d) t s fun w u =>
      u.domState d = 4 ∧ smFind u.power.waking d = some (w.now + 10 * tUs) ∧ u.o 0x5070 7 = (w.o 0x5070 7 + 1) % 2 ^ 32 ∧
      u.pin .trsw d = 0 ∧ u.pin .lnabyp d = 1 ∧
      (∀ n, n ∈ pathsOf d → u.pin .txon n = 0 ∧ u.pin .driver n = 0 ∧ u.pin .rxStage n = 0) ∧
      Answered w u r 2 (objWord 0x5070 3) 0 [] ∧ Frame (.power :: .rf :: writeParts) [key 0x5022 (d + 1), key 0x5070 7] w u) ∧
  (∀ (t : Tick) (r : Req) (d : Nat) (s : State), d = 18 ∨ d = 21 → Reaches (s.upTo t) r 0x5070 3 [3, d] (0x300 + d) →
    Completes (.resetReqDomain t r d) t s fun w u =>
      Answered w u r 2 (objWord 0x5070 3) 0xA0 [] ∧ Frame writeParts [] w u) ∧
  (∀ (t : Tick) (r : Req) (n v : Nat) (s : State), n < 2 → v < 0x10000 → Reaches (s.upTo t) r 0x5071 (n + 1) (objBytes 0x5071 1 v) v →
    (s.upTo t).active (n + 1) = true → r.kind ≠ 2 →
    Completes (.childReset t r n v) t s fun w u =>
      u.port (n + 1) = { w.port (n + 1) with
        outCtl := (w.port (n + 1)).outCtl ++ [lmg 0x20 (v / 256) (v % 256) 0 0 0], busyUntil := (u.port (n + 1)).busyUntil } ∧
      (∀ p, p ≠ n + 1 → u.port p = w.port p) ∧
      Answered w u r 2 (objWord 0x5071 (n + 1)) 0 [] ∧ Frame writeParts [] w u) ∧
  (∀ (t : Tick) (r : Req) (n v : Nat) (s : State), n < 2 → v < 0x10000 → Reaches (s.upTo t) r 0x5071 (n + 1) (objBytes 0x5071 1 v) v →
    (s.upTo t).active (n + 1) = false →
    Completes (.childReset t r n v) t s fun w u =>
      Answered w u r 2 (objWord 0x5071 (n + 1)) 0xA1 [] ∧ Frame writeParts [] w u)

/-- R19, R437, R449, R451, R452, R400: start-up and the wake go on step by step; a boot candidate that fails its checks leaves the
turn to the other copy; VID rises one step in 20 ms; the older flash mirror is written; refused credit is asked for again. -/
def Obligations.StartUpSteps : Prop :=
  (∀ (t : Tick) (bad : List Nat) (s : State), (s.upTo t).start.held = 0 → (s.upTo t).start.step = 1 → (s.upTo t).start.ok = true →
    (s.upTo t).granted .pll 3 = true → bits ((s.upTo t).o 0x5070 2) 2 2 = 0 →
    Completes (.startupStepDone t bad) t s fun w u =>
      u.domState Dom.cp = 1 ∧ u.pllLocked 3 = true ∧ u.lhp = { w.lhp with hxoff := false } ∧
      u.start = { w.start with step := 2, boot := [0, 1], romWait := false, ok := u.start.ok, tryAt := w.now } ∧
      Frame [.start, .lhp, .clk, .grants, .rf] [key 0x5022 (Dom.cp + 1), key 0x2420 8, key 0x5005 (Dom.cp + 1)] w u) ∧
  (∀ (t : Tick) (v0 v1 : Nat) (bundle : List Nat) (s : State), (s.upTo t).start.step = 2 → (s.upTo t).granted .fwVerify 0 = true →
    (s.upTo t).start.boot = [0, 1] → (s.upTo t).start.romWait = false → formatOk (bundle.take 512) = false →
    Completes (.bootCandidateDone t v0 v1 bundle) t s fun w u =>
      u.start = { w.start with boot := [1], ok := u.start.ok, tryAt := w.now } ∧
      Frame [.start, .grants, .rf] [key 0x5005 (Dom.cp + 1)] w u) ∧
  (∀ (t : Tick) (g : Nat) (s : State), (s.upTo t).start.vidGoal = some g → (s.upTo t).start.vidAt + 20 * tMs ≤ (s.upTo t).now →
    bookedOf ((s.upTo t).base rCore) ((s.upTo t).factorAt ((s.upTo t).start.vid + 1) rCore) ≤ (s.upTo t).cap rCore →
    (s.upTo t).start.vid < 31 → (s.upTo t).start.step ≠ 6 →
    Completes (.vidStep t) t s fun w u =>
      u.start = { w.start with
        vid := w.start.vid + 1, vidAt := w.now, vidGoal := if g ≤ w.start.vid + 1 then none else some g } ∧
      u.o 0x4800 2 = w.start.vid + 1 ∧ u.o 0x4800 3 = 900 + 5 * (w.start.vid + 1) ∧
      Frame [.start] [key 0x4800 2, key 0x4800 3] w u) ∧
  (∀ (t : Tick) (a b : Nat) (x y : SMap Nat) (s : State), (s.upTo t).start.mirrors = [some (a, x), some (b, y)] → a < b → b + 1 < 2 ^ 32 →
    (s.upTo t).start.mirrorAt + 3600 * tSec ≤ (s.upTo t).now → (s.upTo t).cpAbsent = none →
    Completes (.flashMirrorWrite t) t s fun w u =>
      u.start = { w.start with mirrors := [some (b + 1, w.storeImage), some (b, y)], mirrorAt := w.now, credAt := none } ∧
      Frame [.start] [] w u) ∧
  (∀ (t : Tick) (bad : List Nat) (s : State), (s.upTo t).power.wakeStep = 4 → (s.upTo t).power.wakeOk = true →
    (s.upTo t).domState Dom.bf = 0 → (s.upTo t).granted .dom Dom.bf = false → (s.upTo t).fits noCost (domCost Dom.bf) = true →
    Completes (.wakeStepDone t bad) t s fun w u =>
      u.power.wakeStep = 5 ∧ u.power.wakeOk = true ∧ u.domState Dom.bf = 4 ∧ u.costOf .dom Dom.bf = domCost Dom.bf ∧
      smFind u.power.waking Dom.bf = some w.now ∧ Frame [.power, .grants, .rf] [key 0x5022 (Dom.bf + 1)] w u) ∧
  (∀ (t : Tick) (d : Nat) (x : Tick) (s : State), (s.upTo t).start.step = 9 → (s.upTo t).power.wakeStep = 0 →
    (s.upTo t).power.pend = [(d, x)] → x + 100 * tUs ≤ (s.upTo t).now → d < 20 → (s.upTo t).domState d = 0 →
    (s.upTo t).power.dormant = false → (s.upTo t).start.vidGoal = none →
    (s.upTo t).fits ((s.upTo t).costOf .dom d) (domCost d) = true → (∀ n, n < 16 → ((s.upTo t).ch n).retryAt = none) →
    (s.upTo t).sec.verify = none → (s.upTo t).sec.blowWait = none → (s.upTo t).sec.openWait = none → (s.upTo t).sec.attWait = none →
    Completes (.ledgerRetry t) t s fun w u =>
      u.domState d = 4 ∧ u.power.pend = [] ∧ smFind u.power.waking d = some w.now ∧ u.costOf .dom d = domCost d ∧
      u.o 0x5050 4 = (w.o 0x5050 4 + 1) % 2 ^ 32 ∧ Frame [.power, .grants, .rf] [key 0x5022 (d + 1), key 0x5050 4] w u)

/-! ### Boundaries and activations (R13, R20, R125, R136, R152, R341, R395) -/

/-- The rules that name a boundary. A slot of RADIO_SCS that is a nap slot is counted, and after the last of a run every enabled path's
chains restart (R99, R113, R395). At a slot of the grid's own numerology (the model's choice, assumption 23), where no commit activates,
pending once-per-slot alarms are raised, counters whose CLEAR was written become zero, temperature bands take effect, and paths cleared of
a fault may transmit again. At a symbol, attenuations whose instant has come are in force (R135, R136), TX symbols of blocked paths are
counted (R152), and a child whose removal is due is removed (R125). At a frame, a child that qualifies is admitted. -/
def Obligations.Boundaries : Prop :=
  (∀ (t : Tick) (scs : Nat) (n : Int) (s : State), scs < 2 → (s.upTo t).slotStart scs n ≤ (s.upTo t).time_ → NoneDue (s.upTo t) →
    (s.upTo t).gridScs ≠ scs → (s.upTo t).a 0x2020 2 = scs → (s.upTo t).napSlot n = true ∨ (s.upTo t).power.napped = false →
    Completes (.slotBoundary t scs n) t s fun w u =>
      u.o 0x5050 2 = w.counted 0x5050 2 (if w.napSlot n = true then 1 else 0) ∧
      u.power = { w.power with napped := w.napSlot n } ∧ Frame [.power] [key 0x5050 2] w u) ∧
  (∀ (t : Tick) (scs : Nat) (n : Int) (s : State), scs < 2 → (s.upTo t).slotStart scs n ≤ (s.upTo t).time_ → NoneDue (s.upTo t) →
    (s.upTo t).gridScs ≠ scs → (s.upTo t).a 0x2020 2 = scs → (s.upTo t).napSlot n = false → (s.upTo t).power.napped = true →
    Completes (.slotBoundary t scs n) t s fun w u =>
      u.power = { w.power with napped := false, napping := false } ∧
      u.o 0x3031 0x0C = w.counted 0x3031 0x0C (allPaths.filter (w.txEnAct w.time_)).length ∧
      u.o 0x3035 6 = w.counted 0x3035 6 (allPaths.filter (w.rxEnAct w.time_)).length ∧
      u.dl = { w.dl with supp := u.dl.supp } ∧ u.ul = { w.ul with supp := u.ul.supp } ∧
      Frame [.power, .dl, .ul] [key 0x3031 0x0C, key 0x3035 6] w u) ∧
  (∀ (t : Tick) (scs : Nat) (n : Int) (s : State), scs < 2 → (s.upTo t).slotStart scs n ≤ (s.upTo t).time_ → NoneDue (s.upTo t) →
    (s.upTo t).gridScs = scs →
    Completes (.slotBoundary t scs n) t s fun w u =>
      u.slotAlarms = [] ∧ (∀ c d, (c, d) ∈ w.slotAlarms → c ≠ Al.ledgerOver → u.raised c d = true) ∧
      (∀ i lo m j, i ∈ w.clears → slotClears i = some (lo, m) → j < m → u.o i (lo + j) = 0) ∧
      (∀ i, i ∈ u.clears ↔ i ∈ w.clears ∧ slotClears i = none ∧ i ≠ 0x4216) ∧
      (w.cpLost = false → ∀ a, a < 14 → u.o 0x7102 (a + 1) = smGet 2 w.hk.areaNext a % 2 ^ 8) ∧
      (∀ r, r < 8 → u.raised Al.ledgerOver r = decide (u.cap r < u.booked r)) ∧
      (∀ c, c < 16 → u.o (chIdx9 c) 0x0B =
        if w.o (chIdx9 c) 3 = 0x15 ∧ w.o (chIdx9 c) 0x0B < 255 then w.o (chIdx9 c) 0x0B + 1 else w.o (chIdx9 c) 0x0B) ∧
      Frame [.obj, .act, .free, .alarms, .log, .slotAlarms, .clears, .locks, .grants, .band, .power, .ports, .dl, .ul, .tbl, .rf, .clk, .dpd,
        .cal, .hk, .sec, .start] [] w u) ∧
  (∀ (t : Tick) (scs : Nat) (n : Int) (k j p v : Nat) (T : Int) (s : State), scs < 2 → k < 14 →
    (s.upTo t).tAir scs n k ≤ (s.upTo t).time_ → NoneDue (s.upTo t) → (s.upTo t).dl.segs = [] → (s.upTo t).gridScs = scs →
    (s.upTo t).a 0x2020 2 ≠ scs → ((s.upTo t).chst 1).removeNow = false → ((s.upTo t).chst 2).removeNow = false →
    (s.upTo t).clk.hand = none → j < 2 → p < 96 →
    (s.upTo t).rf.atten = [(j, p, v, T)] → T ≤ (s.upTo t).time_ →
    Completes (.symbolBoundary t scs n k) t s fun w u =>
      u.a (0x2002 + j) (p + 1) = v % 2 ^ 16 ∧ u.rf = { w.rf with atten := [] } ∧
      (∀ a b, key a b ≠ key (0x2002 + j) (p + 1) → u.a a b = w.a a b) ∧
      (∀ l, l < 4 → (u.lo l).step = none ∧ (∀ d, (w.lo l).step = some d →
        u.o (loIdx l) 0x0D = (((w.o (loIdx l) 0x0D : Int) + d) % 2048).toNat)) ∧
      (∀ c, c < 16 → u.o (chIdx9 c) 0x0B =
        if w.o (chIdx9 c) 3 = 0x16 ∧ w.o (chIdx9 c) 0x0B < 255 then w.o (chIdx9 c) 0x0B + 1 else w.o (chIdx9 c) 0x0B) ∧
      u.dl = { w.dl with cfgs := u.dl.cfgs } ∧
      Frame [.act, .rf, .clk, .dl] (trigKeys ++ (List.range 4).map (fun l => key (loIdx l) 0x0D)) w u) ∧
  (∀ (t : Tick) (scs : Nat) (n : Int) (k : Nat) (s : State), scs < 2 → k < 14 → (s.upTo t).tAir scs n k ≤ (s.upTo t).time_ →
    NoneDue (s.upTo t) → (s.upTo t).gridScs ≠ scs → (s.upTo t).a 0x2020 2 = scs → ((s.upTo t).chst 1).removeNow = false →
    ((s.upTo t).chst 2).removeNow = false → txCode ((s.upTo t).patCode (s.upTo t).time_ n k) = true →
    rxCode ((s.upTo t).patCode (s.upTo t).time_ n k) = false → (s.upTo t).a 0x5040 4 = 0 → (s.upTo t).cal.step ≠ 9 →
    Completes (.symbolBoundary t scs n k) t s fun w u =>
      u.o 0x2130 3 =
        w.counted 0x2130 3 (allPaths.filter (fun p => w.txOn w.time_ p && (bit (w.block p) 0 || bit (w.block p) 3))).length ∧
      u.dl = { w.dl with dozing := [] } ∧ Frame [.dl] [key 0x2130 3] w u) ∧
  (∀ (t : Tick) (scs : Nat) (n : Int) (k p : Nat) (s : State), scs < 2 → k < 14 → (s.upTo t).tAir scs n k ≤ (s.upTo t).time_ →
    NoneDue (s.upTo t) → (s.upTo t).gridScs ≠ scs → (s.upTo t).a 0x2020 2 ≠ scs → p = 1 ∨ p = 2 →
    ((s.upTo t).chst (3 - p)).removeNow = false →
    ((s.upTo t).chst p).removeNow = true → (s.upTo t).chState p = 1 →
    Completes (.symbolBoundary t scs n k) t s fun w u =>
      u.chState p = 2 ∧ u.o (chIdx p) 0x0C = (w.o (chIdx p) 0x0C + 1) % 2 ^ 32 ∧ u.raised Al.ulChildRemoved p = true ∧
      u.chst p = { w.chst p with run := 0, wellFormed := false, removeNow := false, admitFrom := none } ∧
      u.chst (3 - p) = w.chst (3 - p) ∧ Frame (.ul :: logParts) (key (chIdx p) 1 :: key (chIdx p) 0x0C :: logKeys) w u) ∧
  (∀ (t : Tick) (s : State),
    Completes (.frameBoundary t) t s fun w u =>
      (∀ p, p = 1 ∨ p = 2 → if w.chState p = 2 ∧ w.active p = true ∧ smGet false w.time.childLocked (p - 1) = true ∧
          (w.chst p).wellFormed = true
        then u.chState p = 1 ∧ u.raised Al.ulChildRemoved p = false ∧ u.chst p = { w.chst p with
          admitFrom := some (w.slotStart 0 (w.slotOf 0 w.time_ - w.slotOf 0 w.time_ % 10)), run := 0, removeNow := false }
        else u.chState p = w.chState p ∧ u.chst p = w.chst p) ∧
      Frame (.ul :: logParts) (key (chIdx 1) 1 :: key (chIdx 2) 1 :: logKeys) w u)

/-- R341: at an activation the commits whose instant has come are applied and are no longer pending; the others stay. What a commit of
staged values sets is in force afterwards, and nothing else is, but for the objects that the activation itself moves: table swaps,
the synthesisers' words, routes, a port that goes down, the predistorter's bank select and the bundle swap. -/
def Obligations.Activation : Prop :=
  (∀ (t : Tick) (s : State), (∀ c, c ∈ (s.upTo t).commits → (s.upTo t).time_ < c.at_) →
    Completes (.commitActivation t) t s fun w u => Frame [] [] w u) ∧
  (∀ (t : Tick) (c : PCommit) (l1 l2 : List PCommit) (s : State), (s.upTo t).commits = l1 ++ c :: l2 → c.at_ ≤ (s.upTo t).time_ →
    (∀ d, d ∈ l1 ++ l2 → (s.upTo t).time_ < d.at_) → (c.vals.map Prod.fst).Pairwise (· < ·) → (∀ x, x ∈ c.vals → x.1 < 2 ^ 24) →
    smFind c.vals (key 0x8000 5) ≠ some 1 →
    Completes (.commitActivation t) t s fun w u =>
      u.commits = l1 ++ l2 ∧
      (∀ i j, i < 2 ^ 16 → j < 2 ^ 8 → i ∉ [0x1101, 0x1102, 0x2420, 0x3100, 0x3101, 0x3200, 0x3201, 0x4005, 0x6000, 0x6001, 0x6002, 0x8000] ++
          (List.range 4).map loIdx →
        u.a i j = match smFind c.vals (key i j) with
          | some v => v % 2 ^ (8 * width (key i j))
          | none => w.a i j) ∧
      Frame [.obj, .act, .commits, .held, .alarms, .log, .slotAlarms, .stage, .locks, .mq, .inService, .mTags, .lhp, .grants, .power, .ports,
        .lanes, .time, .dl, .ul, .tbl, .rf, .clk, .dpd, .cal, .dma, .hk, .sec, .mem, .past] [] w u)

/-! ### Rules of one sentence, and of every command -/

/-- R18: a ledger request is granted whole or refused whole. Granted, the holder holds exactly the cost it asked for; refused, it
holds what it held, and the refusal is counted for its domain. -/
def Obligations.LedgerRequestsAreWhole : Prop :=
  (∀ (k : GKind) (n : Nat) (cost : List Nat) (dom : Nat) (w : State), dom < 22 →
    ((w.ask k n cost dom).1 = true → (∀ r, r < 8 → ((w.ask k n cost dom).2.costOf k n).getD r 0 = cost.getD r 0) ∧
      (∀ j m, (j, m) ≠ (k, n) → (w.ask k n cost dom).2.costOf j m = w.costOf j m) ∧ Frame [.grants, .rf] [] w (w.ask k n cost dom).2) ∧
    ((w.ask k n cost dom).1 = false → (w.ask k n cost dom).2.o 0x5005 (dom + 1) = (w.o 0x5005 (dom + 1) + 1) % 2 ^ 32 ∧
      Frame [] [key 0x5005 (dom + 1)] w (w.ask k n cost dom).2))

/-- R375: a descriptor with LENGTH 0 ends at once with EMPTY, whatever its addresses; nothing moves but its own word 5; its
completion event occurs; and with WAIT 1 it waits for a trigger, and takes one. -/
def Obligations.EmptyDescriptor : Prop :=
  (∀ (t : Tick) (n op : Nat) (s : State), op < 3 → MemOk s → DescEmpty (s.upTo t) n op →
    bit ((s.upTo t).rd32 ((s.upTo t).o (chIdx9 n) 0x0A)) 26 = false ∨ (s.upTo t).o (chIdx9 n) 3 = 0 ∨ 0 < (s.upTo t).o (chIdx9 n) 0x0B →
    Completes (startOf t n op) t s fun w u =>
      u.rd32 (w.o (chIdx9 n) 0x0A + 20) = 2 * 2 ^ 28 ∧
      (∀ a, (a < w.o (chIdx9 n) 0x0A + 20 ∨ w.o (chIdx9 n) 0x0A + 24 ≤ a) → u.rd8 a = w.rd8 a) ∧
      u.o (chIdx9 n) 0x0C = (w.o (chIdx9 n) 0x0C + 1) % 2 ^ 32 ∧
      (∀ c, c < 16 → c ≠ n → u.o (chIdx9 c) 0x0B =
        if w.o (chIdx9 c) 3 = 1 + n ∧ w.o (chIdx9 c) 0x0B < 255 then w.o (chIdx9 c) 0x0B + 1 else w.o (chIdx9 c) 0x0B) ∧
      u.o (chIdx9 n) 0x0B = (w.o (chIdx9 n) 0x0B -
          (if bit (w.rd32 (w.o (chIdx9 n) 0x0A)) 26 = true ∧ w.o (chIdx9 n) 3 ≠ 0 then 1 else 0)) +
        (if w.o (chIdx9 n) 3 = 1 + n ∧ w.o (chIdx9 n) 0x0B -
          (if bit (w.rd32 (w.o (chIdx9 n) 0x0A)) 26 = true ∧ w.o (chIdx9 n) 3 ≠ 0 then 1 else 0) < 255 then 1 else 0) ∧
      (if bit (w.rd32 (w.o (chIdx9 n) 0x0A)) 27 = true then
        u.o (chIdx9 n) 9 = 4 ∧ u.o (chIdx9 n) 0x0A = w.o (chIdx9 n) 0x0A ∧ u.costOf .dmaChan n = noCost else
        u.o (chIdx9 n) 9 = 3 ∧ u.o (chIdx9 n) 0x0A = w.rd32 (w.o (chIdx9 n) 0x0A + 16) ∧ (u.ch n).fetch = true) ∧
      (∀ m, m ≠ n → u.ch m = w.ch m) ∧
      Frame [.dma, .mem, .grants, .rf, .power] (key (chIdx9 n) 9 :: key (chIdx9 n) 0x0A :: key (chIdx9 n) 0x0C :: trigKeys) w u) ∧
  (∀ (t : Tick) (n op : Nat) (s : State), op < 3 → DescEmpty (s.upTo t) n op →
    bit ((s.upTo t).rd32 ((s.upTo t).o (chIdx9 n) 0x0A)) 26 = true → (s.upTo t).o (chIdx9 n) 3 ≠ 0 → (s.upTo t).o (chIdx9 n) 0x0B = 0 →
    Completes (startOf t n op) t s fun w u => u.o (chIdx9 n) 9 = 2 ∧ Frame [] [key (chIdx9 n) 9] w u)

/-! ### The queue, the step, and reset -/

/-- A step runs the command at the front of the queue on the state with the queue's rest. -/
def Obligations.StepRunsTheFrontCommand : Prop :=
  ∀ (c : Instr) (l : List Instr) (s : State), step { s with pending := c :: l } = exec c { s with pending := l }

/-- On an empty queue the block idles (the model's choice, assumption 1). -/
def Obligations.EmptyQueueIdles : Prop := ∀ s : State, s.pending = [] → step s = .next s

/-- Every step keeps the memory's canonical form, never moves local time backward, takes one command from the front of the queue and
leaves the rest in order; on an empty queue it changes nothing (the model's choice, assumption 1). -/
def Obligations.EveryStepKeepsMemoryTimeAndQueue : Prop :=
  ∀ s u : State, MemOk s → step s = .next u →
    MemOk u ∧ s.now ≤ u.now ∧ u.pending = s.pending.tail ∧ (s.pending = [] → u = s)

/-- Reset meets the invariant of every step, with nothing waiting. -/
def Obligations.ResetMeetsTheInvariant : Prop := MemOk State.reset ∧ State.reset.pending = [] ∧ State.reset.now = 0

/-- Any queue runs to its end: no command is refused or faults, each takes one step, in order, memory keeps its form
and local time does not go back. -/
def Obligations.QueuesRunToTheirEnd : Prop :=
  ∀ (k : Nat) (s : State), k ≤ s.pending.length → MemOk s →
    ∃ u, stepN k s = .next u ∧ u.pending = s.pending.drop k ∧ MemOk u ∧ s.now ≤ u.now

/-- What reset leaves, by the rules that say so: every rail's cap at its maximum (R17), only AO powered and booked (R17, R388), every
bank invalid (R75), no lock held, nothing staged and no commit pending, every channel free and IDLE and every buffer IDLE (R381), time
unlocked (R291), and every object that has a default at its default (assumption 3 for those written "—"). -/
def Obligations.ResetLeaves : Prop :=
  (List.range 8).map State.reset.cap = [3800, 2200, 1200, 200, 400, 150, 50, 5] ∧
  (∀ d, d < 22 → State.reset.domOn d = decide (d = Dom.ao)) ∧ (∀ r, r < 6 → State.reset.booked r = 0) ∧
  (∀ b, b < 4 → bit (State.reset.o 0x3100 6) b = false ∧ bit (State.reset.o 0x3101 6) b = false) ∧
  (∀ n, State.reset.lock n = lockFree) ∧ State.reset.stage = none ∧ State.reset.commits = [] ∧ State.reset.alarms = [] ∧
  (∀ n, n < 16 → State.reset.o (chIdx9 n) 1 = 0 ∧ State.reset.o (chIdx9 n) 9 = 0) ∧ (∀ b, b < 4 → State.reset.o (capIdx b) 8 = 0) ∧
  State.reset.o 0x1200 0x0B = 0 ∧ (∀ a, State.reset.rd8 a = 0) ∧
  (∀ i j, key i j ≠ key 0x5022 22 → State.reset.o i j = dflt (key i j) ∧ State.reset.a i j = dflt (key i j))

end Statements
end

