-- ==== Sys2Proof/Laws/Maps.lean ====
section
/-!
SUPPORT. What the sparse maps and the lists of fixed things do: a read after a write, and the canonical form.
-/

namespace Sys2Proof.Machine

variable {α : Type}

@[simp] theorem smGet_nil (d : α) (i : Nat) : smGet d [] i = d := rfl

theorem smGet_erase (d : α) (m : SMap α) (i j : Nat) :
    smGet d (smErase m i) j = if j = i then d else smGet d m j := by
  induction m with
  | nil => simp [smErase]
  | cons a t ih =>
    obtain ⟨k, v⟩ := a
    simp only [smErase]
    split <;> rename_i h
    · subst h; rw [ih]; simp only [smGet]; split <;> rename_i h2
      · rfl
      · rw [if_neg (fun e => h2 e.symm)]
    · simp only [smGet]
      split <;> rename_i h2
      · subst h2; rw [if_neg h]
      · exact ih

theorem smGet_insert (d : α) (m : SMap α) (i j : Nat) (x : α) :
    smGet d (smInsert m i x) j = if j = i then x else smGet d m j := by
  induction m with
  | nil => simp [smInsert, smGet, eq_comm]
  | cons a t ih =>
    obtain ⟨k, v⟩ := a
    simp only [smInsert]
    split <;> rename_i h
    · subst h; simp only [smGet, eq_comm]; split <;> simp_all
    · split <;> rename_i h2
      · simp only [smGet, eq_comm (a := j)]
      · simp only [smGet, ih]; split <;> rename_i h3
        · subst h3; rw [if_neg h]
        · rfl

variable [DecidableEq α]

/-- A read after a write. -/
@[simp] theorem smGet_set (d : α) (m : SMap α) (i j : Nat) (x : α) :
    smGet d (smSet d m i x) j = if j = i then x else smGet d m j := by
  unfold smSet
  split <;> rename_i h
  · rw [smGet_erase, h]
  · exact smGet_insert d m i j x

theorem smGet_set_same (d : α) (m : SMap α) (i : Nat) (x : α) : smGet d (smSet d m i x) i = x := by simp

omit [DecidableEq α] in
theorem smGet_erase_ne (d : α) (m : SMap α) {i j : Nat} (h : j ≠ i) : smGet d (smErase m i) j = smGet d m j := by
  rw [smGet_erase, if_neg h]

/-- A write leaves every other key, whatever the default. -/
theorem smGet_set_ne (d d' : α) (m : SMap α) {i j : Nat} (x : α) (h : j ≠ i) :
    smGet d (smSet d' m i x) j = smGet d m j := by
  unfold smSet
  split
  · exact smGet_erase_ne d m h
  · rw [smGet_insert, if_neg h]

/-- A read of one of n things after one of them is put through a function. -/
@[simp] theorem smGet_amod (n : Nat) (d : α) (m : SMap α) (i j : Nat) (f : α → α) :
    smGet d (amod n d m i f) j = if j = i ∧ i < n then f (smGet d m i) else smGet d m j := by
  unfold amod
  split <;> rename_i h
  · simp [h]
  · simp [h]

theorem smFrom_mono {d : α} {a b : Nat} (h : a ≤ b) {m : SMap α} (hm : smFrom d b m = true) : smFrom d a m = true := by
  cases m with
  | nil => rfl
  | cons x t => simp only [smFrom, Bool.and_eq_true, decide_eq_true_eq] at hm ⊢; exact ⟨⟨by omega, hm.1.2⟩, hm.2⟩

theorem smFrom_erase {d : α} {b : Nat} {m : SMap α} (i : Nat) (h : smFrom d b m = true) : smFrom d b (smErase m i) = true := by
  induction m generalizing b with
  | nil => rfl
  | cons x t ih =>
    simp only [smFrom, Bool.and_eq_true, decide_eq_true_eq] at h
    simp only [smErase]
    split
    · exact smFrom_mono (by omega) (ih h.2)
    · simp only [smFrom, Bool.and_eq_true, decide_eq_true_eq]; exact ⟨h.1, ih h.2⟩

theorem smFrom_insert {d : α} {b : Nat} {m : SMap α} {i : Nat} {x : α} (hx : x ≠ d) (hb : b ≤ i) (h : smFrom d b m = true) :
    smFrom d b (smInsert m i x) = true := by
  induction m generalizing b with
  | nil => simp [smInsert, smFrom, hb, hx]
  | cons y t ih =>
    simp only [smFrom, Bool.and_eq_true, decide_eq_true_eq] at h
    simp only [smInsert]
    split <;> rename_i h1
    · simp only [smFrom, Bool.and_eq_true, decide_eq_true_eq]; exact ⟨⟨hb, hx⟩, h1 ▸ h.2⟩
    · split <;> rename_i h2
      · simp only [smFrom, Bool.and_eq_true, decide_eq_true_eq]
        exact ⟨⟨hb, hx⟩, ⟨by omega, h.1.2⟩, h.2⟩
      · simp only [smFrom, Bool.and_eq_true, decide_eq_true_eq]; exact ⟨h.1, ih (by omega) h.2⟩

/-- A write keeps the canonical form. -/
theorem smWf_set {d : α} {m : SMap α} (i : Nat) (x : α) (h : smWf d m = true) : smWf d (smSet d m i x) = true := by
  unfold smSet
  split <;> rename_i hx
  · exact smFrom_erase i h
  · exact smFrom_insert hx (Nat.zero_le _) h

theorem smGet_lt {d : α} {b i : Nat} {m : SMap α} (h : smFrom d b m = true) (hi : i < b) : smGet d m i = d := by
  induction m generalizing b with
  | nil => rfl
  | cons x t ih =>
    simp only [smFrom, Bool.and_eq_true, decide_eq_true_eq] at h
    simp only [smGet]
    rw [if_neg (by omega)]
    exact ih h.2 (by omega)

/-- Two maps in canonical form that read the same are the same. -/
theorem smFrom_ext {d : α} {a b : Nat} {m n : SMap α} (hm : smFrom d a m = true) (hn : smFrom d b n = true)
    (h : ∀ i, smGet d m i = smGet d n i) : m = n := by
  induction m generalizing a b n with
  | nil =>
    cases n with
    | nil => rfl
    | cons y u =>
      simp only [smFrom, Bool.and_eq_true, decide_eq_true_eq] at hn
      have := h y.1
      simp only [smGet, if_true] at this
      exact absurd this.symm hn.1.2
  | cons x t ih =>
    simp only [smFrom, Bool.and_eq_true, decide_eq_true_eq] at hm
    cases n with
    | nil =>
      have := h x.1
      simp only [smGet, if_true] at this
      exact absurd this hm.1.2
    | cons y u =>
      simp only [smFrom, Bool.and_eq_true, decide_eq_true_eq] at hn
      have hk : x.1 = y.1 := by
        rcases Nat.lt_trichotomy x.1 y.1 with hl | he | hl
        · have := h x.1
          simp only [smGet, if_true] at this
          rw [if_neg (by omega), smGet_lt hn.2 (by omega)] at this
          exact absurd this hm.1.2
        · exact he
        · have := h y.1
          simp only [smGet, if_true] at this
          rw [if_neg (by omega), smGet_lt hm.2 (by omega)] at this
          exact absurd this.symm hn.1.2
      have hv : x.2 = y.2 := by
        have := h x.1
        simpa only [smGet, if_true, hk] using this
      have ht : t = u := by
        refine ih hm.2 hn.2 (fun i => ?_)
        by_cases hi : x.1 = i
        · rw [smGet_lt hm.2 (by omega), smGet_lt hn.2 (by omega)]
        · have := h i
          simp only [smGet] at this
          rwa [if_neg hi, if_neg (by omega)] at this
      rw [ht, Prod.ext hk hv]

end Sys2Proof.Machine
end

