-- ==== Sys2Proof/Laws/State.lean ====
section
/-!
SUPPORT. What each plain update of the state leaves as it was, field by field.
-/

namespace Sys2Proof.Machine

variable (s : State)

@[simp] theorem State.seto_keeps (i j v : Nat) :
    (s.seto i j v).now = s.now ∧ (s.seto i j v).timeBase = s.timeBase ∧ (s.seto i j v).pending = s.pending ∧
    (s.seto i j v).act = s.act ∧ (s.seto i j v).held = s.held ∧ (s.seto i j v).free = s.free ∧ (s.seto i j v).mem = s.mem ∧
    (s.seto i j v).alarms = s.alarms ∧ (s.seto i j v).log = s.log ∧ (s.seto i j v).slotAlarms = s.slotAlarms ∧
    (s.seto i j v).clears = s.clears ∧ (s.seto i j v).stage = s.stage ∧ (s.seto i j v).commits = s.commits ∧
    (s.seto i j v).locks = s.locks ∧ (s.seto i j v).cpAbsent = s.cpAbsent ∧ (s.seto i j v).cpLost = s.cpLost ∧
    (s.seto i j v).mq = s.mq ∧ (s.seto i j v).inService = s.inService ∧ (s.seto i j v).mTags = s.mTags ∧
    (s.seto i j v).lhp = s.lhp ∧ (s.seto i j v).swp = s.swp ∧ (s.seto i j v).grants = s.grants ∧ (s.seto i j v).band = s.band ∧
    (s.seto i j v).power = s.power ∧ (s.seto i j v).ports = s.ports ∧ (s.seto i j v).lanes = s.lanes ∧
    (s.seto i j v).hier = s.hier ∧ (s.seto i j v).time = s.time ∧ (s.seto i j v).dl = s.dl ∧ (s.seto i j v).ul = s.ul ∧
    (s.seto i j v).tbl = s.tbl ∧ (s.seto i j v).rf = s.rf ∧ (s.seto i j v).clk = s.clk ∧ (s.seto i j v).dpd = s.dpd ∧
    (s.seto i j v).cal = s.cal ∧ (s.seto i j v).dma = s.dma ∧ (s.seto i j v).hk = s.hk ∧ (s.seto i j v).sec = s.sec ∧
    (s.seto i j v).past = s.past ∧ (s.seto i j v).start = s.start ∧
    (s.seto i j v).time_ = s.time_ ∧ (∀ i' j', (s.seto i j v).a i' j' = s.a i' j') ∧
    (∀ T' i' j', (s.seto i j v).at_ T' i' j' = s.at_ T' i' j') := by
  and_intros <;> intros <;> rfl

@[simp] theorem State.seta_keeps (i j v : Nat) :
    (s.seta i j v).now = s.now ∧ (s.seta i j v).timeBase = s.timeBase ∧ (s.seta i j v).pending = s.pending ∧
    (s.seta i j v).obj = s.obj ∧ (s.seta i j v).held = s.held ∧ (s.seta i j v).free = s.free ∧ (s.seta i j v).mem = s.mem ∧
    (s.seta i j v).alarms = s.alarms ∧ (s.seta i j v).log = s.log ∧ (s.seta i j v).slotAlarms = s.slotAlarms ∧
    (s.seta i j v).clears = s.clears ∧ (s.seta i j v).stage = s.stage ∧ (s.seta i j v).commits = s.commits ∧
    (s.seta i j v).locks = s.locks ∧ (s.seta i j v).cpAbsent = s.cpAbsent ∧ (s.seta i j v).cpLost = s.cpLost ∧
    (s.seta i j v).mq = s.mq ∧ (s.seta i j v).inService = s.inService ∧ (s.seta i j v).mTags = s.mTags ∧
    (s.seta i j v).lhp = s.lhp ∧ (s.seta i j v).swp = s.swp ∧ (s.seta i j v).grants = s.grants ∧ (s.seta i j v).band = s.band ∧
    (s.seta i j v).power = s.power ∧ (s.seta i j v).ports = s.ports ∧ (s.seta i j v).lanes = s.lanes ∧
    (s.seta i j v).hier = s.hier ∧ (s.seta i j v).time = s.time ∧ (s.seta i j v).dl = s.dl ∧ (s.seta i j v).ul = s.ul ∧
    (s.seta i j v).tbl = s.tbl ∧ (s.seta i j v).rf = s.rf ∧ (s.seta i j v).clk = s.clk ∧ (s.seta i j v).dpd = s.dpd ∧
    (s.seta i j v).cal = s.cal ∧ (s.seta i j v).dma = s.dma ∧ (s.seta i j v).hk = s.hk ∧ (s.seta i j v).sec = s.sec ∧
    (s.seta i j v).past = s.past ∧ (s.seta i j v).start = s.start ∧
    (s.seta i j v).time_ = s.time_ ∧ (∀ i' j', (s.seta i j v).o i' j' = s.o i' j') := by
  and_intros <;> intros <;> rfl

@[simp] theorem State.setBoth_keeps (i j v : Nat) :
    (s.setBoth i j v).now = s.now ∧ (s.setBoth i j v).timeBase = s.timeBase ∧ (s.setBoth i j v).pending = s.pending ∧
    (s.setBoth i j v).held = s.held ∧ (s.setBoth i j v).free = s.free ∧ (s.setBoth i j v).mem = s.mem ∧
    (s.setBoth i j v).alarms = s.alarms ∧ (s.setBoth i j v).log = s.log ∧ (s.setBoth i j v).slotAlarms = s.slotAlarms ∧
    (s.setBoth i j v).clears = s.clears ∧ (s.setBoth i j v).stage = s.stage ∧ (s.setBoth i j v).commits = s.commits ∧
    (s.setBoth i j v).locks = s.locks ∧ (s.setBoth i j v).cpAbsent = s.cpAbsent ∧ (s.setBoth i j v).cpLost = s.cpLost ∧
    (s.setBoth i j v).mq = s.mq ∧ (s.setBoth i j v).inService = s.inService ∧ (s.setBoth i j v).mTags = s.mTags ∧
    (s.setBoth i j v).lhp = s.lhp ∧ (s.setBoth i j v).swp = s.swp ∧ (s.setBoth i j v).grants = s.grants ∧
    (s.setBoth i j v).band = s.band ∧ (s.setBoth i j v).power = s.power ∧ (s.setBoth i j v).ports = s.ports ∧
    (s.setBoth i j v).lanes = s.lanes ∧ (s.setBoth i j v).hier = s.hier ∧ (s.setBoth i j v).time = s.time ∧
    (s.setBoth i j v).dl = s.dl ∧ (s.setBoth i j v).ul = s.ul ∧ (s.setBoth i j v).tbl = s.tbl ∧ (s.setBoth i j v).rf = s.rf ∧
    (s.setBoth i j v).clk = s.clk ∧ (s.setBoth i j v).dpd = s.dpd ∧ (s.setBoth i j v).cal = s.cal ∧
    (s.setBoth i j v).dma = s.dma ∧ (s.setBoth i j v).hk = s.hk ∧ (s.setBoth i j v).sec = s.sec ∧
    (s.setBoth i j v).past = s.past ∧ (s.setBoth i j v).start = s.start ∧
    (s.setBoth i j v).time_ = s.time_ := by
  and_intros <;> intros <;> rfl

@[simp] theorem State.setBit_keeps (i j b : Nat) (v : Bool) :
    (s.setBit i j b v).now = s.now ∧ (s.setBit i j b v).timeBase = s.timeBase ∧ (s.setBit i j b v).pending = s.pending ∧
    (s.setBit i j b v).act = s.act ∧ (s.setBit i j b v).held = s.held ∧ (s.setBit i j b v).free = s.free ∧
    (s.setBit i j b v).mem = s.mem ∧ (s.setBit i j b v).alarms = s.alarms ∧ (s.setBit i j b v).log = s.log ∧
    (s.setBit i j b v).slotAlarms = s.slotAlarms ∧ (s.setBit i j b v).clears = s.clears ∧ (s.setBit i j b v).stage = s.stage ∧
    (s.setBit i j b v).commits = s.commits ∧ (s.setBit i j b v).locks = s.locks ∧ (s.setBit i j b v).cpAbsent = s.cpAbsent ∧
    (s.setBit i j b v).cpLost = s.cpLost ∧ (s.setBit i j b v).mq = s.mq ∧ (s.setBit i j b v).inService = s.inService ∧
    (s.setBit i j b v).mTags = s.mTags ∧ (s.setBit i j b v).lhp = s.lhp ∧ (s.setBit i j b v).swp = s.swp ∧
    (s.setBit i j b v).grants = s.grants ∧ (s.setBit i j b v).band = s.band ∧ (s.setBit i j b v).power = s.power ∧
    (s.setBit i j b v).ports = s.ports ∧ (s.setBit i j b v).lanes = s.lanes ∧ (s.setBit i j b v).hier = s.hier ∧
    (s.setBit i j b v).time = s.time ∧ (s.setBit i j b v).dl = s.dl ∧ (s.setBit i j b v).ul = s.ul ∧
    (s.setBit i j b v).tbl = s.tbl ∧ (s.setBit i j b v).rf = s.rf ∧ (s.setBit i j b v).clk = s.clk ∧
    (s.setBit i j b v).dpd = s.dpd ∧ (s.setBit i j b v).cal = s.cal ∧ (s.setBit i j b v).dma = s.dma ∧
    (s.setBit i j b v).hk = s.hk ∧ (s.setBit i j b v).sec = s.sec ∧ (s.setBit i j b v).past = s.past ∧ (s.setBit i j b v).start = s.start ∧
    (s.setBit i j b v).time_ = s.time_ ∧ (∀ i' j', (s.setBit i j b v).a i' j' = s.a i' j') ∧
    (∀ T' i' j', (s.setBit i j b v).at_ T' i' j' = s.at_ T' i' j') := by
  and_intros <;> intros <;> rfl

@[simp] theorem State.setoi_keeps (i j : Nat) (v : Int) :
    (s.setoi i j v).now = s.now ∧ (s.setoi i j v).timeBase = s.timeBase ∧ (s.setoi i j v).pending = s.pending ∧
    (s.setoi i j v).act = s.act ∧ (s.setoi i j v).held = s.held ∧ (s.setoi i j v).free = s.free ∧ (s.setoi i j v).mem = s.mem ∧
    (s.setoi i j v).alarms = s.alarms ∧ (s.setoi i j v).log = s.log ∧ (s.setoi i j v).slotAlarms = s.slotAlarms ∧
    (s.setoi i j v).clears = s.clears ∧ (s.setoi i j v).stage = s.stage ∧ (s.setoi i j v).commits = s.commits ∧
    (s.setoi i j v).locks = s.locks ∧ (s.setoi i j v).cpAbsent = s.cpAbsent ∧ (s.setoi i j v).cpLost = s.cpLost ∧
    (s.setoi i j v).mq = s.mq ∧ (s.setoi i j v).inService = s.inService ∧ (s.setoi i j v).mTags = s.mTags ∧
    (s.setoi i j v).lhp = s.lhp ∧ (s.setoi i j v).swp = s.swp ∧ (s.setoi i j v).grants = s.grants ∧
    (s.setoi i j v).band = s.band ∧ (s.setoi i j v).power = s.power ∧ (s.setoi i j v).ports = s.ports ∧
    (s.setoi i j v).lanes = s.lanes ∧ (s.setoi i j v).hier = s.hier ∧ (s.setoi i j v).time = s.time ∧ (s.setoi i j v).dl = s.dl ∧
    (s.setoi i j v).ul = s.ul ∧ (s.setoi i j v).tbl = s.tbl ∧ (s.setoi i j v).rf = s.rf ∧ (s.setoi i j v).clk = s.clk ∧
    (s.setoi i j v).dpd = s.dpd ∧ (s.setoi i j v).cal = s.cal ∧ (s.setoi i j v).dma = s.dma ∧ (s.setoi i j v).hk = s.hk ∧
    (s.setoi i j v).sec = s.sec ∧ (s.setoi i j v).past = s.past ∧ (s.setoi i j v).start = s.start ∧
    (s.setoi i j v).time_ = s.time_ ∧ (∀ i' j', (s.setoi i j v).a i' j' = s.a i' j') ∧
    (∀ T' i' j', (s.setoi i j v).at_ T' i' j' = s.at_ T' i' j') := by
  and_intros <;> intros <;> rfl

@[simp] theorem State.bump_keeps (i j n : Nat) :
    (s.bump i j n).now = s.now ∧ (s.bump i j n).timeBase = s.timeBase ∧ (s.bump i j n).pending = s.pending ∧
    (s.bump i j n).act = s.act ∧ (s.bump i j n).held = s.held ∧ (s.bump i j n).free = s.free ∧ (s.bump i j n).mem = s.mem ∧
    (s.bump i j n).alarms = s.alarms ∧ (s.bump i j n).log = s.log ∧ (s.bump i j n).slotAlarms = s.slotAlarms ∧
    (s.bump i j n).clears = s.clears ∧ (s.bump i j n).stage = s.stage ∧ (s.bump i j n).commits = s.commits ∧
    (s.bump i j n).locks = s.locks ∧ (s.bump i j n).cpAbsent = s.cpAbsent ∧ (s.bump i j n).cpLost = s.cpLost ∧
    (s.bump i j n).mq = s.mq ∧ (s.bump i j n).inService = s.inService ∧ (s.bump i j n).mTags = s.mTags ∧
    (s.bump i j n).lhp = s.lhp ∧ (s.bump i j n).swp = s.swp ∧ (s.bump i j n).grants = s.grants ∧ (s.bump i j n).band = s.band ∧
    (s.bump i j n).power = s.power ∧ (s.bump i j n).ports = s.ports ∧ (s.bump i j n).lanes = s.lanes ∧
    (s.bump i j n).hier = s.hier ∧ (s.bump i j n).time = s.time ∧ (s.bump i j n).dl = s.dl ∧ (s.bump i j n).ul = s.ul ∧
    (s.bump i j n).tbl = s.tbl ∧ (s.bump i j n).rf = s.rf ∧ (s.bump i j n).clk = s.clk ∧ (s.bump i j n).dpd = s.dpd ∧
    (s.bump i j n).cal = s.cal ∧ (s.bump i j n).dma = s.dma ∧ (s.bump i j n).hk = s.hk ∧ (s.bump i j n).sec = s.sec ∧
    (s.bump i j n).past = s.past ∧ (s.bump i j n).start = s.start ∧
    (s.bump i j n).time_ = s.time_ ∧ (∀ i' j', (s.bump i j n).a i' j' = s.a i' j') ∧
    (∀ T' i' j', (s.bump i j n).at_ T' i' j' = s.at_ T' i' j') := by
  unfold State.bump; split <;> and_intros <;> intros <;> rfl

@[simp] theorem State.zeroRange_keeps (i j n : Nat) :
    (s.zeroRange i j n).now = s.now ∧ (s.zeroRange i j n).timeBase = s.timeBase ∧ (s.zeroRange i j n).pending = s.pending ∧
    (s.zeroRange i j n).act = s.act ∧ (s.zeroRange i j n).held = s.held ∧ (s.zeroRange i j n).free = s.free ∧
    (s.zeroRange i j n).mem = s.mem ∧ (s.zeroRange i j n).alarms = s.alarms ∧ (s.zeroRange i j n).log = s.log ∧
    (s.zeroRange i j n).slotAlarms = s.slotAlarms ∧ (s.zeroRange i j n).clears = s.clears ∧ (s.zeroRange i j n).stage = s.stage ∧
    (s.zeroRange i j n).commits = s.commits ∧ (s.zeroRange i j n).locks = s.locks ∧ (s.zeroRange i j n).cpAbsent = s.cpAbsent ∧
    (s.zeroRange i j n).cpLost = s.cpLost ∧ (s.zeroRange i j n).mq = s.mq ∧ (s.zeroRange i j n).inService = s.inService ∧
    (s.zeroRange i j n).mTags = s.mTags ∧ (s.zeroRange i j n).lhp = s.lhp ∧ (s.zeroRange i j n).swp = s.swp ∧
    (s.zeroRange i j n).grants = s.grants ∧ (s.zeroRange i j n).band = s.band ∧ (s.zeroRange i j n).power = s.power ∧
    (s.zeroRange i j n).ports = s.ports ∧ (s.zeroRange i j n).lanes = s.lanes ∧ (s.zeroRange i j n).hier = s.hier ∧
    (s.zeroRange i j n).time = s.time ∧ (s.zeroRange i j n).dl = s.dl ∧ (s.zeroRange i j n).ul = s.ul ∧
    (s.zeroRange i j n).tbl = s.tbl ∧ (s.zeroRange i j n).rf = s.rf ∧ (s.zeroRange i j n).clk = s.clk ∧
    (s.zeroRange i j n).dpd = s.dpd ∧ (s.zeroRange i j n).cal = s.cal ∧ (s.zeroRange i j n).dma = s.dma ∧
    (s.zeroRange i j n).hk = s.hk ∧ (s.zeroRange i j n).sec = s.sec ∧ (s.zeroRange i j n).past = s.past ∧
    (s.zeroRange i j n).start = s.start ∧
    (s.zeroRange i j n).time_ = s.time_ ∧ (∀ i' j', (s.zeroRange i j n).a i' j' = s.a i' j') ∧
    (∀ T' i' j', (s.zeroRange i j n).at_ T' i' j' = s.at_ T' i' j') := by
  induction n with
  | zero => simp [State.zeroRange]
  | succ n ih => simpa [State.zeroRange] using ih

@[simp] theorem State.setDom_keeps (d v : Nat) :
    (s.setDom d v).now = s.now ∧ (s.setDom d v).timeBase = s.timeBase ∧ (s.setDom d v).pending = s.pending ∧
    (s.setDom d v).act = s.act ∧ (s.setDom d v).held = s.held ∧ (s.setDom d v).free = s.free ∧ (s.setDom d v).mem = s.mem ∧
    (s.setDom d v).alarms = s.alarms ∧ (s.setDom d v).log = s.log ∧ (s.setDom d v).slotAlarms = s.slotAlarms ∧
    (s.setDom d v).clears = s.clears ∧ (s.setDom d v).stage = s.stage ∧ (s.setDom d v).commits = s.commits ∧
    (s.setDom d v).locks = s.locks ∧ (s.setDom d v).cpAbsent = s.cpAbsent ∧ (s.setDom d v).cpLost = s.cpLost ∧
    (s.setDom d v).mq = s.mq ∧ (s.setDom d v).inService = s.inService ∧ (s.setDom d v).mTags = s.mTags ∧
    (s.setDom d v).lhp = s.lhp ∧ (s.setDom d v).swp = s.swp ∧ (s.setDom d v).grants = s.grants ∧ (s.setDom d v).band = s.band ∧
    (s.setDom d v).power = s.power ∧ (s.setDom d v).ports = s.ports ∧ (s.setDom d v).lanes = s.lanes ∧
    (s.setDom d v).hier = s.hier ∧ (s.setDom d v).time = s.time ∧ (s.setDom d v).dl = s.dl ∧ (s.setDom d v).ul = s.ul ∧
    (s.setDom d v).tbl = s.tbl ∧ (s.setDom d v).rf = s.rf ∧ (s.setDom d v).clk = s.clk ∧ (s.setDom d v).dpd = s.dpd ∧
    (s.setDom d v).cal = s.cal ∧ (s.setDom d v).dma = s.dma ∧ (s.setDom d v).hk = s.hk ∧ (s.setDom d v).sec = s.sec ∧
    (s.setDom d v).past = s.past ∧ (s.setDom d v).start = s.start ∧
    (s.setDom d v).time_ = s.time_ ∧ (∀ i' j', (s.setDom d v).a i' j' = s.a i' j') ∧
    (∀ T' i' j', (s.setDom d v).at_ T' i' j' = s.at_ T' i' j') := by
  and_intros <;> intros <;> rfl

@[simp] theorem State.setTime_keeps (v : Nat) :
    (s.setTime v).now = s.now ∧ (s.setTime v).timeBase = s.timeBase ∧ (s.setTime v).pending = s.pending ∧
    (s.setTime v).act = s.act ∧ (s.setTime v).held = s.held ∧ (s.setTime v).free = s.free ∧ (s.setTime v).mem = s.mem ∧
    (s.setTime v).alarms = s.alarms ∧ (s.setTime v).log = s.log ∧ (s.setTime v).slotAlarms = s.slotAlarms ∧
    (s.setTime v).clears = s.clears ∧ (s.setTime v).stage = s.stage ∧ (s.setTime v).commits = s.commits ∧
    (s.setTime v).locks = s.locks ∧ (s.setTime v).cpAbsent = s.cpAbsent ∧ (s.setTime v).cpLost = s.cpLost ∧
    (s.setTime v).mq = s.mq ∧ (s.setTime v).inService = s.inService ∧ (s.setTime v).mTags = s.mTags ∧ (s.setTime v).lhp = s.lhp ∧
    (s.setTime v).swp = s.swp ∧ (s.setTime v).grants = s.grants ∧ (s.setTime v).band = s.band ∧ (s.setTime v).power = s.power ∧
    (s.setTime v).ports = s.ports ∧ (s.setTime v).lanes = s.lanes ∧ (s.setTime v).hier = s.hier ∧ (s.setTime v).time = s.time ∧
    (s.setTime v).dl = s.dl ∧ (s.setTime v).ul = s.ul ∧ (s.setTime v).tbl = s.tbl ∧ (s.setTime v).rf = s.rf ∧
    (s.setTime v).clk = s.clk ∧ (s.setTime v).dpd = s.dpd ∧ (s.setTime v).cal = s.cal ∧ (s.setTime v).dma = s.dma ∧
    (s.setTime v).hk = s.hk ∧ (s.setTime v).sec = s.sec ∧ (s.setTime v).past = s.past ∧ (s.setTime v).start = s.start ∧
    (s.setTime v).time_ = s.time_ ∧ (∀ i' j', (s.setTime v).a i' j' = s.a i' j') ∧
    (∀ T' i' j', (s.setTime v).at_ T' i' j' = s.at_ T' i' j') := by
  and_intros <;> intros <;> rfl

@[simp] theorem State.setLock_keeps (n : Nat) (l : LockRec) :
    (s.setLock n l).now = s.now ∧ (s.setLock n l).timeBase = s.timeBase ∧ (s.setLock n l).pending = s.pending ∧
    (s.setLock n l).obj = s.obj ∧ (s.setLock n l).act = s.act ∧ (s.setLock n l).held = s.held ∧ (s.setLock n l).free = s.free ∧
    (s.setLock n l).mem = s.mem ∧ (s.setLock n l).alarms = s.alarms ∧ (s.setLock n l).log = s.log ∧
    (s.setLock n l).slotAlarms = s.slotAlarms ∧ (s.setLock n l).clears = s.clears ∧ (s.setLock n l).stage = s.stage ∧
    (s.setLock n l).commits = s.commits ∧ (s.setLock n l).cpAbsent = s.cpAbsent ∧ (s.setLock n l).cpLost = s.cpLost ∧
    (s.setLock n l).mq = s.mq ∧ (s.setLock n l).inService = s.inService ∧ (s.setLock n l).mTags = s.mTags ∧
    (s.setLock n l).lhp = s.lhp ∧ (s.setLock n l).swp = s.swp ∧ (s.setLock n l).grants = s.grants ∧
    (s.setLock n l).band = s.band ∧ (s.setLock n l).power = s.power ∧ (s.setLock n l).ports = s.ports ∧
    (s.setLock n l).lanes = s.lanes ∧ (s.setLock n l).hier = s.hier ∧ (s.setLock n l).time = s.time ∧ (s.setLock n l).dl = s.dl ∧
    (s.setLock n l).ul = s.ul ∧ (s.setLock n l).tbl = s.tbl ∧ (s.setLock n l).rf = s.rf ∧ (s.setLock n l).clk = s.clk ∧
    (s.setLock n l).dpd = s.dpd ∧ (s.setLock n l).cal = s.cal ∧ (s.setLock n l).dma = s.dma ∧ (s.setLock n l).hk = s.hk ∧
    (s.setLock n l).sec = s.sec ∧ (s.setLock n l).past = s.past ∧ (s.setLock n l).start = s.start ∧
    (s.setLock n l).time_ = s.time_ ∧ (∀ i' j', (s.setLock n l).o i' j' = s.o i' j') ∧
    (∀ i' j', (s.setLock n l).a i' j' = s.a i' j') ∧ (∀ T' i' j', (s.setLock n l).at_ T' i' j' = s.at_ T' i' j') := by
  and_intros <;> intros <;> rfl

@[simp] theorem State.modPort_keeps (p : Nat) (f : Port → Port) :
    (s.modPort p f).now = s.now ∧ (s.modPort p f).timeBase = s.timeBase ∧ (s.modPort p f).pending = s.pending ∧
    (s.modPort p f).obj = s.obj ∧ (s.modPort p f).act = s.act ∧ (s.modPort p f).held = s.held ∧ (s.modPort p f).free = s.free ∧
    (s.modPort p f).mem = s.mem ∧ (s.modPort p f).alarms = s.alarms ∧ (s.modPort p f).log = s.log ∧
    (s.modPort p f).slotAlarms = s.slotAlarms ∧ (s.modPort p f).clears = s.clears ∧ (s.modPort p f).stage = s.stage ∧
    (s.modPort p f).commits = s.commits ∧ (s.modPort p f).locks = s.locks ∧ (s.modPort p f).cpAbsent = s.cpAbsent ∧
    (s.modPort p f).cpLost = s.cpLost ∧ (s.modPort p f).mq = s.mq ∧ (s.modPort p f).inService = s.inService ∧
    (s.modPort p f).mTags = s.mTags ∧ (s.modPort p f).lhp = s.lhp ∧ (s.modPort p f).swp = s.swp ∧
    (s.modPort p f).grants = s.grants ∧ (s.modPort p f).band = s.band ∧ (s.modPort p f).power = s.power ∧
    (s.modPort p f).lanes = s.lanes ∧ (s.modPort p f).hier = s.hier ∧ (s.modPort p f).time = s.time ∧ (s.modPort p f).dl = s.dl ∧
    (s.modPort p f).ul = s.ul ∧ (s.modPort p f).tbl = s.tbl ∧ (s.modPort p f).rf = s.rf ∧ (s.modPort p f).clk = s.clk ∧
    (s.modPort p f).dpd = s.dpd ∧ (s.modPort p f).cal = s.cal ∧ (s.modPort p f).dma = s.dma ∧ (s.modPort p f).hk = s.hk ∧
    (s.modPort p f).sec = s.sec ∧ (s.modPort p f).past = s.past ∧ (s.modPort p f).start = s.start ∧
    (s.modPort p f).time_ = s.time_ ∧ (∀ i' j', (s.modPort p f).o i' j' = s.o i' j') ∧
    (∀ i' j', (s.modPort p f).a i' j' = s.a i' j') ∧ (∀ T' i' j', (s.modPort p f).at_ T' i' j' = s.at_ T' i' j') := by
  and_intros <;> intros <;> rfl

@[simp] theorem State.modLane_keeps (p x : Nat) (f : Lane → Lane) :
    (s.modLane p x f).now = s.now ∧ (s.modLane p x f).timeBase = s.timeBase ∧ (s.modLane p x f).pending = s.pending ∧
    (s.modLane p x f).obj = s.obj ∧ (s.modLane p x f).act = s.act ∧ (s.modLane p x f).held = s.held ∧
    (s.modLane p x f).free = s.free ∧ (s.modLane p x f).mem = s.mem ∧ (s.modLane p x f).alarms = s.alarms ∧
    (s.modLane p x f).log = s.log ∧ (s.modLane p x f).slotAlarms = s.slotAlarms ∧ (s.modLane p x f).clears = s.clears ∧
    (s.modLane p x f).stage = s.stage ∧ (s.modLane p x f).commits = s.commits ∧ (s.modLane p x f).locks = s.locks ∧
    (s.modLane p x f).cpAbsent = s.cpAbsent ∧ (s.modLane p x f).cpLost = s.cpLost ∧ (s.modLane p x f).mq = s.mq ∧
    (s.modLane p x f).inService = s.inService ∧ (s.modLane p x f).mTags = s.mTags ∧ (s.modLane p x f).lhp = s.lhp ∧
    (s.modLane p x f).swp = s.swp ∧ (s.modLane p x f).grants = s.grants ∧ (s.modLane p x f).band = s.band ∧
    (s.modLane p x f).power = s.power ∧ (s.modLane p x f).ports = s.ports ∧ (s.modLane p x f).hier = s.hier ∧
    (s.modLane p x f).time = s.time ∧ (s.modLane p x f).dl = s.dl ∧ (s.modLane p x f).ul = s.ul ∧ (s.modLane p x f).tbl = s.tbl ∧
    (s.modLane p x f).rf = s.rf ∧ (s.modLane p x f).clk = s.clk ∧ (s.modLane p x f).dpd = s.dpd ∧ (s.modLane p x f).cal = s.cal ∧
    (s.modLane p x f).dma = s.dma ∧ (s.modLane p x f).hk = s.hk ∧ (s.modLane p x f).sec = s.sec ∧
    (s.modLane p x f).past = s.past ∧ (s.modLane p x f).start = s.start ∧
    (s.modLane p x f).time_ = s.time_ ∧ (∀ i' j', (s.modLane p x f).o i' j' = s.o i' j') ∧
    (∀ i' j', (s.modLane p x f).a i' j' = s.a i' j') ∧ (∀ T' i' j', (s.modLane p x f).at_ T' i' j' = s.at_ T' i' j') := by
  and_intros <;> intros <;> rfl

@[simp] theorem State.modHk_keeps (f : Hk → Hk) :
    (s.modHk f).now = s.now ∧ (s.modHk f).timeBase = s.timeBase ∧ (s.modHk f).pending = s.pending ∧ (s.modHk f).obj = s.obj ∧
    (s.modHk f).act = s.act ∧ (s.modHk f).held = s.held ∧ (s.modHk f).free = s.free ∧ (s.modHk f).mem = s.mem ∧
    (s.modHk f).alarms = s.alarms ∧ (s.modHk f).log = s.log ∧ (s.modHk f).slotAlarms = s.slotAlarms ∧
    (s.modHk f).clears = s.clears ∧ (s.modHk f).stage = s.stage ∧ (s.modHk f).commits = s.commits ∧ (s.modHk f).locks = s.locks ∧
    (s.modHk f).cpAbsent = s.cpAbsent ∧ (s.modHk f).cpLost = s.cpLost ∧ (s.modHk f).mq = s.mq ∧
    (s.modHk f).inService = s.inService ∧ (s.modHk f).mTags = s.mTags ∧ (s.modHk f).lhp = s.lhp ∧ (s.modHk f).swp = s.swp ∧
    (s.modHk f).grants = s.grants ∧ (s.modHk f).band = s.band ∧ (s.modHk f).power = s.power ∧ (s.modHk f).ports = s.ports ∧
    (s.modHk f).lanes = s.lanes ∧ (s.modHk f).hier = s.hier ∧ (s.modHk f).time = s.time ∧ (s.modHk f).dl = s.dl ∧
    (s.modHk f).ul = s.ul ∧ (s.modHk f).tbl = s.tbl ∧ (s.modHk f).rf = s.rf ∧ (s.modHk f).clk = s.clk ∧ (s.modHk f).dpd = s.dpd ∧
    (s.modHk f).cal = s.cal ∧ (s.modHk f).dma = s.dma ∧ (s.modHk f).sec = s.sec ∧ (s.modHk f).past = s.past ∧ (s.modHk f).start = s.start ∧
    (s.modHk f).time_ = s.time_ ∧ (∀ i' j', (s.modHk f).o i' j' = s.o i' j') ∧
    (∀ i' j', (s.modHk f).a i' j' = s.a i' j') ∧ (∀ T' i' j', (s.modHk f).at_ T' i' j' = s.at_ T' i' j') := by
  and_intros <;> intros <;> rfl

@[simp] theorem State.modCal_keeps (f : Cal → Cal) :
    (s.modCal f).now = s.now ∧ (s.modCal f).timeBase = s.timeBase ∧ (s.modCal f).pending = s.pending ∧ (s.modCal f).obj = s.obj ∧
    (s.modCal f).act = s.act ∧ (s.modCal f).held = s.held ∧ (s.modCal f).free = s.free ∧ (s.modCal f).mem = s.mem ∧
    (s.modCal f).alarms = s.alarms ∧ (s.modCal f).log = s.log ∧ (s.modCal f).slotAlarms = s.slotAlarms ∧
    (s.modCal f).clears = s.clears ∧ (s.modCal f).stage = s.stage ∧ (s.modCal f).commits = s.commits ∧
    (s.modCal f).locks = s.locks ∧ (s.modCal f).cpAbsent = s.cpAbsent ∧ (s.modCal f).cpLost = s.cpLost ∧ (s.modCal f).mq = s.mq ∧
    (s.modCal f).inService = s.inService ∧ (s.modCal f).mTags = s.mTags ∧ (s.modCal f).lhp = s.lhp ∧ (s.modCal f).swp = s.swp ∧
    (s.modCal f).grants = s.grants ∧ (s.modCal f).band = s.band ∧ (s.modCal f).power = s.power ∧ (s.modCal f).ports = s.ports ∧
    (s.modCal f).lanes = s.lanes ∧ (s.modCal f).hier = s.hier ∧ (s.modCal f).time = s.time ∧ (s.modCal f).dl = s.dl ∧
    (s.modCal f).ul = s.ul ∧ (s.modCal f).tbl = s.tbl ∧ (s.modCal f).rf = s.rf ∧ (s.modCal f).clk = s.clk ∧
    (s.modCal f).dpd = s.dpd ∧ (s.modCal f).dma = s.dma ∧ (s.modCal f).hk = s.hk ∧ (s.modCal f).sec = s.sec ∧
    (s.modCal f).past = s.past ∧ (s.modCal f).start = s.start ∧
    (s.modCal f).time_ = s.time_ ∧ (∀ i' j', (s.modCal f).o i' j' = s.o i' j') ∧
    (∀ i' j', (s.modCal f).a i' j' = s.a i' j') ∧ (∀ T' i' j', (s.modCal f).at_ T' i' j' = s.at_ T' i' j') := by
  and_intros <;> intros <;> rfl

@[simp] theorem State.modPower_keeps (f : Power → Power) :
    (s.modPower f).now = s.now ∧ (s.modPower f).timeBase = s.timeBase ∧ (s.modPower f).pending = s.pending ∧
    (s.modPower f).obj = s.obj ∧ (s.modPower f).act = s.act ∧ (s.modPower f).held = s.held ∧ (s.modPower f).free = s.free ∧
    (s.modPower f).mem = s.mem ∧ (s.modPower f).alarms = s.alarms ∧ (s.modPower f).log = s.log ∧
    (s.modPower f).slotAlarms = s.slotAlarms ∧ (s.modPower f).clears = s.clears ∧ (s.modPower f).stage = s.stage ∧
    (s.modPower f).commits = s.commits ∧ (s.modPower f).locks = s.locks ∧ (s.modPower f).cpAbsent = s.cpAbsent ∧
    (s.modPower f).cpLost = s.cpLost ∧ (s.modPower f).mq = s.mq ∧ (s.modPower f).inService = s.inService ∧
    (s.modPower f).mTags = s.mTags ∧ (s.modPower f).lhp = s.lhp ∧ (s.modPower f).swp = s.swp ∧ (s.modPower f).grants = s.grants ∧
    (s.modPower f).band = s.band ∧ (s.modPower f).ports = s.ports ∧ (s.modPower f).lanes = s.lanes ∧
    (s.modPower f).hier = s.hier ∧ (s.modPower f).time = s.time ∧ (s.modPower f).dl = s.dl ∧ (s.modPower f).ul = s.ul ∧
    (s.modPower f).tbl = s.tbl ∧ (s.modPower f).rf = s.rf ∧ (s.modPower f).clk = s.clk ∧ (s.modPower f).dpd = s.dpd ∧
    (s.modPower f).cal = s.cal ∧ (s.modPower f).dma = s.dma ∧ (s.modPower f).hk = s.hk ∧ (s.modPower f).sec = s.sec ∧
    (s.modPower f).past = s.past ∧ (s.modPower f).start = s.start ∧
    (s.modPower f).time_ = s.time_ ∧ (∀ i' j', (s.modPower f).o i' j' = s.o i' j') ∧
    (∀ i' j', (s.modPower f).a i' j' = s.a i' j') ∧ (∀ T' i' j', (s.modPower f).at_ T' i' j' = s.at_ T' i' j') := by
  and_intros <;> intros <;> rfl

@[simp] theorem State.modSec_keeps (f : Sec → Sec) :
    (s.modSec f).now = s.now ∧ (s.modSec f).timeBase = s.timeBase ∧ (s.modSec f).pending = s.pending ∧ (s.modSec f).obj = s.obj ∧
    (s.modSec f).act = s.act ∧ (s.modSec f).held = s.held ∧ (s.modSec f).free = s.free ∧ (s.modSec f).mem = s.mem ∧
    (s.modSec f).alarms = s.alarms ∧ (s.modSec f).log = s.log ∧ (s.modSec f).slotAlarms = s.slotAlarms ∧
    (s.modSec f).clears = s.clears ∧ (s.modSec f).stage = s.stage ∧ (s.modSec f).commits = s.commits ∧
    (s.modSec f).locks = s.locks ∧ (s.modSec f).cpAbsent = s.cpAbsent ∧ (s.modSec f).cpLost = s.cpLost ∧ (s.modSec f).mq = s.mq ∧
    (s.modSec f).inService = s.inService ∧ (s.modSec f).mTags = s.mTags ∧ (s.modSec f).lhp = s.lhp ∧ (s.modSec f).swp = s.swp ∧
    (s.modSec f).grants = s.grants ∧ (s.modSec f).band = s.band ∧ (s.modSec f).power = s.power ∧ (s.modSec f).ports = s.ports ∧
    (s.modSec f).lanes = s.lanes ∧ (s.modSec f).hier = s.hier ∧ (s.modSec f).time = s.time ∧ (s.modSec f).dl = s.dl ∧
    (s.modSec f).ul = s.ul ∧ (s.modSec f).tbl = s.tbl ∧ (s.modSec f).rf = s.rf ∧ (s.modSec f).clk = s.clk ∧
    (s.modSec f).dpd = s.dpd ∧ (s.modSec f).cal = s.cal ∧ (s.modSec f).dma = s.dma ∧ (s.modSec f).hk = s.hk ∧
    (s.modSec f).past = s.past ∧ (s.modSec f).start = s.start ∧
    (s.modSec f).time_ = s.time_ ∧ (∀ i' j', (s.modSec f).o i' j' = s.o i' j') ∧
    (∀ i' j', (s.modSec f).a i' j' = s.a i' j') ∧ (∀ T' i' j', (s.modSec f).at_ T' i' j' = s.at_ T' i' j') := by
  and_intros <;> intros <;> rfl

@[simp] theorem State.modStart_keeps (f : Start → Start) :
    (s.modStart f).now = s.now ∧ (s.modStart f).timeBase = s.timeBase ∧ (s.modStart f).pending = s.pending ∧
    (s.modStart f).obj = s.obj ∧ (s.modStart f).act = s.act ∧ (s.modStart f).held = s.held ∧ (s.modStart f).free = s.free ∧
    (s.modStart f).mem = s.mem ∧ (s.modStart f).alarms = s.alarms ∧ (s.modStart f).log = s.log ∧
    (s.modStart f).slotAlarms = s.slotAlarms ∧ (s.modStart f).clears = s.clears ∧ (s.modStart f).stage = s.stage ∧
    (s.modStart f).commits = s.commits ∧ (s.modStart f).locks = s.locks ∧ (s.modStart f).cpAbsent = s.cpAbsent ∧
    (s.modStart f).cpLost = s.cpLost ∧ (s.modStart f).mq = s.mq ∧ (s.modStart f).inService = s.inService ∧
    (s.modStart f).mTags = s.mTags ∧ (s.modStart f).lhp = s.lhp ∧ (s.modStart f).swp = s.swp ∧ (s.modStart f).grants = s.grants ∧
    (s.modStart f).band = s.band ∧ (s.modStart f).power = s.power ∧ (s.modStart f).ports = s.ports ∧
    (s.modStart f).lanes = s.lanes ∧ (s.modStart f).hier = s.hier ∧ (s.modStart f).time = s.time ∧ (s.modStart f).dl = s.dl ∧
    (s.modStart f).ul = s.ul ∧ (s.modStart f).tbl = s.tbl ∧ (s.modStart f).rf = s.rf ∧ (s.modStart f).clk = s.clk ∧
    (s.modStart f).dpd = s.dpd ∧ (s.modStart f).cal = s.cal ∧ (s.modStart f).dma = s.dma ∧ (s.modStart f).hk = s.hk ∧
    (s.modStart f).sec = s.sec ∧ (s.modStart f).past = s.past ∧
    (s.modStart f).time_ = s.time_ ∧ (∀ i' j', (s.modStart f).o i' j' = s.o i' j') ∧
    (∀ i' j', (s.modStart f).a i' j' = s.a i' j') ∧ (∀ T' i' j', (s.modStart f).at_ T' i' j' = s.at_ T' i' j') := by
  and_intros <;> intros <;> rfl

@[simp] theorem State.modLo_keeps (l : Nat) (f : Lo → Lo) :
    (s.modLo l f).now = s.now ∧ (s.modLo l f).timeBase = s.timeBase ∧ (s.modLo l f).pending = s.pending ∧
    (s.modLo l f).obj = s.obj ∧ (s.modLo l f).act = s.act ∧ (s.modLo l f).held = s.held ∧ (s.modLo l f).free = s.free ∧
    (s.modLo l f).mem = s.mem ∧ (s.modLo l f).alarms = s.alarms ∧ (s.modLo l f).log = s.log ∧
    (s.modLo l f).slotAlarms = s.slotAlarms ∧ (s.modLo l f).clears = s.clears ∧ (s.modLo l f).stage = s.stage ∧
    (s.modLo l f).commits = s.commits ∧ (s.modLo l f).locks = s.locks ∧ (s.modLo l f).cpAbsent = s.cpAbsent ∧
    (s.modLo l f).cpLost = s.cpLost ∧ (s.modLo l f).mq = s.mq ∧ (s.modLo l f).inService = s.inService ∧
    (s.modLo l f).mTags = s.mTags ∧ (s.modLo l f).lhp = s.lhp ∧ (s.modLo l f).swp = s.swp ∧ (s.modLo l f).grants = s.grants ∧
    (s.modLo l f).band = s.band ∧ (s.modLo l f).power = s.power ∧ (s.modLo l f).ports = s.ports ∧ (s.modLo l f).lanes = s.lanes ∧
    (s.modLo l f).hier = s.hier ∧ (s.modLo l f).time = s.time ∧ (s.modLo l f).dl = s.dl ∧ (s.modLo l f).ul = s.ul ∧
    (s.modLo l f).tbl = s.tbl ∧ (s.modLo l f).rf = s.rf ∧ (s.modLo l f).dpd = s.dpd ∧ (s.modLo l f).cal = s.cal ∧
    (s.modLo l f).dma = s.dma ∧ (s.modLo l f).hk = s.hk ∧ (s.modLo l f).sec = s.sec ∧ (s.modLo l f).past = s.past ∧
    (s.modLo l f).start = s.start ∧
    (s.modLo l f).time_ = s.time_ ∧ (∀ i' j', (s.modLo l f).o i' j' = s.o i' j') ∧
    (∀ i' j', (s.modLo l f).a i' j' = s.a i' j') ∧ (∀ T' i' j', (s.modLo l f).at_ T' i' j' = s.at_ T' i' j') := by
  and_intros <;> intros <;> rfl

@[simp] theorem State.modDp_keeps (n : Nat) (f : DpdPath → DpdPath) :
    (s.modDp n f).now = s.now ∧ (s.modDp n f).timeBase = s.timeBase ∧ (s.modDp n f).pending = s.pending ∧
    (s.modDp n f).obj = s.obj ∧ (s.modDp n f).act = s.act ∧ (s.modDp n f).held = s.held ∧ (s.modDp n f).free = s.free ∧
    (s.modDp n f).mem = s.mem ∧ (s.modDp n f).alarms = s.alarms ∧ (s.modDp n f).log = s.log ∧
    (s.modDp n f).slotAlarms = s.slotAlarms ∧ (s.modDp n f).clears = s.clears ∧ (s.modDp n f).stage = s.stage ∧
    (s.modDp n f).commits = s.commits ∧ (s.modDp n f).locks = s.locks ∧ (s.modDp n f).cpAbsent = s.cpAbsent ∧
    (s.modDp n f).cpLost = s.cpLost ∧ (s.modDp n f).mq = s.mq ∧ (s.modDp n f).inService = s.inService ∧
    (s.modDp n f).mTags = s.mTags ∧ (s.modDp n f).lhp = s.lhp ∧ (s.modDp n f).swp = s.swp ∧ (s.modDp n f).grants = s.grants ∧
    (s.modDp n f).band = s.band ∧ (s.modDp n f).power = s.power ∧ (s.modDp n f).ports = s.ports ∧ (s.modDp n f).lanes = s.lanes ∧
    (s.modDp n f).hier = s.hier ∧ (s.modDp n f).time = s.time ∧ (s.modDp n f).dl = s.dl ∧ (s.modDp n f).ul = s.ul ∧
    (s.modDp n f).tbl = s.tbl ∧ (s.modDp n f).rf = s.rf ∧ (s.modDp n f).clk = s.clk ∧ (s.modDp n f).cal = s.cal ∧
    (s.modDp n f).dma = s.dma ∧ (s.modDp n f).hk = s.hk ∧ (s.modDp n f).sec = s.sec ∧ (s.modDp n f).past = s.past ∧
    (s.modDp n f).start = s.start ∧
    (s.modDp n f).time_ = s.time_ ∧ (∀ i' j', (s.modDp n f).o i' j' = s.o i' j') ∧
    (∀ i' j', (s.modDp n f).a i' j' = s.a i' j') ∧ (∀ T' i' j', (s.modDp n f).at_ T' i' j' = s.at_ T' i' j') := by
  and_intros <;> intros <;> rfl

@[simp] theorem State.modOx_keeps (x : Nat) (f : Orx → Orx) :
    (s.modOx x f).now = s.now ∧ (s.modOx x f).timeBase = s.timeBase ∧ (s.modOx x f).pending = s.pending ∧
    (s.modOx x f).obj = s.obj ∧ (s.modOx x f).act = s.act ∧ (s.modOx x f).held = s.held ∧ (s.modOx x f).free = s.free ∧
    (s.modOx x f).mem = s.mem ∧ (s.modOx x f).alarms = s.alarms ∧ (s.modOx x f).log = s.log ∧
    (s.modOx x f).slotAlarms = s.slotAlarms ∧ (s.modOx x f).clears = s.clears ∧ (s.modOx x f).stage = s.stage ∧
    (s.modOx x f).commits = s.commits ∧ (s.modOx x f).locks = s.locks ∧ (s.modOx x f).cpAbsent = s.cpAbsent ∧
    (s.modOx x f).cpLost = s.cpLost ∧ (s.modOx x f).mq = s.mq ∧ (s.modOx x f).inService = s.inService ∧
    (s.modOx x f).mTags = s.mTags ∧ (s.modOx x f).lhp = s.lhp ∧ (s.modOx x f).swp = s.swp ∧ (s.modOx x f).grants = s.grants ∧
    (s.modOx x f).band = s.band ∧ (s.modOx x f).power = s.power ∧ (s.modOx x f).ports = s.ports ∧ (s.modOx x f).lanes = s.lanes ∧
    (s.modOx x f).hier = s.hier ∧ (s.modOx x f).time = s.time ∧ (s.modOx x f).dl = s.dl ∧ (s.modOx x f).ul = s.ul ∧
    (s.modOx x f).tbl = s.tbl ∧ (s.modOx x f).rf = s.rf ∧ (s.modOx x f).clk = s.clk ∧ (s.modOx x f).cal = s.cal ∧
    (s.modOx x f).dma = s.dma ∧ (s.modOx x f).hk = s.hk ∧ (s.modOx x f).sec = s.sec ∧ (s.modOx x f).past = s.past ∧
    (s.modOx x f).start = s.start ∧
    (s.modOx x f).time_ = s.time_ ∧ (∀ i' j', (s.modOx x f).o i' j' = s.o i' j') ∧
    (∀ i' j', (s.modOx x f).a i' j' = s.a i' j') ∧ (∀ T' i' j', (s.modOx x f).at_ T' i' j' = s.at_ T' i' j') := by
  and_intros <;> intros <;> rfl

@[simp] theorem State.modChan_keeps (n : Nat) (f : Chan → Chan) :
    (s.modChan n f).now = s.now ∧ (s.modChan n f).timeBase = s.timeBase ∧ (s.modChan n f).pending = s.pending ∧
    (s.modChan n f).obj = s.obj ∧ (s.modChan n f).act = s.act ∧ (s.modChan n f).held = s.held ∧ (s.modChan n f).free = s.free ∧
    (s.modChan n f).mem = s.mem ∧ (s.modChan n f).alarms = s.alarms ∧ (s.modChan n f).log = s.log ∧
    (s.modChan n f).slotAlarms = s.slotAlarms ∧ (s.modChan n f).clears = s.clears ∧ (s.modChan n f).stage = s.stage ∧
    (s.modChan n f).commits = s.commits ∧ (s.modChan n f).locks = s.locks ∧ (s.modChan n f).cpAbsent = s.cpAbsent ∧
    (s.modChan n f).cpLost = s.cpLost ∧ (s.modChan n f).mq = s.mq ∧ (s.modChan n f).inService = s.inService ∧
    (s.modChan n f).mTags = s.mTags ∧ (s.modChan n f).lhp = s.lhp ∧ (s.modChan n f).swp = s.swp ∧
    (s.modChan n f).grants = s.grants ∧ (s.modChan n f).band = s.band ∧ (s.modChan n f).power = s.power ∧
    (s.modChan n f).ports = s.ports ∧ (s.modChan n f).lanes = s.lanes ∧ (s.modChan n f).hier = s.hier ∧
    (s.modChan n f).time = s.time ∧ (s.modChan n f).dl = s.dl ∧ (s.modChan n f).ul = s.ul ∧ (s.modChan n f).tbl = s.tbl ∧
    (s.modChan n f).rf = s.rf ∧ (s.modChan n f).clk = s.clk ∧ (s.modChan n f).dpd = s.dpd ∧ (s.modChan n f).cal = s.cal ∧
    (s.modChan n f).hk = s.hk ∧ (s.modChan n f).sec = s.sec ∧ (s.modChan n f).past = s.past ∧ (s.modChan n f).start = s.start ∧
    (s.modChan n f).time_ = s.time_ ∧ (∀ i' j', (s.modChan n f).o i' j' = s.o i' j') ∧
    (∀ i' j', (s.modChan n f).a i' j' = s.a i' j') ∧ (∀ T' i' j', (s.modChan n f).at_ T' i' j' = s.at_ T' i' j') := by
  and_intros <;> intros <;> rfl

@[simp] theorem State.modCap_keeps (b : Nat) (f : CapBuf → CapBuf) :
    (s.modCap b f).now = s.now ∧ (s.modCap b f).timeBase = s.timeBase ∧ (s.modCap b f).pending = s.pending ∧
    (s.modCap b f).obj = s.obj ∧ (s.modCap b f).act = s.act ∧ (s.modCap b f).held = s.held ∧ (s.modCap b f).free = s.free ∧
    (s.modCap b f).mem = s.mem ∧ (s.modCap b f).alarms = s.alarms ∧ (s.modCap b f).log = s.log ∧
    (s.modCap b f).slotAlarms = s.slotAlarms ∧ (s.modCap b f).clears = s.clears ∧ (s.modCap b f).stage = s.stage ∧
    (s.modCap b f).commits = s.commits ∧ (s.modCap b f).locks = s.locks ∧ (s.modCap b f).cpAbsent = s.cpAbsent ∧
    (s.modCap b f).cpLost = s.cpLost ∧ (s.modCap b f).mq = s.mq ∧ (s.modCap b f).inService = s.inService ∧
    (s.modCap b f).mTags = s.mTags ∧ (s.modCap b f).lhp = s.lhp ∧ (s.modCap b f).swp = s.swp ∧ (s.modCap b f).grants = s.grants ∧
    (s.modCap b f).band = s.band ∧ (s.modCap b f).power = s.power ∧ (s.modCap b f).ports = s.ports ∧
    (s.modCap b f).lanes = s.lanes ∧ (s.modCap b f).hier = s.hier ∧ (s.modCap b f).time = s.time ∧ (s.modCap b f).dl = s.dl ∧
    (s.modCap b f).ul = s.ul ∧ (s.modCap b f).tbl = s.tbl ∧ (s.modCap b f).rf = s.rf ∧ (s.modCap b f).clk = s.clk ∧
    (s.modCap b f).dpd = s.dpd ∧ (s.modCap b f).cal = s.cal ∧ (s.modCap b f).hk = s.hk ∧ (s.modCap b f).sec = s.sec ∧
    (s.modCap b f).past = s.past ∧ (s.modCap b f).start = s.start ∧
    (s.modCap b f).time_ = s.time_ ∧ (∀ i' j', (s.modCap b f).o i' j' = s.o i' j') ∧
    (∀ i' j', (s.modCap b f).a i' j' = s.a i' j') ∧ (∀ T' i' j', (s.modCap b f).at_ T' i' j' = s.at_ T' i' j') := by
  and_intros <;> intros <;> rfl

@[simp] theorem State.modTb_keeps (d : Nat) (f : Tbl → Tbl) :
    (s.modTb d f).now = s.now ∧ (s.modTb d f).timeBase = s.timeBase ∧ (s.modTb d f).pending = s.pending ∧
    (s.modTb d f).obj = s.obj ∧ (s.modTb d f).act = s.act ∧ (s.modTb d f).held = s.held ∧ (s.modTb d f).free = s.free ∧
    (s.modTb d f).mem = s.mem ∧ (s.modTb d f).alarms = s.alarms ∧ (s.modTb d f).log = s.log ∧
    (s.modTb d f).slotAlarms = s.slotAlarms ∧ (s.modTb d f).clears = s.clears ∧ (s.modTb d f).stage = s.stage ∧
    (s.modTb d f).commits = s.commits ∧ (s.modTb d f).locks = s.locks ∧ (s.modTb d f).cpAbsent = s.cpAbsent ∧
    (s.modTb d f).cpLost = s.cpLost ∧ (s.modTb d f).mq = s.mq ∧ (s.modTb d f).inService = s.inService ∧
    (s.modTb d f).mTags = s.mTags ∧ (s.modTb d f).lhp = s.lhp ∧ (s.modTb d f).swp = s.swp ∧ (s.modTb d f).grants = s.grants ∧
    (s.modTb d f).band = s.band ∧ (s.modTb d f).power = s.power ∧ (s.modTb d f).ports = s.ports ∧ (s.modTb d f).lanes = s.lanes ∧
    (s.modTb d f).hier = s.hier ∧ (s.modTb d f).time = s.time ∧ (s.modTb d f).dl = s.dl ∧ (s.modTb d f).ul = s.ul ∧
    (s.modTb d f).rf = s.rf ∧ (s.modTb d f).clk = s.clk ∧ (s.modTb d f).dpd = s.dpd ∧ (s.modTb d f).cal = s.cal ∧
    (s.modTb d f).dma = s.dma ∧ (s.modTb d f).hk = s.hk ∧ (s.modTb d f).sec = s.sec ∧ (s.modTb d f).past = s.past ∧
    (s.modTb d f).start = s.start ∧
    (s.modTb d f).time_ = s.time_ ∧ (∀ i' j', (s.modTb d f).o i' j' = s.o i' j') ∧
    (∀ i' j', (s.modTb d f).a i' j' = s.a i' j') ∧ (∀ T' i' j', (s.modTb d f).at_ T' i' j' = s.at_ T' i' j') := by
  and_intros <;> intros <;> rfl

@[simp] theorem State.modTci_keeps (n : Nat) (f : Tci → Tci) :
    (s.modTci n f).now = s.now ∧ (s.modTci n f).timeBase = s.timeBase ∧ (s.modTci n f).pending = s.pending ∧
    (s.modTci n f).obj = s.obj ∧ (s.modTci n f).act = s.act ∧ (s.modTci n f).held = s.held ∧ (s.modTci n f).free = s.free ∧
    (s.modTci n f).mem = s.mem ∧ (s.modTci n f).alarms = s.alarms ∧ (s.modTci n f).log = s.log ∧
    (s.modTci n f).slotAlarms = s.slotAlarms ∧ (s.modTci n f).clears = s.clears ∧ (s.modTci n f).stage = s.stage ∧
    (s.modTci n f).commits = s.commits ∧ (s.modTci n f).locks = s.locks ∧ (s.modTci n f).cpAbsent = s.cpAbsent ∧
    (s.modTci n f).cpLost = s.cpLost ∧ (s.modTci n f).mq = s.mq ∧ (s.modTci n f).inService = s.inService ∧
    (s.modTci n f).mTags = s.mTags ∧ (s.modTci n f).lhp = s.lhp ∧ (s.modTci n f).swp = s.swp ∧ (s.modTci n f).grants = s.grants ∧
    (s.modTci n f).band = s.band ∧ (s.modTci n f).power = s.power ∧ (s.modTci n f).ports = s.ports ∧
    (s.modTci n f).lanes = s.lanes ∧ (s.modTci n f).hier = s.hier ∧ (s.modTci n f).dl = s.dl ∧ (s.modTci n f).ul = s.ul ∧
    (s.modTci n f).tbl = s.tbl ∧ (s.modTci n f).rf = s.rf ∧ (s.modTci n f).clk = s.clk ∧ (s.modTci n f).dpd = s.dpd ∧
    (s.modTci n f).cal = s.cal ∧ (s.modTci n f).dma = s.dma ∧ (s.modTci n f).hk = s.hk ∧ (s.modTci n f).sec = s.sec ∧
    (s.modTci n f).past = s.past ∧ (s.modTci n f).start = s.start ∧
    (s.modTci n f).time_ = s.time_ ∧ (∀ i' j', (s.modTci n f).o i' j' = s.o i' j') ∧
    (∀ i' j', (s.modTci n f).a i' j' = s.a i' j') ∧ (∀ T' i' j', (s.modTci n f).at_ T' i' j' = s.at_ T' i' j') := by
  and_intros <;> intros <;> rfl

@[simp] theorem State.modCh_keeps (p : Nat) (f : ChSt → ChSt) :
    (s.modCh p f).now = s.now ∧ (s.modCh p f).timeBase = s.timeBase ∧ (s.modCh p f).pending = s.pending ∧
    (s.modCh p f).obj = s.obj ∧ (s.modCh p f).act = s.act ∧ (s.modCh p f).held = s.held ∧ (s.modCh p f).free = s.free ∧
    (s.modCh p f).mem = s.mem ∧ (s.modCh p f).alarms = s.alarms ∧ (s.modCh p f).log = s.log ∧
    (s.modCh p f).slotAlarms = s.slotAlarms ∧ (s.modCh p f).clears = s.clears ∧ (s.modCh p f).stage = s.stage ∧
    (s.modCh p f).commits = s.commits ∧ (s.modCh p f).locks = s.locks ∧ (s.modCh p f).cpAbsent = s.cpAbsent ∧
    (s.modCh p f).cpLost = s.cpLost ∧ (s.modCh p f).mq = s.mq ∧ (s.modCh p f).inService = s.inService ∧
    (s.modCh p f).mTags = s.mTags ∧ (s.modCh p f).lhp = s.lhp ∧ (s.modCh p f).swp = s.swp ∧ (s.modCh p f).grants = s.grants ∧
    (s.modCh p f).band = s.band ∧ (s.modCh p f).power = s.power ∧ (s.modCh p f).ports = s.ports ∧ (s.modCh p f).lanes = s.lanes ∧
    (s.modCh p f).hier = s.hier ∧ (s.modCh p f).time = s.time ∧ (s.modCh p f).dl = s.dl ∧ (s.modCh p f).tbl = s.tbl ∧
    (s.modCh p f).rf = s.rf ∧ (s.modCh p f).clk = s.clk ∧ (s.modCh p f).dpd = s.dpd ∧ (s.modCh p f).cal = s.cal ∧
    (s.modCh p f).dma = s.dma ∧ (s.modCh p f).hk = s.hk ∧ (s.modCh p f).sec = s.sec ∧ (s.modCh p f).past = s.past ∧
    (s.modCh p f).start = s.start ∧
    (s.modCh p f).time_ = s.time_ ∧ (∀ i' j', (s.modCh p f).o i' j' = s.o i' j') ∧
    (∀ i' j', (s.modCh p f).a i' j' = s.a i' j') ∧ (∀ T' i' j', (s.modCh p f).at_ T' i' j' = s.at_ T' i' j') := by
  and_intros <;> intros <;> rfl

@[simp] theorem State.setPin_keeps (k : PinKind) (n v : Nat) :
    (s.setPin k n v).now = s.now ∧ (s.setPin k n v).timeBase = s.timeBase ∧ (s.setPin k n v).pending = s.pending ∧
    (s.setPin k n v).obj = s.obj ∧ (s.setPin k n v).act = s.act ∧ (s.setPin k n v).held = s.held ∧
    (s.setPin k n v).free = s.free ∧ (s.setPin k n v).mem = s.mem ∧ (s.setPin k n v).alarms = s.alarms ∧
    (s.setPin k n v).log = s.log ∧ (s.setPin k n v).slotAlarms = s.slotAlarms ∧ (s.setPin k n v).clears = s.clears ∧
    (s.setPin k n v).stage = s.stage ∧ (s.setPin k n v).commits = s.commits ∧ (s.setPin k n v).locks = s.locks ∧
    (s.setPin k n v).cpAbsent = s.cpAbsent ∧ (s.setPin k n v).cpLost = s.cpLost ∧ (s.setPin k n v).mq = s.mq ∧
    (s.setPin k n v).inService = s.inService ∧ (s.setPin k n v).mTags = s.mTags ∧ (s.setPin k n v).lhp = s.lhp ∧
    (s.setPin k n v).swp = s.swp ∧ (s.setPin k n v).grants = s.grants ∧ (s.setPin k n v).band = s.band ∧
    (s.setPin k n v).power = s.power ∧ (s.setPin k n v).ports = s.ports ∧ (s.setPin k n v).lanes = s.lanes ∧
    (s.setPin k n v).hier = s.hier ∧ (s.setPin k n v).time = s.time ∧ (s.setPin k n v).dl = s.dl ∧ (s.setPin k n v).ul = s.ul ∧
    (s.setPin k n v).tbl = s.tbl ∧ (s.setPin k n v).clk = s.clk ∧ (s.setPin k n v).dpd = s.dpd ∧ (s.setPin k n v).cal = s.cal ∧
    (s.setPin k n v).dma = s.dma ∧ (s.setPin k n v).hk = s.hk ∧ (s.setPin k n v).sec = s.sec ∧ (s.setPin k n v).past = s.past ∧
    (s.setPin k n v).start = s.start ∧
    (s.setPin k n v).time_ = s.time_ ∧ (∀ i' j', (s.setPin k n v).o i' j' = s.o i' j') ∧
    (∀ i' j', (s.setPin k n v).a i' j' = s.a i' j') ∧ (∀ T' i' j', (s.setPin k n v).at_ T' i' j' = s.at_ T' i' j') := by
  and_intros <;> intros <;> rfl

@[simp] theorem State.edge_keeps (T : Int) (k : PinKind) (n v : Nat) :
    (s.edge T k n v).now = s.now ∧ (s.edge T k n v).timeBase = s.timeBase ∧ (s.edge T k n v).pending = s.pending ∧
    (s.edge T k n v).obj = s.obj ∧ (s.edge T k n v).act = s.act ∧ (s.edge T k n v).held = s.held ∧
    (s.edge T k n v).free = s.free ∧ (s.edge T k n v).mem = s.mem ∧ (s.edge T k n v).alarms = s.alarms ∧
    (s.edge T k n v).log = s.log ∧ (s.edge T k n v).slotAlarms = s.slotAlarms ∧ (s.edge T k n v).clears = s.clears ∧
    (s.edge T k n v).stage = s.stage ∧ (s.edge T k n v).commits = s.commits ∧ (s.edge T k n v).locks = s.locks ∧
    (s.edge T k n v).cpAbsent = s.cpAbsent ∧ (s.edge T k n v).cpLost = s.cpLost ∧ (s.edge T k n v).mq = s.mq ∧
    (s.edge T k n v).inService = s.inService ∧ (s.edge T k n v).mTags = s.mTags ∧ (s.edge T k n v).lhp = s.lhp ∧
    (s.edge T k n v).swp = s.swp ∧ (s.edge T k n v).grants = s.grants ∧ (s.edge T k n v).band = s.band ∧
    (s.edge T k n v).power = s.power ∧ (s.edge T k n v).ports = s.ports ∧ (s.edge T k n v).lanes = s.lanes ∧
    (s.edge T k n v).hier = s.hier ∧ (s.edge T k n v).time = s.time ∧ (s.edge T k n v).dl = s.dl ∧ (s.edge T k n v).ul = s.ul ∧
    (s.edge T k n v).tbl = s.tbl ∧ (s.edge T k n v).clk = s.clk ∧ (s.edge T k n v).dpd = s.dpd ∧ (s.edge T k n v).cal = s.cal ∧
    (s.edge T k n v).dma = s.dma ∧ (s.edge T k n v).hk = s.hk ∧ (s.edge T k n v).sec = s.sec ∧ (s.edge T k n v).past = s.past ∧
    (s.edge T k n v).start = s.start ∧
    (s.edge T k n v).time_ = s.time_ ∧ (∀ i' j', (s.edge T k n v).o i' j' = s.o i' j') ∧
    (∀ i' j', (s.edge T k n v).a i' j' = s.a i' j') ∧ (∀ T' i' j', (s.edge T k n v).at_ T' i' j' = s.at_ T' i' j') := by
  and_intros <;> intros <;> rfl

@[simp] theorem State.settlePins_keeps :
    (s.settlePins).now = s.now ∧ (s.settlePins).timeBase = s.timeBase ∧ (s.settlePins).pending = s.pending ∧
    (s.settlePins).obj = s.obj ∧ (s.settlePins).act = s.act ∧ (s.settlePins).held = s.held ∧ (s.settlePins).free = s.free ∧
    (s.settlePins).mem = s.mem ∧ (s.settlePins).alarms = s.alarms ∧ (s.settlePins).log = s.log ∧
    (s.settlePins).slotAlarms = s.slotAlarms ∧ (s.settlePins).clears = s.clears ∧ (s.settlePins).stage = s.stage ∧
    (s.settlePins).commits = s.commits ∧ (s.settlePins).locks = s.locks ∧ (s.settlePins).cpAbsent = s.cpAbsent ∧
    (s.settlePins).cpLost = s.cpLost ∧ (s.settlePins).mq = s.mq ∧ (s.settlePins).inService = s.inService ∧
    (s.settlePins).mTags = s.mTags ∧ (s.settlePins).lhp = s.lhp ∧ (s.settlePins).swp = s.swp ∧ (s.settlePins).grants = s.grants ∧
    (s.settlePins).band = s.band ∧ (s.settlePins).power = s.power ∧ (s.settlePins).ports = s.ports ∧
    (s.settlePins).lanes = s.lanes ∧ (s.settlePins).hier = s.hier ∧ (s.settlePins).time = s.time ∧ (s.settlePins).dl = s.dl ∧
    (s.settlePins).ul = s.ul ∧ (s.settlePins).tbl = s.tbl ∧ (s.settlePins).clk = s.clk ∧ (s.settlePins).dpd = s.dpd ∧
    (s.settlePins).cal = s.cal ∧ (s.settlePins).dma = s.dma ∧ (s.settlePins).hk = s.hk ∧ (s.settlePins).sec = s.sec ∧
    (s.settlePins).past = s.past ∧ (s.settlePins).start = s.start ∧
    (s.settlePins).time_ = s.time_ ∧ (∀ i' j', (s.settlePins).o i' j' = s.o i' j') ∧
    (∀ i' j', (s.settlePins).a i' j' = s.a i' j') ∧ (∀ T' i' j', (s.settlePins).at_ T' i' j' = s.at_ T' i' j') := by
  and_intros <;> intros <;> rfl

@[simp] theorem State.slotAlarm_keeps (c d : Nat) :
    (s.slotAlarm c d).now = s.now ∧ (s.slotAlarm c d).timeBase = s.timeBase ∧ (s.slotAlarm c d).pending = s.pending ∧
    (s.slotAlarm c d).obj = s.obj ∧ (s.slotAlarm c d).act = s.act ∧ (s.slotAlarm c d).held = s.held ∧
    (s.slotAlarm c d).free = s.free ∧ (s.slotAlarm c d).mem = s.mem ∧ (s.slotAlarm c d).alarms = s.alarms ∧
    (s.slotAlarm c d).log = s.log ∧ (s.slotAlarm c d).clears = s.clears ∧ (s.slotAlarm c d).stage = s.stage ∧
    (s.slotAlarm c d).commits = s.commits ∧ (s.slotAlarm c d).locks = s.locks ∧ (s.slotAlarm c d).cpAbsent = s.cpAbsent ∧
    (s.slotAlarm c d).cpLost = s.cpLost ∧ (s.slotAlarm c d).mq = s.mq ∧ (s.slotAlarm c d).inService = s.inService ∧
    (s.slotAlarm c d).mTags = s.mTags ∧ (s.slotAlarm c d).lhp = s.lhp ∧ (s.slotAlarm c d).swp = s.swp ∧
    (s.slotAlarm c d).grants = s.grants ∧ (s.slotAlarm c d).band = s.band ∧ (s.slotAlarm c d).power = s.power ∧
    (s.slotAlarm c d).ports = s.ports ∧ (s.slotAlarm c d).lanes = s.lanes ∧ (s.slotAlarm c d).hier = s.hier ∧
    (s.slotAlarm c d).time = s.time ∧ (s.slotAlarm c d).dl = s.dl ∧ (s.slotAlarm c d).ul = s.ul ∧ (s.slotAlarm c d).tbl = s.tbl ∧
    (s.slotAlarm c d).rf = s.rf ∧ (s.slotAlarm c d).clk = s.clk ∧ (s.slotAlarm c d).dpd = s.dpd ∧ (s.slotAlarm c d).cal = s.cal ∧
    (s.slotAlarm c d).dma = s.dma ∧ (s.slotAlarm c d).hk = s.hk ∧ (s.slotAlarm c d).sec = s.sec ∧
    (s.slotAlarm c d).past = s.past ∧ (s.slotAlarm c d).start = s.start ∧
    (s.slotAlarm c d).time_ = s.time_ ∧ (∀ i' j', (s.slotAlarm c d).o i' j' = s.o i' j') ∧
    (∀ i' j', (s.slotAlarm c d).a i' j' = s.a i' j') ∧ (∀ T' i' j', (s.slotAlarm c d).at_ T' i' j' = s.at_ T' i' j') := by
  unfold State.slotAlarm; split <;> and_intros <;> intros <;> rfl

@[simp] theorem State.release_keeps (k : GKind) (n : Nat) :
    (s.release k n).now = s.now ∧ (s.release k n).timeBase = s.timeBase ∧ (s.release k n).pending = s.pending ∧
    (s.release k n).obj = s.obj ∧ (s.release k n).act = s.act ∧ (s.release k n).held = s.held ∧ (s.release k n).free = s.free ∧
    (s.release k n).mem = s.mem ∧ (s.release k n).alarms = s.alarms ∧ (s.release k n).log = s.log ∧
    (s.release k n).slotAlarms = s.slotAlarms ∧ (s.release k n).clears = s.clears ∧ (s.release k n).stage = s.stage ∧
    (s.release k n).commits = s.commits ∧ (s.release k n).locks = s.locks ∧ (s.release k n).cpAbsent = s.cpAbsent ∧
    (s.release k n).cpLost = s.cpLost ∧ (s.release k n).mq = s.mq ∧ (s.release k n).inService = s.inService ∧
    (s.release k n).mTags = s.mTags ∧ (s.release k n).lhp = s.lhp ∧ (s.release k n).swp = s.swp ∧ (s.release k n).band = s.band ∧
    (s.release k n).power = s.power ∧ (s.release k n).ports = s.ports ∧ (s.release k n).lanes = s.lanes ∧
    (s.release k n).hier = s.hier ∧ (s.release k n).time = s.time ∧ (s.release k n).dl = s.dl ∧ (s.release k n).ul = s.ul ∧
    (s.release k n).tbl = s.tbl ∧ (s.release k n).clk = s.clk ∧ (s.release k n).dpd = s.dpd ∧ (s.release k n).cal = s.cal ∧
    (s.release k n).dma = s.dma ∧ (s.release k n).hk = s.hk ∧ (s.release k n).sec = s.sec ∧ (s.release k n).past = s.past ∧
    (s.release k n).start = s.start ∧
    (s.release k n).time_ = s.time_ ∧ (∀ i' j', (s.release k n).o i' j' = s.o i' j') ∧
    (∀ i' j', (s.release k n).a i' j' = s.a i' j') ∧ (∀ T' i' j', (s.release k n).at_ T' i' j' = s.at_ T' i' j') := by
  and_intros <;> intros <;> rfl

@[simp] theorem State.book_keeps (k : GKind) (n : Nat) (c : List Nat) :
    (s.book k n c).now = s.now ∧ (s.book k n c).timeBase = s.timeBase ∧ (s.book k n c).pending = s.pending ∧
    (s.book k n c).obj = s.obj ∧ (s.book k n c).act = s.act ∧ (s.book k n c).held = s.held ∧ (s.book k n c).free = s.free ∧
    (s.book k n c).mem = s.mem ∧ (s.book k n c).alarms = s.alarms ∧ (s.book k n c).log = s.log ∧
    (s.book k n c).slotAlarms = s.slotAlarms ∧ (s.book k n c).clears = s.clears ∧ (s.book k n c).stage = s.stage ∧
    (s.book k n c).commits = s.commits ∧ (s.book k n c).locks = s.locks ∧ (s.book k n c).cpAbsent = s.cpAbsent ∧
    (s.book k n c).cpLost = s.cpLost ∧ (s.book k n c).mq = s.mq ∧ (s.book k n c).inService = s.inService ∧
    (s.book k n c).mTags = s.mTags ∧ (s.book k n c).lhp = s.lhp ∧ (s.book k n c).swp = s.swp ∧ (s.book k n c).band = s.band ∧
    (s.book k n c).power = s.power ∧ (s.book k n c).ports = s.ports ∧ (s.book k n c).lanes = s.lanes ∧
    (s.book k n c).hier = s.hier ∧ (s.book k n c).time = s.time ∧ (s.book k n c).dl = s.dl ∧ (s.book k n c).ul = s.ul ∧
    (s.book k n c).tbl = s.tbl ∧ (s.book k n c).clk = s.clk ∧ (s.book k n c).dpd = s.dpd ∧ (s.book k n c).cal = s.cal ∧
    (s.book k n c).dma = s.dma ∧ (s.book k n c).hk = s.hk ∧ (s.book k n c).sec = s.sec ∧ (s.book k n c).past = s.past ∧
    (s.book k n c).start = s.start ∧
    (s.book k n c).time_ = s.time_ ∧ (∀ i' j', (s.book k n c).o i' j' = s.o i' j') ∧
    (∀ i' j', (s.book k n c).a i' j' = s.a i' j') ∧ (∀ T' i' j', (s.book k n c).at_ T' i' j' = s.at_ T' i' j') := by
  simp only [State.book]; split <;> and_intros <;> intros <;> rfl

@[simp] theorem State.wr8_keeps (a v : Nat) :
    (s.wr8 a v).now = s.now ∧ (s.wr8 a v).timeBase = s.timeBase ∧ (s.wr8 a v).pending = s.pending ∧ (s.wr8 a v).obj = s.obj ∧
    (s.wr8 a v).act = s.act ∧ (s.wr8 a v).held = s.held ∧ (s.wr8 a v).free = s.free ∧ (s.wr8 a v).alarms = s.alarms ∧
    (s.wr8 a v).log = s.log ∧ (s.wr8 a v).slotAlarms = s.slotAlarms ∧ (s.wr8 a v).clears = s.clears ∧
    (s.wr8 a v).stage = s.stage ∧ (s.wr8 a v).commits = s.commits ∧ (s.wr8 a v).locks = s.locks ∧
    (s.wr8 a v).cpAbsent = s.cpAbsent ∧ (s.wr8 a v).cpLost = s.cpLost ∧ (s.wr8 a v).mq = s.mq ∧
    (s.wr8 a v).inService = s.inService ∧ (s.wr8 a v).mTags = s.mTags ∧ (s.wr8 a v).lhp = s.lhp ∧ (s.wr8 a v).swp = s.swp ∧
    (s.wr8 a v).grants = s.grants ∧ (s.wr8 a v).band = s.band ∧ (s.wr8 a v).power = s.power ∧ (s.wr8 a v).ports = s.ports ∧
    (s.wr8 a v).lanes = s.lanes ∧ (s.wr8 a v).hier = s.hier ∧ (s.wr8 a v).time = s.time ∧ (s.wr8 a v).dl = s.dl ∧
    (s.wr8 a v).ul = s.ul ∧ (s.wr8 a v).tbl = s.tbl ∧ (s.wr8 a v).rf = s.rf ∧ (s.wr8 a v).clk = s.clk ∧ (s.wr8 a v).dpd = s.dpd ∧
    (s.wr8 a v).cal = s.cal ∧ (s.wr8 a v).hk = s.hk ∧ (s.wr8 a v).sec = s.sec ∧ (s.wr8 a v).past = s.past ∧ (s.wr8 a v).start = s.start ∧
    (s.wr8 a v).time_ = s.time_ ∧ (∀ i' j', (s.wr8 a v).o i' j' = s.o i' j') ∧
    (∀ i' j', (s.wr8 a v).a i' j' = s.a i' j') ∧ (∀ T' i' j', (s.wr8 a v).at_ T' i' j' = s.at_ T' i' j') := by
  and_intros <;> intros <;> rfl

@[simp] theorem State.draw_keeps (w : Nat) :
    (s.draw w).2.now = s.now ∧ (s.draw w).2.timeBase = s.timeBase ∧ (s.draw w).2.pending = s.pending ∧ (s.draw w).2.obj = s.obj ∧
    (s.draw w).2.act = s.act ∧ (s.draw w).2.held = s.held ∧ (s.draw w).2.mem = s.mem ∧ (s.draw w).2.alarms = s.alarms ∧
    (s.draw w).2.log = s.log ∧ (s.draw w).2.slotAlarms = s.slotAlarms ∧ (s.draw w).2.clears = s.clears ∧
    (s.draw w).2.stage = s.stage ∧ (s.draw w).2.commits = s.commits ∧ (s.draw w).2.locks = s.locks ∧
    (s.draw w).2.cpAbsent = s.cpAbsent ∧ (s.draw w).2.cpLost = s.cpLost ∧ (s.draw w).2.mq = s.mq ∧
    (s.draw w).2.inService = s.inService ∧ (s.draw w).2.mTags = s.mTags ∧ (s.draw w).2.lhp = s.lhp ∧ (s.draw w).2.swp = s.swp ∧
    (s.draw w).2.grants = s.grants ∧ (s.draw w).2.band = s.band ∧ (s.draw w).2.power = s.power ∧ (s.draw w).2.ports = s.ports ∧
    (s.draw w).2.lanes = s.lanes ∧ (s.draw w).2.hier = s.hier ∧ (s.draw w).2.time = s.time ∧ (s.draw w).2.dl = s.dl ∧
    (s.draw w).2.ul = s.ul ∧ (s.draw w).2.tbl = s.tbl ∧ (s.draw w).2.rf = s.rf ∧ (s.draw w).2.clk = s.clk ∧
    (s.draw w).2.dpd = s.dpd ∧ (s.draw w).2.cal = s.cal ∧ (s.draw w).2.dma = s.dma ∧ (s.draw w).2.hk = s.hk ∧
    (s.draw w).2.sec = s.sec ∧ (s.draw w).2.past = s.past ∧ (s.draw w).2.start = s.start ∧
    (s.draw w).2.time_ = s.time_ ∧ (∀ i' j', (s.draw w).2.o i' j' = s.o i' j') ∧
    (∀ i' j', (s.draw w).2.a i' j' = s.a i' j') ∧ (∀ T' i' j', (s.draw w).2.at_ T' i' j' = s.at_ T' i' j') := by
  and_intros <;> intros <;> rfl

@[simp] theorem State.lhpPush_keeps (f : List Nat) :
    (s.lhpPush f).now = s.now ∧ (s.lhpPush f).timeBase = s.timeBase ∧ (s.lhpPush f).pending = s.pending ∧
    (s.lhpPush f).obj = s.obj ∧ (s.lhpPush f).act = s.act ∧ (s.lhpPush f).held = s.held ∧ (s.lhpPush f).free = s.free ∧
    (s.lhpPush f).mem = s.mem ∧ (s.lhpPush f).alarms = s.alarms ∧ (s.lhpPush f).log = s.log ∧
    (s.lhpPush f).slotAlarms = s.slotAlarms ∧ (s.lhpPush f).clears = s.clears ∧ (s.lhpPush f).stage = s.stage ∧
    (s.lhpPush f).commits = s.commits ∧ (s.lhpPush f).locks = s.locks ∧ (s.lhpPush f).cpAbsent = s.cpAbsent ∧
    (s.lhpPush f).cpLost = s.cpLost ∧ (s.lhpPush f).mq = s.mq ∧ (s.lhpPush f).inService = s.inService ∧
    (s.lhpPush f).mTags = s.mTags ∧ (s.lhpPush f).swp = s.swp ∧ (s.lhpPush f).grants = s.grants ∧ (s.lhpPush f).band = s.band ∧
    (s.lhpPush f).power = s.power ∧ (s.lhpPush f).ports = s.ports ∧ (s.lhpPush f).lanes = s.lanes ∧ (s.lhpPush f).hier = s.hier ∧
    (s.lhpPush f).time = s.time ∧ (s.lhpPush f).dl = s.dl ∧ (s.lhpPush f).ul = s.ul ∧ (s.lhpPush f).tbl = s.tbl ∧
    (s.lhpPush f).rf = s.rf ∧ (s.lhpPush f).clk = s.clk ∧ (s.lhpPush f).dpd = s.dpd ∧ (s.lhpPush f).cal = s.cal ∧
    (s.lhpPush f).dma = s.dma ∧ (s.lhpPush f).hk = s.hk ∧ (s.lhpPush f).sec = s.sec ∧ (s.lhpPush f).past = s.past ∧
    (s.lhpPush f).start = s.start ∧
    (s.lhpPush f).time_ = s.time_ ∧ (∀ i' j', (s.lhpPush f).o i' j' = s.o i' j') ∧
    (∀ i' j', (s.lhpPush f).a i' j' = s.a i' j') ∧ (∀ T' i' j', (s.lhpPush f).at_ T' i' j' = s.at_ T' i' j') := by
  and_intros <;> intros <;> rfl

@[simp] theorem State.send_keeps (p : Nat) (k : Pkt) (o : Bool) (c : Option Int) :
    (s.send p k o c).now = s.now ∧ (s.send p k o c).timeBase = s.timeBase ∧ (s.send p k o c).pending = s.pending ∧
    (s.send p k o c).obj = s.obj ∧ (s.send p k o c).act = s.act ∧ (s.send p k o c).held = s.held ∧
    (s.send p k o c).free = s.free ∧ (s.send p k o c).mem = s.mem ∧ (s.send p k o c).alarms = s.alarms ∧
    (s.send p k o c).log = s.log ∧ (s.send p k o c).slotAlarms = s.slotAlarms ∧ (s.send p k o c).clears = s.clears ∧
    (s.send p k o c).stage = s.stage ∧ (s.send p k o c).commits = s.commits ∧ (s.send p k o c).locks = s.locks ∧
    (s.send p k o c).cpAbsent = s.cpAbsent ∧ (s.send p k o c).cpLost = s.cpLost ∧ (s.send p k o c).mq = s.mq ∧
    (s.send p k o c).inService = s.inService ∧ (s.send p k o c).mTags = s.mTags ∧ (s.send p k o c).lhp = s.lhp ∧
    (s.send p k o c).swp = s.swp ∧ (s.send p k o c).grants = s.grants ∧ (s.send p k o c).band = s.band ∧
    (s.send p k o c).power = s.power ∧ (s.send p k o c).lanes = s.lanes ∧ (s.send p k o c).hier = s.hier ∧
    (s.send p k o c).time = s.time ∧ (s.send p k o c).dl = s.dl ∧ (s.send p k o c).ul = s.ul ∧ (s.send p k o c).tbl = s.tbl ∧
    (s.send p k o c).rf = s.rf ∧ (s.send p k o c).clk = s.clk ∧ (s.send p k o c).dpd = s.dpd ∧ (s.send p k o c).cal = s.cal ∧
    (s.send p k o c).dma = s.dma ∧ (s.send p k o c).hk = s.hk ∧ (s.send p k o c).sec = s.sec ∧ (s.send p k o c).past = s.past ∧
    (s.send p k o c).start = s.start ∧
    (s.send p k o c).time_ = s.time_ ∧ (∀ i' j', (s.send p k o c).o i' j' = s.o i' j') ∧
    (∀ i' j', (s.send p k o c).a i' j' = s.a i' j') ∧ (∀ T' i' j', (s.send p k o c).at_ T' i' j' = s.at_ T' i' j') := by
  unfold State.send; split <;> and_intros <;> intros <;> rfl

@[simp] theorem State.sendCtl_keeps (p : Nat) (l : List Nat) :
    (s.sendCtl p l).now = s.now ∧ (s.sendCtl p l).timeBase = s.timeBase ∧ (s.sendCtl p l).pending = s.pending ∧
    (s.sendCtl p l).obj = s.obj ∧ (s.sendCtl p l).act = s.act ∧ (s.sendCtl p l).held = s.held ∧ (s.sendCtl p l).free = s.free ∧
    (s.sendCtl p l).mem = s.mem ∧ (s.sendCtl p l).alarms = s.alarms ∧ (s.sendCtl p l).log = s.log ∧
    (s.sendCtl p l).slotAlarms = s.slotAlarms ∧ (s.sendCtl p l).clears = s.clears ∧ (s.sendCtl p l).stage = s.stage ∧
    (s.sendCtl p l).commits = s.commits ∧ (s.sendCtl p l).locks = s.locks ∧ (s.sendCtl p l).cpAbsent = s.cpAbsent ∧
    (s.sendCtl p l).cpLost = s.cpLost ∧ (s.sendCtl p l).mq = s.mq ∧ (s.sendCtl p l).inService = s.inService ∧
    (s.sendCtl p l).mTags = s.mTags ∧ (s.sendCtl p l).lhp = s.lhp ∧ (s.sendCtl p l).swp = s.swp ∧
    (s.sendCtl p l).grants = s.grants ∧ (s.sendCtl p l).band = s.band ∧ (s.sendCtl p l).power = s.power ∧
    (s.sendCtl p l).lanes = s.lanes ∧ (s.sendCtl p l).hier = s.hier ∧ (s.sendCtl p l).time = s.time ∧ (s.sendCtl p l).dl = s.dl ∧
    (s.sendCtl p l).ul = s.ul ∧ (s.sendCtl p l).tbl = s.tbl ∧ (s.sendCtl p l).rf = s.rf ∧ (s.sendCtl p l).clk = s.clk ∧
    (s.sendCtl p l).dpd = s.dpd ∧ (s.sendCtl p l).cal = s.cal ∧ (s.sendCtl p l).dma = s.dma ∧ (s.sendCtl p l).hk = s.hk ∧
    (s.sendCtl p l).sec = s.sec ∧ (s.sendCtl p l).past = s.past ∧ (s.sendCtl p l).start = s.start ∧
    (s.sendCtl p l).time_ = s.time_ ∧ (∀ i' j', (s.sendCtl p l).o i' j' = s.o i' j') ∧
    (∀ i' j', (s.sendCtl p l).a i' j' = s.a i' j') ∧ (∀ T' i' j', (s.sendCtl p l).at_ T' i' j' = s.at_ T' i' j') := by
  and_intros <;> intros <;> rfl

@[simp] theorem State.freeStage_keeps :
    (s.freeStage).now = s.now ∧ (s.freeStage).timeBase = s.timeBase ∧ (s.freeStage).pending = s.pending ∧
    (s.freeStage).obj = s.obj ∧ (s.freeStage).act = s.act ∧ (s.freeStage).held = s.held ∧ (s.freeStage).free = s.free ∧
    (s.freeStage).mem = s.mem ∧ (s.freeStage).alarms = s.alarms ∧ (s.freeStage).log = s.log ∧
    (s.freeStage).slotAlarms = s.slotAlarms ∧ (s.freeStage).clears = s.clears ∧ (s.freeStage).commits = s.commits ∧
    (s.freeStage).cpAbsent = s.cpAbsent ∧ (s.freeStage).cpLost = s.cpLost ∧ (s.freeStage).mq = s.mq ∧
    (s.freeStage).inService = s.inService ∧ (s.freeStage).mTags = s.mTags ∧ (s.freeStage).lhp = s.lhp ∧
    (s.freeStage).swp = s.swp ∧ (s.freeStage).grants = s.grants ∧ (s.freeStage).band = s.band ∧ (s.freeStage).power = s.power ∧
    (s.freeStage).ports = s.ports ∧ (s.freeStage).lanes = s.lanes ∧ (s.freeStage).hier = s.hier ∧ (s.freeStage).time = s.time ∧
    (s.freeStage).dl = s.dl ∧ (s.freeStage).ul = s.ul ∧ (s.freeStage).tbl = s.tbl ∧ (s.freeStage).rf = s.rf ∧
    (s.freeStage).clk = s.clk ∧ (s.freeStage).dpd = s.dpd ∧ (s.freeStage).cal = s.cal ∧ (s.freeStage).dma = s.dma ∧
    (s.freeStage).hk = s.hk ∧ (s.freeStage).sec = s.sec ∧ (s.freeStage).past = s.past ∧ (s.freeStage).start = s.start ∧
    (s.freeStage).time_ = s.time_ ∧ (∀ i' j', (s.freeStage).o i' j' = s.o i' j') ∧
    (∀ i' j', (s.freeStage).a i' j' = s.a i' j') ∧ (∀ T' i' j', (s.freeStage).at_ T' i' j' = s.at_ T' i' j') := by
  and_intros <;> intros <;> rfl

end Sys2Proof.Machine
end

