-- ==== Sys2Proof/Laws/Ops.lean ====
section
/-!
SUPPORT. Reads after writes of objects, memory and fixed things; what running an event gives.
-/

namespace Sys2Proof.Machine

variable (s : State)

/-! ### Objects -/

theorem State.o_seto (i j v a b : Nat) :
    (s.seto i j v).o a b = if key a b = key i j then v % 256 ^ width (key i j) else s.o a b := by
  unfold State.o State.seto
  split <;> rename_i h
  · rw [h]; exact smGet_set_same _ _ _ _
  · exact smGet_set_ne _ _ _ _ h

theorem State.a_seta (i j v a b : Nat) :
    (s.seta i j v).a a b = if key a b = key i j then v % 256 ^ width (key i j) else s.a a b := by
  unfold State.a State.seta
  split <;> rename_i h
  · rw [h]; exact smGet_set_same _ _ _ _
  · exact smGet_set_ne _ _ _ _ h

theorem State.o_seto_same (i j v : Nat) : (s.seto i j v).o i j = v % 256 ^ width (key i j) := by simp [State.o_seto]

theorem State.o_seto_ne {i j v a b : Nat} (h : key a b ≠ key i j) : (s.seto i j v).o a b = s.o a b := by
  simp [State.o_seto, h]

theorem State.o_setBoth (i j v a b : Nat) :
    (s.setBoth i j v).o a b = if key a b = key i j then v % 256 ^ width (key i j) else s.o a b := by
  exact s.o_seto i j v a b

theorem State.a_setBoth (i j v a b : Nat) :
    (s.setBoth i j v).a a b = if key a b = key i j then v % 256 ^ width (key i j) else s.a a b := by
  unfold State.setBoth; rw [State.a_seta]; simp

theorem State.o_bump (i j n a b : Nat) :
    (s.bump i j n).o a b = if key a b = key i j ∧ n ≠ 0 then (s.o i j + n) % 256 ^ width (key i j) else s.o a b := by
  unfold State.bump
  split <;> rename_i h
  · simp [h]
  · rw [State.o_seto]; simp [h]

theorem State.o_setBit (i j b : Nat) (v : Bool) (c d : Nat) :
    (s.setBit i j b v).o c d = if key c d = key i j then withBit (s.o i j) b v % 256 ^ width (key i j) else s.o c d :=
  s.o_seto i j _ c d

/-! ### Memory -/

/-- A byte read after a byte is written. -/
theorem State.rd8_wr8 (a v b : Nat) : (s.wr8 a v).rd8 b = if b = a then v % 256 else s.rd8 b := by
  unfold State.rd8 State.wr8
  simp only [smGet_set]
  split <;> simp

/-- Writing a byte keeps the canonical form. -/
theorem State.wr8_wf (a v : Nat) (h : Memory.wf s.mem = true) : Memory.wf (s.wr8 a v).mem = true := smWf_set _ _ h

/-- Writing bytes keeps the canonical form. -/
theorem State.wrBytes_wf (a : Nat) (l : List Nat) (h : Memory.wf s.mem = true) : Memory.wf (s.wrBytes a l).mem = true := by
  induction l generalizing s a with
  | nil => exact h
  | cons b l ih => exact ih _ _ (s.wr8_wf a b h)

/-- Writing a word keeps the canonical form. -/
theorem State.wr32_wf (a v : Nat) (h : Memory.wf s.mem = true) : Memory.wf (s.wr32 a v).mem = true := s.wrBytes_wf a _ h

/-- Bytes read after bytes are written. -/
theorem State.rd8_wrBytes (l : List Nat) (a b : Nat) :
    (s.wrBytes a l).rd8 b = if a ≤ b ∧ b < a + l.length then (l.getD (b - a) 0) % 256 else s.rd8 b := by
  induction l generalizing s a with
  | nil => simp [State.wrBytes] <;> (intro h1 h2; omega)
  | cons x l ih =>
    simp only [State.wrBytes, ih, State.rd8_wr8, List.length_cons]
    by_cases h : a + 1 ≤ b ∧ b < a + 1 + l.length
    · have h1 : a ≤ b ∧ b < a + (l.length + 1) := by omega
      have h2 : b - a = (b - (a + 1)) + 1 := by omega
      rw [if_pos h, if_pos h1, h2, List.getD_cons_succ]
    · rw [if_neg h]
      by_cases hb : b = a
      · subst hb; simp
      · have h1 : ¬ (a ≤ b ∧ b < a + (l.length + 1)) := by omega
        rw [if_neg hb, if_neg h1]

/-- The canonical form of a memory is canonical. -/
theorem Memory.canon_wf (m : List Host.Cell) : Memory.wf (Memory.canon m) = true := by
  induction m with
  | nil => rfl
  | cons c r ih => exact smWf_set _ _ ih

/-- It reads as the memory does. -/
theorem Memory.get_canon (m : List Host.Cell) (a : Nat) : smGet (0 : BitVec 8) (Memory.canon m) a = smGet 0 m a := by
  induction m with
  | nil => rfl
  | cons c r ih =>
    have : Memory.canon (c :: r) = smSet (0 : BitVec 8) (Memory.canon r) c.1 c.2 := rfl
    rw [this, smGet_set, ih]
    simp only [smGet, eq_comm]

/-- A memory in canonical form is its own canonical form. -/
theorem Memory.canon_eq {m : List Host.Cell} (h : Memory.wf m = true) : Memory.canon m = m :=
  smFrom_ext (Memory.canon_wf m) h (Memory.get_canon m)

/-! ### Fixed things -/

theorem State.lock_setLock (n m : Nat) (l : LockRec) :
    (s.setLock n l).lock m = if m = n ∧ n < 28 then l else s.lock m := by
  unfold State.lock State.setLock; simp

theorem State.port_modPort (p q : Nat) (f : Port → Port) :
    (s.modPort p f).port q = if q = p ∧ p < 3 then f (s.port p) else s.port q := by
  unfold State.port State.modPort; simp

theorem State.lane_modLane (p x q y : Nat) (f : Lane → Lane) :
    (s.modLane p x f).lane q y = if 8 * q + y = 8 * p + x ∧ 8 * p + x < 24 then f (s.lane p x) else s.lane q y := by
  unfold State.lane State.modLane; simp

theorem State.lo_modLo (l m : Nat) (f : Lo → Lo) :
    (s.modLo l f).lo m = if m = l ∧ l < 4 then f (s.lo l) else s.lo m := by
  unfold State.lo State.modLo; simp

theorem State.dp_modDp (n m : Nat) (f : DpdPath → DpdPath) :
    (s.modDp n f).dp m = if m = n then f (s.dp n) else s.dp m := by
  unfold State.modDp; simp [State.dp]

theorem State.ox_modOx (x y : Nat) (f : Orx → Orx) :
    (s.modOx x f).ox y = if y = x ∧ x < 8 then f (s.ox x) else s.ox y := by
  unfold State.modOx; simp [State.ox]

theorem State.ch_modChan (n m : Nat) (f : Chan → Chan) :
    (s.modChan n f).ch m = if m = n ∧ n < 16 then f (s.ch n) else s.ch m := by
  unfold State.modChan; simp [State.ch]

theorem State.capb_modCap (n m : Nat) (f : CapBuf → CapBuf) :
    (s.modCap n f).capb m = if m = n ∧ n < 4 then f (s.capb n) else s.capb m := by
  unfold State.modCap; simp [State.capb]

theorem State.tb_modTb (n m : Nat) (f : Tbl → Tbl) :
    (s.modTb n f).tb m = if m = n ∧ n < 2 then f (s.tb n) else s.tb m := by
  unfold State.modTb; simp [State.tb]

theorem State.tci_modTci (n m : Nat) (f : Tci → Tci) :
    (s.modTci n f).tci m = if m = n ∧ n < 2 then f (s.tci n) else s.tci m := by
  unfold State.modTci; simp [State.tci]

theorem State.chst_modCh (p q : Nat) (f : ChSt → ChSt) :
    (s.modCh p f).chst q = if q - 1 = p - 1 ∧ p - 1 < 2 then f (s.chst p) else s.chst q := by
  unfold State.modCh; simp [State.chst]

/-! ### Grants -/

theorem State.granted_release (k : GKind) (n : Nat) (k' : GKind) (n' : Nat) :
    (s.release k n).granted k' n' = (s.granted k' n' && decide (¬ (k' = k ∧ n' = n))) := by
  unfold State.granted State.release
  induction s.grants with
  | nil => rfl
  | cons g l ih => grind

theorem State.granted_book (k : GKind) (n : Nat) (c : List Nat) (k' : GKind) (n' : Nat) :
    (s.book k n c).granted k' n' = if k' = k ∧ n' = n then decide (c ≠ noCost) else s.granted k' n' := by
  have hr := s.granted_release k n k' n'
  unfold State.book
  dsimp only
  split <;> rename_i hc
  · rw [hr]; grind
  · unfold State.granted at hr ⊢
    simp only [List.any_append, hr, List.any_cons, List.any_nil]
    grind

/-! ### Running an event -/

theorem State.exitsDone_now : s.exitsDone.now = s.now := by
  unfold State.exitsDone
  generalize s.rf.exits.filter _ = l
  induction l generalizing s with
  | nil => rfl
  | cons x l ih => simp only [List.foldl_cons]; rw [ih]; simp

theorem State.exitsDone_pending : s.exitsDone.pending = s.pending := by
  unfold State.exitsDone
  generalize s.rf.exits.filter _ = l
  induction l generalizing s with
  | nil => rfl
  | cons x l ih => simp only [List.foldl_cons]; rw [ih]; simp

theorem State.upTo_pending (t : Tick) : (s.upTo t).pending = s.pending := State.exitsDone_pending _

theorem State.upTo_now (t : Tick) : (s.upTo t).now = max s.now t := State.exitsDone_now _

/-- An event answers a next state. -/
theorem State.run_next (t : Tick) (f : State → State) : s.run t f = .next (s.done t (f (s.upTo t))) := rfl

@[simp] theorem State.done_keeps (t : Tick) (w : State) :
    (s.done t w).now = max s.now t ∧ (s.done t w).pending = s.pending ∧ (s.done t w).mem = Memory.canon w.mem ∧
    (s.done t w).obj = w.obj ∧ (s.done t w).timeBase = w.timeBase ∧ (s.done t w).act = w.act ∧ (s.done t w).held = w.held ∧
    (s.done t w).free = w.free ∧ (s.done t w).alarms = w.alarms ∧ (s.done t w).log = w.log ∧
    (s.done t w).slotAlarms = w.slotAlarms ∧ (s.done t w).clears = w.clears ∧ (s.done t w).stage = w.stage ∧
    (s.done t w).commits = w.commits ∧ (s.done t w).locks = w.locks ∧ (s.done t w).cpAbsent = w.cpAbsent ∧
    (s.done t w).cpLost = w.cpLost ∧ (s.done t w).mq = w.mq ∧ (s.done t w).inService = w.inService ∧
    (s.done t w).mTags = w.mTags ∧ (s.done t w).lhp = w.lhp ∧ (s.done t w).swp = w.swp ∧ (s.done t w).grants = w.grants ∧
    (s.done t w).band = w.band ∧ (s.done t w).power = w.power ∧ (s.done t w).ports = w.ports ∧ (s.done t w).lanes = w.lanes
    ∧ (s.done t w).hier = w.hier ∧ (s.done t w).time = w.time ∧ (s.done t w).dl = w.dl ∧ (s.done t w).ul = w.ul ∧
    (s.done t w).tbl = w.tbl ∧ (s.done t w).rf = w.rf ∧ (s.done t w).clk = w.clk ∧ (s.done t w).dpd = w.dpd ∧
    (s.done t w).cal = w.cal ∧ (s.done t w).dma = w.dma ∧ (s.done t w).hk = w.hk ∧ (s.done t w).sec = w.sec ∧
    (s.done t w).start = w.start ∧
    (∀ i j, (s.done t w).o i j = w.o i j) ∧ (∀ i j, (s.done t w).a i j = w.a i j) ∧
    (∀ T i j, (s.done t w).at_ T i j = w.at_ T i j) := by
  and_intros <;> intros <;> rfl

@[simp] theorem State.done_rd8 (t : Tick) (w : State) (a : Nat) : (s.done t w).rd8 a = w.rd8 a := by
  exact congrArg BitVec.toNat (Memory.get_canon w.mem a)

/-- What the effect of an event gives, its frame apart. -/
theorem completes_of {c : Instr} {t : Tick} {s : State} {f : State → State} {P : State → State → Prop}
    (h : exec c s = s.run t f) (hp : P (s.upTo t) (s.done t (f (s.upTo t)))) : Completes c t s P :=
  ⟨_, h, hp⟩

end Sys2Proof.Machine
end

