-- ==== Sys2Proof/Laws/Frame.lean ====
section
/-!
SUPPORT. The frame of each shared operation: what it can write, and nothing else.
-/

namespace Sys2Proof.Machine

variable {ps : List Part} {ks : List Nat} {w s : State}

theorem Frame.refl : Frame ps ks w w := ⟨fun p _ => by cases p <;> simp [Part.same], fun _ _ _ _ => rfl⟩

theorem Frame.trans {s' : State} (h : Frame ps ks w s) (g : Frame ps ks s s') : Frame ps ks w s' :=
  ⟨fun p hp => by have a := h.1 p hp; have b := g.1 p hp; cases p <;> simp_all [Part.same],
   fun ho i j hk => (g.2 ho i j hk).trans (h.2 ho i j hk)⟩

/-- A wider frame. -/
theorem Frame.mono {ps' : List Part} {ks' : List Nat} (h : Frame ps ks w s) (hp : ∀ p, p ∈ ps → p ∈ ps')
    (hk : ∀ k, k ∈ ks → k ∈ ks') : Frame ps' ks' w s :=
  ⟨fun p h' => h.1 p (fun x => h' (hp p x)), fun ho i j h' => h.2 (fun x => ho (hp _ x)) i j (fun x => h' (hk _ x))⟩

theorem Frame.foldl {α : Type} (f : State → α → State) (l : List α) (hf : ∀ s a, a ∈ l → Frame ps ks w s → Frame ps ks w (f s a))
    (h : Frame ps ks w s) : Frame ps ks w (l.foldl f s) := by
  induction l generalizing s with
  | nil => exact h
  | cons a l ih => exact ih (fun s b hb => hf s b (List.mem_cons_of_mem _ hb)) (hf s a (List.mem_cons_self) h)

theorem Frame.ite {c : Prop} [Decidable c] {a b : State} (h : c → Frame ps ks w a) (g : ¬c → Frame ps ks w b) :
    Frame ps ks w (if c then a else b) := by
  split <;> rename_i hc
  · exact h hc
  · exact g hc

/-- The frame of a command that has answered. -/
theorem Frame.done {t : Tick} (z : State) (h : Frame ps ks (z.upTo t) s) : Frame ps ks (z.upTo t) (z.done t s) :=
  ⟨fun p hp => by
    have := h.1 p hp
    cases p <;> first
      | exact this
      | (intro a; exact (z.done_rd8 t s a).trans (this a))
      | exact (z.upTo_now t).symm
      | exact (z.upTo_pending t).symm,
   fun ho i j hk => h.2 ho i j hk⟩

theorem Frame.seto {i j v : Nat} (h : Frame ps ks w s) (hk : key i j ∈ ks ∨ Part.obj ∈ ps) : Frame ps ks w (s.seto i j v) where
  parts p hp := by have := h.1 p hp; cases p <;> simp_all [Part.same, State.rd8]
  objs ho a b hn := by
    have hne : key a b ≠ key i j := by
      intro e; rw [e] at hn; simp_all
    rw [State.o_seto_ne s hne]
    exact h.2 ho a b hn

theorem Frame.bump {i j n : Nat} (h : Frame ps ks w s) (hk : key i j ∈ ks ∨ Part.obj ∈ ps) : Frame ps ks w (s.bump i j n) := by
  unfold State.bump; split
  · exact h
  · exact h.seto hk

theorem Frame.setoi {i j : Nat} {v : Int} (h : Frame ps ks w s) (hk : key i j ∈ ks ∨ Part.obj ∈ ps) :
    Frame ps ks w (s.setoi i j v) := h.seto hk

theorem Frame.setBit {i j b : Nat} {v : Bool} (h : Frame ps ks w s) (hk : key i j ∈ ks ∨ Part.obj ∈ ps) :
    Frame ps ks w (s.setBit i j b v) := h.seto hk

theorem Frame.setDom {d v : Nat} (h : Frame ps ks w s) (hk : key 0x5022 (d + 1) ∈ ks ∨ Part.obj ∈ ps) :
    Frame ps ks w (s.setDom d v) := h.seto hk

theorem Frame.setTime {v : Nat} (h : Frame ps ks w s) (hk : key 0x1200 0x0B ∈ ks ∨ Part.obj ∈ ps) :
    Frame ps ks w (s.setTime v) := h.seto hk

theorem Frame.zeroRange {i j n : Nat} (h : Frame ps ks w s) (hk : ∀ m, m < n → key i (j + m) ∈ ks ∨ Part.obj ∈ ps) :
    Frame ps ks w (s.zeroRange i j n) := by
  induction n with
  | zero => exact h
  | succ n ih => exact (ih (fun m hm => hk m (by omega))).seto (hk n (by omega))

theorem Frame.timeBase {x : Int} (h : Frame ps ks w s) (hp : Part.timeBase ∈ ps) : Frame ps ks w { s with timeBase := x } :=
  ⟨fun p hq => by have := h.1 p hq; cases p <;> simp_all [Part.same, State.rd8], h.2⟩

theorem Frame.act {x : SMap Nat} (h : Frame ps ks w s) (hp : Part.act ∈ ps) : Frame ps ks w { s with act := x } :=
  ⟨fun p hq => by have := h.1 p hq; cases p <;> simp_all [Part.same, State.rd8], h.2⟩

theorem Frame.held {x : SMap Nat} (h : Frame ps ks w s) (hp : Part.held ∈ ps) : Frame ps ks w { s with held := x } :=
  ⟨fun p hq => by have := h.1 p hq; cases p <;> simp_all [Part.same, State.rd8], h.2⟩

theorem Frame.free {x : Nat} (h : Frame ps ks w s) (hp : Part.free ∈ ps) : Frame ps ks w { s with free := x } :=
  ⟨fun p hq => by have := h.1 p hq; cases p <;> simp_all [Part.same, State.rd8], h.2⟩

theorem Frame.alarms {x : List AlarmInst} (h : Frame ps ks w s) (hp : Part.alarms ∈ ps) : Frame ps ks w { s with alarms := x } :=
  ⟨fun p hq => by have := h.1 p hq; cases p <;> simp_all [Part.same, State.rd8], h.2⟩

theorem Frame.log {x : List LogEntry} (h : Frame ps ks w s) (hp : Part.log ∈ ps) : Frame ps ks w { s with log := x } :=
  ⟨fun p hq => by have := h.1 p hq; cases p <;> simp_all [Part.same, State.rd8], h.2⟩

theorem Frame.slotAlarms {x : List (Nat × Nat)} (h : Frame ps ks w s) (hp : Part.slotAlarms ∈ ps) : Frame ps ks w { s with slotAlarms := x } :=
  ⟨fun p hq => by have := h.1 p hq; cases p <;> simp_all [Part.same, State.rd8], h.2⟩

theorem Frame.clears {x : List Nat} (h : Frame ps ks w s) (hp : Part.clears ∈ ps) : Frame ps ks w { s with clears := x } :=
  ⟨fun p hq => by have := h.1 p hq; cases p <;> simp_all [Part.same, State.rd8], h.2⟩

theorem Frame.stage {x : Option StageSet} (h : Frame ps ks w s) (hp : Part.stage ∈ ps) : Frame ps ks w { s with stage := x } :=
  ⟨fun p hq => by have := h.1 p hq; cases p <;> simp_all [Part.same, State.rd8], h.2⟩

theorem Frame.commits {x : List PCommit} (h : Frame ps ks w s) (hp : Part.commits ∈ ps) : Frame ps ks w { s with commits := x } :=
  ⟨fun p hq => by have := h.1 p hq; cases p <;> simp_all [Part.same, State.rd8], h.2⟩

theorem Frame.locks {x : SMap LockRec} (h : Frame ps ks w s) (hp : Part.locks ∈ ps) : Frame ps ks w { s with locks := x } :=
  ⟨fun p hq => by have := h.1 p hq; cases p <;> simp_all [Part.same, State.rd8], h.2⟩

theorem Frame.cpAbsent {x : Option Nat} (h : Frame ps ks w s) (hp : Part.cpAbsent ∈ ps) : Frame ps ks w { s with cpAbsent := x } :=
  ⟨fun p hq => by have := h.1 p hq; cases p <;> simp_all [Part.same, State.rd8], h.2⟩

theorem Frame.cpLost {x : Bool} (h : Frame ps ks w s) (hp : Part.cpLost ∈ ps) : Frame ps ks w { s with cpLost := x } :=
  ⟨fun p hq => by have := h.1 p hq; cases p <;> simp_all [Part.same, State.rd8], h.2⟩

theorem Frame.mq {x : List MReq} (h : Frame ps ks w s) (hp : Part.mq ∈ ps) : Frame ps ks w { s with mq := x } :=
  ⟨fun p hq => by have := h.1 p hq; cases p <;> simp_all [Part.same, State.rd8], h.2⟩

theorem Frame.inService {x : List MReq} (h : Frame ps ks w s) (hp : Part.inService ∈ ps) : Frame ps ks w { s with inService := x } :=
  ⟨fun p hq => by have := h.1 p hq; cases p <;> simp_all [Part.same, State.rd8], h.2⟩

theorem Frame.mTags {x : List MTag} (h : Frame ps ks w s) (hp : Part.mTags ∈ ps) : Frame ps ks w { s with mTags := x } :=
  ⟨fun p hq => by have := h.1 p hq; cases p <;> simp_all [Part.same, State.rd8], h.2⟩

theorem Frame.lhp {x : Lhp} (h : Frame ps ks w s) (hp : Part.lhp ∈ ps) : Frame ps ks w { s with lhp := x } :=
  ⟨fun p hq => by have := h.1 p hq; cases p <;> simp_all [Part.same, State.rd8], h.2⟩

theorem Frame.swp {x : Swp} (h : Frame ps ks w s) (hp : Part.swp ∈ ps) : Frame ps ks w { s with swp := x } :=
  ⟨fun p hq => by have := h.1 p hq; cases p <;> simp_all [Part.same, State.rd8], h.2⟩

theorem Frame.grants {x : List Grant} (h : Frame ps ks w s) (hp : Part.grants ∈ ps) : Frame ps ks w { s with grants := x } :=
  ⟨fun p hq => by have := h.1 p hq; cases p <;> simp_all [Part.same, State.rd8], h.2⟩

theorem Frame.band {x : Nat} (h : Frame ps ks w s) (hp : Part.band ∈ ps) : Frame ps ks w { s with band := x } :=
  ⟨fun p hq => by have := h.1 p hq; cases p <;> simp_all [Part.same, State.rd8], h.2⟩

theorem Frame.power {x : Power} (h : Frame ps ks w s) (hp : Part.power ∈ ps) : Frame ps ks w { s with power := x } :=
  ⟨fun p hq => by have := h.1 p hq; cases p <;> simp_all [Part.same, State.rd8], h.2⟩

theorem Frame.ports {x : SMap Port} (h : Frame ps ks w s) (hp : Part.ports ∈ ps) : Frame ps ks w { s with ports := x } :=
  ⟨fun p hq => by have := h.1 p hq; cases p <;> simp_all [Part.same, State.rd8], h.2⟩

theorem Frame.lanes {x : SMap Lane} (h : Frame ps ks w s) (hp : Part.lanes ∈ ps) : Frame ps ks w { s with lanes := x } :=
  ⟨fun p hq => by have := h.1 p hq; cases p <;> simp_all [Part.same, State.rd8], h.2⟩

theorem Frame.hier {x : Hier} (h : Frame ps ks w s) (hp : Part.hier ∈ ps) : Frame ps ks w { s with hier := x } :=
  ⟨fun p hq => by have := h.1 p hq; cases p <;> simp_all [Part.same, State.rd8], h.2⟩

theorem Frame.time {x : TimeSt} (h : Frame ps ks w s) (hp : Part.time ∈ ps) : Frame ps ks w { s with time := x } :=
  ⟨fun p hq => by have := h.1 p hq; cases p <;> simp_all [Part.same, State.rd8], h.2⟩

theorem Frame.dl {x : Dl} (h : Frame ps ks w s) (hp : Part.dl ∈ ps) : Frame ps ks w { s with dl := x } :=
  ⟨fun p hq => by have := h.1 p hq; cases p <;> simp_all [Part.same, State.rd8], h.2⟩

theorem Frame.ul {x : Ul} (h : Frame ps ks w s) (hp : Part.ul ∈ ps) : Frame ps ks w { s with ul := x } :=
  ⟨fun p hq => by have := h.1 p hq; cases p <;> simp_all [Part.same, State.rd8], h.2⟩

theorem Frame.tbl {x : SMap Tbl} (h : Frame ps ks w s) (hp : Part.tbl ∈ ps) : Frame ps ks w { s with tbl := x } :=
  ⟨fun p hq => by have := h.1 p hq; cases p <;> simp_all [Part.same, State.rd8], h.2⟩

theorem Frame.rf {x : Rf} (h : Frame ps ks w s) (hp : Part.rf ∈ ps) : Frame ps ks w { s with rf := x } :=
  ⟨fun p hq => by have := h.1 p hq; cases p <;> simp_all [Part.same, State.rd8], h.2⟩

theorem Frame.clk {x : Clk} (h : Frame ps ks w s) (hp : Part.clk ∈ ps) : Frame ps ks w { s with clk := x } :=
  ⟨fun p hq => by have := h.1 p hq; cases p <;> simp_all [Part.same, State.rd8], h.2⟩

theorem Frame.dpd {x : Dpd} (h : Frame ps ks w s) (hp : Part.dpd ∈ ps) : Frame ps ks w { s with dpd := x } :=
  ⟨fun p hq => by have := h.1 p hq; cases p <;> simp_all [Part.same, State.rd8], h.2⟩

theorem Frame.cal {x : Cal} (h : Frame ps ks w s) (hp : Part.cal ∈ ps) : Frame ps ks w { s with cal := x } :=
  ⟨fun p hq => by have := h.1 p hq; cases p <;> simp_all [Part.same, State.rd8], h.2⟩

theorem Frame.dma {x : Dma} (h : Frame ps ks w s) (hp : Part.dma ∈ ps) : Frame ps ks w { s with dma := x } :=
  ⟨fun p hq => by have := h.1 p hq; cases p <;> simp_all [Part.same, State.rd8], h.2⟩

theorem Frame.hk {x : Hk} (h : Frame ps ks w s) (hp : Part.hk ∈ ps) : Frame ps ks w { s with hk := x } :=
  ⟨fun p hq => by have := h.1 p hq; cases p <;> simp_all [Part.same, State.rd8], h.2⟩

theorem Frame.sec {x : Sec} (h : Frame ps ks w s) (hp : Part.sec ∈ ps) : Frame ps ks w { s with sec := x } :=
  ⟨fun p hq => by have := h.1 p hq; cases p <;> simp_all [Part.same, State.rd8], h.2⟩

theorem Frame.past {x : List PCommit} (h : Frame ps ks w s) (hp : Part.past ∈ ps) : Frame ps ks w { s with past := x } :=
  ⟨fun p hq => by have := h.1 p hq; cases p <;> simp_all [Part.same, State.rd8], h.2⟩

theorem Frame.start {x : Start} (h : Frame ps ks w s) (hp : Part.start ∈ ps) : Frame ps ks w { s with start := x } :=
  ⟨fun p hq => by have := h.1 p hq; cases p <;> simp_all [Part.same, State.rd8], h.2⟩

theorem Frame.seta {i j v : Nat} (h : Frame ps ks w s) (h0 : Part.act ∈ ps) : Frame ps ks w (s.seta i j v) :=
  ⟨fun p hq => by have := h.1 p hq; cases p <;> simp_all [Part.same, State.rd8], fun ho i j hk => by simp [h.2 ho i j hk]⟩

theorem Frame.setLock {n : Nat} {l : LockRec} (h : Frame ps ks w s) (h0 : Part.locks ∈ ps) : Frame ps ks w (s.setLock n l) :=
  ⟨fun p hq => by have := h.1 p hq; cases p <;> simp_all [Part.same, State.rd8], fun ho i j hk => by simp [h.2 ho i j hk]⟩

theorem Frame.modPort {p : Nat} {f : Port → Port} (h : Frame ps ks w s) (h0 : Part.ports ∈ ps) : Frame ps ks w (s.modPort p f) :=
  ⟨fun p hq => by have := h.1 p hq; cases p <;> simp_all [Part.same, State.rd8], fun ho i j hk => by simp [h.2 ho i j hk]⟩

theorem Frame.modLane {p x : Nat} {f : Lane → Lane} (h : Frame ps ks w s) (h0 : Part.lanes ∈ ps) : Frame ps ks w (s.modLane p x f) :=
  ⟨fun p hq => by have := h.1 p hq; cases p <;> simp_all [Part.same, State.rd8], fun ho i j hk => by simp [h.2 ho i j hk]⟩

theorem Frame.modHk {f : Hk → Hk} (h : Frame ps ks w s) (h0 : Part.hk ∈ ps) : Frame ps ks w (s.modHk f) :=
  ⟨fun p hq => by have := h.1 p hq; cases p <;> simp_all [Part.same, State.rd8], fun ho i j hk => by simp [h.2 ho i j hk]⟩

theorem Frame.modCal {f : Cal → Cal} (h : Frame ps ks w s) (h0 : Part.cal ∈ ps) : Frame ps ks w (s.modCal f) :=
  ⟨fun p hq => by have := h.1 p hq; cases p <;> simp_all [Part.same, State.rd8], fun ho i j hk => by simp [h.2 ho i j hk]⟩

theorem Frame.modPower {f : Power → Power} (h : Frame ps ks w s) (h0 : Part.power ∈ ps) : Frame ps ks w (s.modPower f) :=
  ⟨fun p hq => by have := h.1 p hq; cases p <;> simp_all [Part.same, State.rd8], fun ho i j hk => by simp [h.2 ho i j hk]⟩

theorem Frame.modSec {f : Sec → Sec} (h : Frame ps ks w s) (h0 : Part.sec ∈ ps) : Frame ps ks w (s.modSec f) :=
  ⟨fun p hq => by have := h.1 p hq; cases p <;> simp_all [Part.same, State.rd8], fun ho i j hk => by simp [h.2 ho i j hk]⟩

theorem Frame.modStart {f : Start → Start} (h : Frame ps ks w s) (h0 : Part.start ∈ ps) : Frame ps ks w (s.modStart f) :=
  ⟨fun p hq => by have := h.1 p hq; cases p <;> simp_all [Part.same, State.rd8], fun ho i j hk => by simp [h.2 ho i j hk]⟩

theorem Frame.modLo {l : Nat} {f : Lo → Lo} (h : Frame ps ks w s) (h0 : Part.clk ∈ ps) : Frame ps ks w (s.modLo l f) :=
  ⟨fun p hq => by have := h.1 p hq; cases p <;> simp_all [Part.same, State.rd8], fun ho i j hk => by simp [h.2 ho i j hk]⟩

theorem Frame.modDp {n : Nat} {f : DpdPath → DpdPath} (h : Frame ps ks w s) (h0 : Part.dpd ∈ ps) : Frame ps ks w (s.modDp n f) :=
  ⟨fun p hq => by have := h.1 p hq; cases p <;> simp_all [Part.same, State.rd8], fun ho i j hk => by simp [h.2 ho i j hk]⟩

theorem Frame.modOx {x : Nat} {f : Orx → Orx} (h : Frame ps ks w s) (h0 : Part.dpd ∈ ps) : Frame ps ks w (s.modOx x f) :=
  ⟨fun p hq => by have := h.1 p hq; cases p <;> simp_all [Part.same, State.rd8], fun ho i j hk => by simp [h.2 ho i j hk]⟩

theorem Frame.modChan {n : Nat} {f : Chan → Chan} (h : Frame ps ks w s) (h0 : Part.dma ∈ ps) : Frame ps ks w (s.modChan n f) :=
  ⟨fun p hq => by have := h.1 p hq; cases p <;> simp_all [Part.same, State.rd8], fun ho i j hk => by simp [h.2 ho i j hk]⟩

theorem Frame.modCap {b : Nat} {f : CapBuf → CapBuf} (h : Frame ps ks w s) (h0 : Part.dma ∈ ps) : Frame ps ks w (s.modCap b f) :=
  ⟨fun p hq => by have := h.1 p hq; cases p <;> simp_all [Part.same, State.rd8], fun ho i j hk => by simp [h.2 ho i j hk]⟩

theorem Frame.modTb {d : Nat} {f : Tbl → Tbl} (h : Frame ps ks w s) (h0 : Part.tbl ∈ ps) : Frame ps ks w (s.modTb d f) :=
  ⟨fun p hq => by have := h.1 p hq; cases p <;> simp_all [Part.same, State.rd8], fun ho i j hk => by simp [h.2 ho i j hk]⟩

theorem Frame.modTci {n : Nat} {f : Tci → Tci} (h : Frame ps ks w s) (h0 : Part.time ∈ ps) : Frame ps ks w (s.modTci n f) :=
  ⟨fun p hq => by have := h.1 p hq; cases p <;> simp_all [Part.same, State.rd8], fun ho i j hk => by simp [h.2 ho i j hk]⟩

theorem Frame.modCh {p : Nat} {f : ChSt → ChSt} (h : Frame ps ks w s) (h0 : Part.ul ∈ ps) : Frame ps ks w (s.modCh p f) :=
  ⟨fun p hq => by have := h.1 p hq; cases p <;> simp_all [Part.same, State.rd8], fun ho i j hk => by simp [h.2 ho i j hk]⟩

theorem Frame.setPin {k : PinKind} {n v : Nat} (h : Frame ps ks w s) (h0 : Part.rf ∈ ps) : Frame ps ks w (s.setPin k n v) :=
  ⟨fun p hq => by have := h.1 p hq; cases p <;> simp_all [Part.same, State.rd8], fun ho i j hk => by simp [h.2 ho i j hk]⟩

theorem Frame.edge {T : Int} {k : PinKind} {n v : Nat} (h : Frame ps ks w s) (h0 : Part.rf ∈ ps) : Frame ps ks w (s.edge T k n v) :=
  ⟨fun p hq => by have := h.1 p hq; cases p <;> simp_all [Part.same, State.rd8], fun ho i j hk => by simp [h.2 ho i j hk]⟩

theorem Frame.settlePins (h : Frame ps ks w s) (h0 : Part.rf ∈ ps) : Frame ps ks w (s.settlePins) :=
  ⟨fun p hq => by have := h.1 p hq; cases p <;> simp_all [Part.same, State.rd8], fun ho i j hk => by simp [h.2 ho i j hk]⟩

theorem Frame.slotAlarm {c d : Nat} (h : Frame ps ks w s) (h0 : Part.slotAlarms ∈ ps) :
    Frame ps ks w (s.slotAlarm c d) := by
  unfold State.slotAlarm; split
  · exact h
  · exact h.slotAlarms h0

theorem Frame.release {k : GKind} {n : Nat} (h : Frame ps ks w s) (h0 : Part.grants ∈ ps) (h1 : Part.rf ∈ ps) : Frame ps ks w (s.release k n) :=
  ⟨fun p hq => by have := h.1 p hq; cases p <;> simp_all [Part.same, State.rd8], fun ho i j hk => by simp [h.2 ho i j hk]⟩

theorem Frame.book {k : GKind} {n : Nat} {c : List Nat} (h : Frame ps ks w s) (h0 : Part.grants ∈ ps) (h1 : Part.rf ∈ ps) : Frame ps ks w (s.book k n c) :=
  ⟨fun p hq => by have := h.1 p hq; cases p <;> simp_all [Part.same, State.rd8], fun ho i j hk => by simp [h.2 ho i j hk]⟩

theorem Frame.draw {n : Nat} (h : Frame ps ks w s) (h0 : Part.free ∈ ps) : Frame ps ks w (s.draw n).2 :=
  ⟨fun p hq => by have := h.1 p hq; cases p <;> simp_all [Part.same, State.rd8], fun ho i j hk => by simp [h.2 ho i j hk]⟩

theorem Frame.lhpPush {f : List Nat} (h : Frame ps ks w s) (h0 : Part.lhp ∈ ps) : Frame ps ks w (s.lhpPush f) :=
  ⟨fun p hq => by have := h.1 p hq; cases p <;> simp_all [Part.same, State.rd8], fun ho i j hk => by simp [h.2 ho i j hk]⟩

theorem Frame.send {p : Nat} {k : Pkt} {o : Bool} {c : Option Int} (h : Frame ps ks w s) (h0 : Part.ports ∈ ps) : Frame ps ks w (s.send p k o c) :=
  ⟨fun p hq => by have := h.1 p hq; cases p <;> simp_all [Part.same, State.rd8], fun ho i j hk => by simp [h.2 ho i j hk]⟩

theorem Frame.sendCtl {p : Nat} {l : List Nat} (h : Frame ps ks w s) (h0 : Part.ports ∈ ps) : Frame ps ks w (s.sendCtl p l) :=
  ⟨fun p hq => by have := h.1 p hq; cases p <;> simp_all [Part.same, State.rd8], fun ho i j hk => by simp [h.2 ho i j hk]⟩

theorem Frame.freeStage (h : Frame ps ks w s) (h0 : Part.stage ∈ ps) (h1 : Part.locks ∈ ps) : Frame ps ks w (s.freeStage) :=
  ⟨fun p hq => by have := h.1 p hq; cases p <;> simp_all [Part.same, State.rd8], fun ho i j hk => by simp [h.2 ho i j hk]⟩

theorem Frame.wr8 {a v : Nat} (h : Frame ps ks w s) (h0 : Part.mem ∈ ps) (h1 : Part.dma ∈ ps) : Frame ps ks w (s.wr8 a v) :=
  ⟨fun p hq => by have := h.1 p hq; cases p <;> simp_all [Part.same], fun ho i j hk => by simp [h.2 ho i j hk]⟩

theorem Frame.wrBytes {a : Nat} {l : List Nat} (h : Frame ps ks w s) (h0 : Part.mem ∈ ps) (h1 : Part.dma ∈ ps) :
    Frame ps ks w (s.wrBytes a l) := by
  induction l generalizing s a with
  | nil => exact h
  | cons b l ih => exact ih (h.wr8 h0 h1)

theorem Frame.setBoth {i j v : Nat} (h : Frame ps ks w s) (hk : key i j ∈ ks ∨ Part.obj ∈ ps) (h0 : Part.act ∈ ps) :
    Frame ps ks w (s.setBoth i j v) := (h.seto hk).seta h0

end Sys2Proof.Machine
end

