-- ==== Sys2Proof/Laws/PerInstr.lean ====
section
/-!
SUPPORT. Of every command: it runs as one event at one instant, so it always answers a next state.
-/

namespace Sys2Proof.Laws.Runs

open Sys2Proof.Machine

/-- A command runs as one event at its instant. -/
def Statement (i : Instr) : Prop := ∃ (t : Tick) (f : State → State), ∀ s : State, exec i s = s.run t f

theorem slotBoundary : ∀ t scs slot, Statement (.slotBoundary t scs slot) := by
  intros; refine ⟨?_, ?_, fun s => ?_⟩; rotate_left 2; unfold exec execSlotBoundary; rfl
theorem symbolBoundary : ∀ t scs slot sym, Statement (.symbolBoundary t scs slot sym) := by
  intros; refine ⟨?_, ?_, fun s => ?_⟩; rotate_left 2; unfold exec execSymbolBoundary; rfl
theorem frameBoundary : ∀ t, Statement (.frameBoundary t) := by
  intros; refine ⟨?_, ?_, fun s => ?_⟩; rotate_left 2; unfold exec execFrameBoundary; rfl
theorem commitActivation : ∀ t, Statement (.commitActivation t) := by
  intros; refine ⟨?_, ?_, fun s => ?_⟩; rotate_left 2; unfold exec execCommitActivation; rfl
theorem cpAbsentTimeout : ∀ t, Statement (.cpAbsentTimeout t) := by
  intros; refine ⟨?_, ?_, fun s => ?_⟩; rotate_left 2; unfold exec execCpAbsentTimeout; rfl
theorem controlRestartDone : ∀ t, Statement (.controlRestartDone t) := by
  intros; refine ⟨?_, ?_, fun s => ?_⟩; rotate_left 2; unfold exec execControlRestartDone; rfl
theorem ledgerRequest : ∀ t reqs, Statement (.ledgerRequest t reqs) := by
  intros; refine ⟨?_, ?_, fun s => ?_⟩; rotate_left 2; unfold exec execLedgerRequest; rfl
theorem ledgerRetry : ∀ t, Statement (.ledgerRetry t) := by
  intros; refine ⟨?_, ?_, fun s => ?_⟩; rotate_left 2; unfold exec execLedgerRetry; rfl
theorem dlPacketArrival : ∀ t p, Statement (.dlPacketArrival t p) := by
  intros; refine ⟨?_, ?_, fun s => ?_⟩; rotate_left 2; unfold exec execDlPacketArrival; rfl
theorem sectionArrival : ∀ t p, Statement (.sectionArrival t p) := by
  intros; refine ⟨?_, ?_, fun s => ?_⟩; rotate_left 2; unfold exec execSectionArrival; rfl
theorem cWindowClose : ∀ t car slot sym, Statement (.cWindowClose t car slot sym) := by
  intros; refine ⟨?_, ?_, fun s => ?_⟩; rotate_left 2; unfold exec execCWindowClose; rfl
theorem beamformDone : ∀ t car slot sym lo hi, Statement (.beamformDone t car slot sym lo hi) := by
  intros; refine ⟨?_, ?_, fun s => ?_⟩; rotate_left 2; unfold exec execBeamformDone; rfl
theorem fastPathRecomputeStart : ∀ t, Statement (.fastPathRecomputeStart t) := by
  intros; refine ⟨?_, ?_, fun s => ?_⟩; rotate_left 2; unfold exec execFastPathRecomputeStart; rfl
theorem fastPathRecomputeDone : ∀ t, Statement (.fastPathRecomputeDone t) := by
  intros; refine ⟨?_, ?_, fun s => ?_⟩; rotate_left 2; unfold exec execFastPathRecomputeDone; rfl
theorem touchstone : ∀ t scs slot sym, Statement (.touchstone t scs slot sym) := by
  intros; refine ⟨?_, ?_, fun s => ?_⟩; rotate_left 2; unfold exec execTouchstone; rfl
theorem ulSymbolEnd : ∀ t e adc, Statement (.ulSymbolEnd t e adc) := by
  intros; refine ⟨?_, ?_, fun s => ?_⟩; rotate_left 2; unfold exec execUlSymbolEnd; rfl
theorem ulPacketDepart : ∀ t e p, Statement (.ulPacketDepart t e p) := by
  intros; refine ⟨?_, ?_, fun s => ?_⟩; rotate_left 2; unfold exec execUlPacketDepart; rfl
theorem ulChildPacketArrival : ∀ t port p, Statement (.ulChildPacketArrival t port p) := by
  intros; refine ⟨?_, ?_, fun s => ?_⟩; rotate_left 2; unfold exec execUlChildPacketArrival; rfl
theorem ulCutoff : ∀ t e p, Statement (.ulCutoff t e p) := by
  intros; refine ⟨?_, ?_, fun s => ?_⟩; rotate_left 2; unfold exec execUlCutoff; rfl
theorem stageOpen : ∀ t r dir v, Statement (.stageOpen t r dir v) := by
  intros; refine ⟨?_, ?_, fun s => ?_⟩; rotate_left 2; unfold exec execStageOpen; rfl
theorem stageFillDone : ∀ t dir, Statement (.stageFillDone t dir) := by
  intros; refine ⟨?_, ?_, fun s => ?_⟩; rotate_left 2; unfold exec execStageFillDone; rfl
theorem stageSwapRelease : ∀ t dir, Statement (.stageSwapRelease t dir) := by
  intros; refine ⟨?_, ?_, fun s => ?_⟩; rotate_left 2; unfold exec execStageSwapRelease; rfl
theorem bankMarkValid : ∀ t r dir v, Statement (.bankMarkValid t r dir v) := by
  intros; refine ⟨?_, ?_, fun s => ?_⟩; rotate_left 2; unfold exec execBankMarkValid; rfl
theorem schedClone : ∀ t r dir v, Statement (.schedClone t r dir v) := by
  intros; refine ⟨?_, ?_, fun s => ?_⟩; rotate_left 2; unfold exec execSchedClone; rfl
theorem schedCloneDone : ∀ t dir, Statement (.schedCloneDone t dir) := by
  intros; refine ⟨?_, ?_, fun s => ?_⟩; rotate_left 2; unfold exec execSchedCloneDone; rfl
theorem suppressionEnd : ∀ t, Statement (.suppressionEnd t) := by
  intros; refine ⟨?_, ?_, fun s => ?_⟩; rotate_left 2; unfold exec execSuppressionEnd; rfl
theorem txAttenWrite : ∀ t r path v, Statement (.txAttenWrite t r path v) := by
  intros; refine ⟨?_, ?_, fun s => ?_⟩; rotate_left 2; unfold exec execTxAttenWrite; rfl
theorem rxAttenWrite : ∀ t r path v, Statement (.rxAttenWrite t r path v) := by
  intros; refine ⟨?_, ?_, fun s => ?_⟩; rotate_left 2; unfold exec execRxAttenWrite; rfl
theorem txEntry : ∀ t lo slot sym, Statement (.txEntry t lo slot sym) := by
  intros; refine ⟨?_, ?_, fun s => ?_⟩; rotate_left 2; unfold exec execTxEntry; rfl
theorem txExit : ∀ t lo slot sym, Statement (.txExit t lo slot sym) := by
  intros; refine ⟨?_, ?_, fun s => ?_⟩; rotate_left 2; unfold exec execTxExit; rfl
theorem rxEntry : ∀ t lo slot sym, Statement (.rxEntry t lo slot sym) := by
  intros; refine ⟨?_, ?_, fun s => ?_⟩; rotate_left 2; unfold exec execRxEntry; rfl
theorem rxExit : ∀ t lo slot sym, Statement (.rxExit t lo slot sym) := by
  intros; refine ⟨?_, ?_, fun s => ?_⟩; rotate_left 2; unfold exec execRxExit; rfl
theorem gbFaultClear : ∀ t r path v, Statement (.gbFaultClear t r path v) := by
  intros; refine ⟨?_, ?_, fun s => ?_⟩; rotate_left 2; unfold exec execGbFaultClear; rfl
theorem cxRequest : ∀ t n, Statement (.cxRequest t n) := by
  intros; refine ⟨?_, ?_, fun s => ?_⟩; rotate_left 2; unfold exec execCxRequest; rfl
theorem cxTxRequest : ∀ t, Statement (.cxTxRequest t) := by
  intros; refine ⟨?_, ?_, fun s => ?_⟩; rotate_left 2; unfold exec execCxTxRequest; rfl
theorem cxGrantSeen : ∀ t, Statement (.cxGrantSeen t) := by
  intros; refine ⟨?_, ?_, fun s => ?_⟩; rotate_left 2; unfold exec execCxGrantSeen; rfl
theorem cxGuardExpiry : ∀ t, Statement (.cxGuardExpiry t) := by
  intros; refine ⟨?_, ?_, fun s => ?_⟩; rotate_left 2; unfold exec execCxGuardExpiry; rfl
theorem cxInjectionEnd : ∀ t, Statement (.cxInjectionEnd t) := by
  intros; refine ⟨?_, ?_, fun s => ?_⟩; rotate_left 2; unfold exec execCxInjectionEnd; rfl
theorem cxgntDeassert : ∀ t, Statement (.cxgntDeassert t) := by
  intros; refine ⟨?_, ?_, fun s => ?_⟩; rotate_left 2; unfold exec execCxgntDeassert; rfl
theorem cxWaitTimeout : ∀ t, Statement (.cxWaitTimeout t) := by
  intros; refine ⟨?_, ?_, fun s => ?_⟩; rotate_left 2; unfold exec execCxWaitTimeout; rfl
theorem cxLeaseExpiry : ∀ t, Statement (.cxLeaseExpiry t) := by
  intros; refine ⟨?_, ?_, fun s => ?_⟩; rotate_left 2; unfold exec execCxLeaseExpiry; rfl
theorem refAccept : ∀ t khz, Statement (.refAccept t khz) := by
  intros; refine ⟨?_, ?_, fun s => ?_⟩; rotate_left 2; unfold exec execRefAccept; rfl
theorem refLost : ∀ t, Statement (.refLost t) := by
  intros; refine ⟨?_, ?_, fun s => ?_⟩; rotate_left 2; unfold exec execRefLost; rfl
theorem refRestore : ∀ t, Statement (.refRestore t) := by
  intros; refine ⟨?_, ?_, fun s => ?_⟩; rotate_left 2; unfold exec execRefRestore; rfl
theorem clkPllUnlock : ∀ t pll, Statement (.clkPllUnlock t pll) := by
  intros; refine ⟨?_, ?_, fun s => ?_⟩; rotate_left 2; unfold exec execClkPllUnlock; rfl
theorem clkPllRelock : ∀ t pll, Statement (.clkPllRelock t pll) := by
  intros; refine ⟨?_, ?_, fun s => ?_⟩; rotate_left 2; unfold exec execClkPllRelock; rfl
theorem datapathPllUnlock : ∀ t n, Statement (.datapathPllUnlock t n) := by
  intros; refine ⟨?_, ?_, fun s => ?_⟩; rotate_left 2; unfold exec execDatapathPllUnlock; rfl
theorem datapathPllRelock : ∀ t n, Statement (.datapathPllRelock t n) := by
  intros; refine ⟨?_, ?_, fun s => ?_⟩; rotate_left 2; unfold exec execDatapathPllRelock; rfl
theorem loCountWindow : ∀ t lo count, Statement (.loCountWindow t lo count) := by
  intros; refine ⟨?_, ?_, fun s => ?_⟩; rotate_left 2; unfold exec execLoCountWindow; rfl
theorem loCycleSlip : ∀ t lo, Statement (.loCycleSlip t lo) := by
  intros; refine ⟨?_, ?_, fun s => ?_⟩; rotate_left 2; unfold exec execLoCycleSlip; rfl
theorem loLoadNow : ∀ t r lo v, Statement (.loLoadNow t r lo v) := by
  intros; refine ⟨?_, ?_, fun s => ?_⟩; rotate_left 2; unfold exec execLoLoadNow; rfl
theorem loPhaseStep : ∀ t r lo v, Statement (.loPhaseStep t r lo v) := by
  intros; refine ⟨?_, ?_, fun s => ?_⟩; rotate_left 2; unfold exec execLoPhaseStep; rfl
theorem loHandoverStart : ∀ t x sp, Statement (.loHandoverStart t x sp) := by
  intros; refine ⟨?_, ?_, fun s => ?_⟩; rotate_left 2; unfold exec execLoHandoverStart; rfl
theorem loHandoverArmed : ∀ m, Statement (.loHandoverArmed m) := by
  intros; refine ⟨?_, ?_, fun s => ?_⟩; rotate_left 2; unfold exec execLoHandoverArmed; rfl
theorem dpdAttemptStart : ∀ t, Statement (.dpdAttemptStart t) := by
  intros; refine ⟨?_, ?_, fun s => ?_⟩; rotate_left 2; unfold exec execDpdAttemptStart; rfl
theorem dpdCaptureDone : ∀ t x ref orx, Statement (.dpdCaptureDone t x ref orx) := by
  intros; refine ⟨?_, ?_, fun s => ?_⟩; rotate_left 2; unfold exec execDpdCaptureDone; rfl
theorem dpdSolveDone : ∀ t path nmse gain chat, Statement (.dpdSolveDone t path nmse gain chat) := by
  intros; refine ⟨?_, ?_, fun s => ?_⟩; rotate_left 2; unfold exec execDpdSolveDone; rfl
theorem dpdPeriodLate : ∀ t path, Statement (.dpdPeriodLate t path) := by
  intros; refine ⟨?_, ?_, fun s => ?_⟩; rotate_left 2; unfold exec execDpdPeriodLate; rfl
theorem dpdStaleAgeExpiry : ∀ t path, Statement (.dpdStaleAgeExpiry t path) := by
  intros; refine ⟨?_, ?_, fun s => ?_⟩; rotate_left 2; unfold exec execDpdStaleAgeExpiry; rfl
theorem orxRequest : ∀ t x who want, Statement (.orxRequest t x who want) := by
  intros; refine ⟨?_, ?_, fun s => ?_⟩; rotate_left 2; unfold exec execOrxRequest; rfl
theorem orxGrant : ∀ t x, Statement (.orxGrant t x) := by
  intros; refine ⟨?_, ?_, fun s => ?_⟩; rotate_left 2; unfold exec execOrxGrant; rfl
theorem orxSettleDone : ∀ t x, Statement (.orxSettleDone t x) := by
  intros; refine ⟨?_, ?_, fun s => ?_⟩; rotate_left 2; unfold exec execOrxSettleDone; rfl
theorem orxDrop : ∀ t x, Statement (.orxDrop t x) := by
  intros; refine ⟨?_, ?_, fun s => ?_⟩; rotate_left 2; unfold exec execOrxDrop; rfl
theorem orxWithdraw : ∀ t x, Statement (.orxWithdraw t x) := by
  intros; refine ⟨?_, ?_, fun s => ?_⟩; rotate_left 2; unfold exec execOrxWithdraw; rfl
theorem orxBurstLimitExpiry : ∀ t x, Statement (.orxBurstLimitExpiry t x) := by
  intros; refine ⟨?_, ?_, fun s => ?_⟩; rotate_left 2; unfold exec execOrxBurstLimitExpiry; rfl
theorem orxLeaseExpiry : ∀ t x, Statement (.orxLeaseExpiry t x) := by
  intros; refine ⟨?_, ?_, fun s => ?_⟩; rotate_left 2; unfold exec execOrxLeaseExpiry; rfl
theorem orxPrivWdExpiry : ∀ t x, Statement (.orxPrivWdExpiry t x) := by
  intros; refine ⟨?_, ?_, fun s => ?_⟩; rotate_left 2; unfold exec execOrxPrivWdExpiry; rfl
theorem dcEccError : ∀ t core double, Statement (.dcEccError t core double) := by
  intros; refine ⟨?_, ?_, fun s => ?_⟩; rotate_left 2; unfold exec execDcEccError; rfl
theorem chfPendingTimeout : ∀ t, Statement (.chfPendingTimeout t) := by
  intros; refine ⟨?_, ?_, fun s => ?_⟩; rotate_left 2; unfold exec execChfPendingTimeout; rfl
theorem ulChfPendingTimeout : ∀ t, Statement (.ulChfPendingTimeout t) := by
  intros; refine ⟨?_, ?_, fun s => ?_⟩; rotate_left 2; unfold exec execUlChfPendingTimeout; rfl
theorem rextMeasure : ∀ t dev, Statement (.rextMeasure t dev) := by
  intros; refine ⟨?_, ?_, fun s => ?_⟩; rotate_left 2; unfold exec execRextMeasure; rfl
theorem startCalStepDone : ∀ t meas, Statement (.startCalStepDone t meas) := by
  intros; refine ⟨?_, ?_, fun s => ?_⟩; rotate_left 2; unfold exec execStartCalStepDone; rfl
theorem assayDone : ∀ t path chain, Statement (.assayDone t path chain) := by
  intros; refine ⟨?_, ?_, fun s => ?_⟩; rotate_left 2; unfold exec execAssayDone; rfl
theorem assayResultReady : ∀ t path assay meas, Statement (.assayResultReady t path assay meas) := by
  intros; refine ⟨?_, ?_, fun s => ?_⟩; rotate_left 2; unfold exec execAssayResultReady; rfl
theorem calStoreWrite : ∀ t, Statement (.calStoreWrite t) := by
  intros; refine ⟨?_, ?_, fun s => ?_⟩; rotate_left 2; unfold exec execCalStoreWrite; rfl
theorem calBenchNow : ∀ t r v, Statement (.calBenchNow t r v) := by
  intros; refine ⟨?_, ?_, fun s => ?_⟩; rotate_left 2; unfold exec execCalBenchNow; rfl
theorem calOverdueExpiry : ∀ t path, Statement (.calOverdueExpiry t path) := by
  intros; refine ⟨?_, ?_, fun s => ?_⟩; rotate_left 2; unfold exec execCalOverdueExpiry; rfl
theorem ageMeasure : ∀ t counts, Statement (.ageMeasure t counts) := by
  intros; refine ⟨?_, ?_, fun s => ?_⟩; rotate_left 2; unfold exec execAgeMeasure; rfl
theorem ageHourly : ∀ t, Statement (.ageHourly t) := by
  intros; refine ⟨?_, ?_, fun s => ?_⟩; rotate_left 2; unfold exec execAgeHourly; rfl
theorem avsStep : ∀ t, Statement (.avsStep t) := by
  intros; refine ⟨?_, ?_, fun s => ?_⟩; rotate_left 2; unfold exec execAvsStep; rfl
theorem paGainDaily : ∀ t, Statement (.paGainDaily t) := by
  intros; refine ⟨?_, ?_, fun s => ?_⟩; rotate_left 2; unfold exec execPaGainDaily; rfl
theorem portDetect : ∀ t p, Statement (.portDetect t p) := by
  intros; refine ⟨?_, ?_, fun s => ?_⟩; rotate_left 2; unfold exec execPortDetect; rfl
theorem laneTrainDone : ∀ t p x res, Statement (.laneTrainDone t p x res) := by
  intros; refine ⟨?_, ?_, fun s => ?_⟩; rotate_left 2; unfold exec execLaneTrainDone; rfl
theorem portAlignDone : ∀ t p, Statement (.portAlignDone t p) := by
  intros; refine ⟨?_, ?_, fun s => ?_⟩; rotate_left 2; unfold exec execPortAlignDone; rfl
theorem lmgTs1 : ∀ t p x skew m, Statement (.lmgTs1 t p x skew m) := by
  intros; refine ⟨?_, ?_, fun s => ?_⟩; rotate_left 2; unfold exec execLmgTs1; rfl
theorem lmgTs2 : ∀ t p x m, Statement (.lmgTs2 t p x m) := by
  intros; refine ⟨?_, ?_, fun s => ?_⟩; rotate_left 2; unfold exec execLmgTs2; rfl
theorem portRateDone : ∀ t p, Statement (.portRateDone t p) := by
  intros; refine ⟨?_, ?_, fun s => ?_⟩; rotate_left 2; unfold exec execPortRateDone; rfl
theorem portTrainTimeout : ∀ t p, Statement (.portTrainTimeout t p) := by
  intros; refine ⟨?_, ?_, fun s => ?_⟩; rotate_left 2; unfold exec execPortTrainTimeout; rfl
theorem lmgDropReq : ∀ t p m, Statement (.lmgDropReq t p m) := by
  intros; refine ⟨?_, ?_, fun s => ?_⟩; rotate_left 2; unfold exec execLmgDropReq; rfl
theorem lmgDropAck : ∀ t p m, Statement (.lmgDropAck t p m) := by
  intros; refine ⟨?_, ?_, fun s => ?_⟩; rotate_left 2; unfold exec execLmgDropAck; rfl
theorem lmgRestoreReq : ∀ t p m, Statement (.lmgRestoreReq t p m) := by
  intros; refine ⟨?_, ?_, fun s => ?_⟩; rotate_left 2; unfold exec execLmgRestoreReq; rfl
theorem lmgRestoreAck : ∀ t p m, Statement (.lmgRestoreAck t p m) := by
  intros; refine ⟨?_, ?_, fun s => ?_⟩; rotate_left 2; unfold exec execLmgRestoreAck; rfl
theorem lmgReset : ∀ t p m, Statement (.lmgReset t p m) := by
  intros; refine ⟨?_, ?_, fun s => ?_⟩; rotate_left 2; unfold exec execLmgReset; rfl
theorem lmgReqRepeat : ∀ t p, Statement (.lmgReqRepeat t p) := by
  intros; refine ⟨?_, ?_, fun s => ?_⟩; rotate_left 2; unfold exec execLmgReqRepeat; rfl
theorem laneLost : ∀ t p x reason, Statement (.laneLost t p x reason) := by
  intros; refine ⟨?_, ?_, fun s => ?_⟩; rotate_left 2; unfold exec execLaneLost; rfl
theorem laneRestoreReady : ∀ t p x, Statement (.laneRestoreReady t p x) := by
  intros; refine ⟨?_, ?_, fun s => ?_⟩; rotate_left 2; unfold exec execLaneRestoreReady; rfl
theorem epmSend : ∀ t, Statement (.epmSend t) := by
  intros; refine ⟨?_, ?_, fun s => ?_⟩; rotate_left 2; unfold exec execEpmSend; rfl
theorem epmReceive : ∀ t p n, Statement (.epmReceive t p n) := by
  intros; refine ⟨?_, ?_, fun s => ?_⟩; rotate_left 2; unfold exec execEpmReceive; rfl
theorem packetReceive : ∀ t p l eop stamp, Statement (.packetReceive t p l eop stamp) := by
  intros; refine ⟨?_, ?_, fun s => ?_⟩; rotate_left 2; unfold exec execPacketReceive; rfl
theorem egressPacketStart : ∀ t p, Statement (.egressPacketStart t p) := by
  intros; refine ⟨?_, ?_, fun s => ?_⟩; rotate_left 2; unfold exec execEgressPacketStart; rfl
theorem fcXoffReceive : ∀ t p c st, Statement (.fcXoffReceive t p c st) := by
  intros; refine ⟨?_, ?_, fun s => ?_⟩; rotate_left 2; unfold exec execFcXoffReceive; rfl
theorem fcXonReceive : ∀ t p c st, Statement (.fcXonReceive t p c st) := by
  intros; refine ⟨?_, ?_, fun s => ?_⟩; rotate_left 2; unfold exec execFcXonReceive; rfl
theorem fcXoffRefresh : ∀ t p k, Statement (.fcXoffRefresh t p k) := by
  intros; refine ⟨?_, ?_, fun s => ?_⟩; rotate_left 2; unfold exec execFcXoffRefresh; rfl
theorem fcHoldTimeout : ∀ t p k, Statement (.fcHoldTimeout t p k) := by
  intros; refine ⟨?_, ?_, fun s => ?_⟩; rotate_left 2; unfold exec execFcHoldTimeout; rfl
theorem fcStallExpiry : ∀ t p k, Statement (.fcStallExpiry t p k) := by
  intros; refine ⟨?_, ?_, fun s => ?_⟩; rotate_left 2; unfold exec execFcStallExpiry; rfl
theorem fluReceive : ∀ t p c stream inside, Statement (.fluReceive t p c stream inside) := by
  intros; refine ⟨?_, ?_, fun s => ?_⟩; rotate_left 2; unfold exec execFluReceive; rfl
theorem flushApply : ∀ t p, Statement (.flushApply t p) := by
  intros; refine ⟨?_, ?_, fun s => ?_⟩; rotate_left 2; unfold exec execFlushApply; rfl
theorem fwdWindowDiscard : ∀ t p, Statement (.fwdWindowDiscard t p) := by
  intros; refine ⟨?_, ?_, fun s => ?_⟩; rotate_left 2; unfold exec execFwdWindowDiscard; rfl
theorem mRequestDispatch : ∀ t, Statement (.mRequestDispatch t) := by
  intros; refine ⟨?_, ?_, fun s => ?_⟩; rotate_left 2; unfold exec execMRequestDispatch; rfl
theorem objRead : ∀ t r ix sub, Statement (.objRead t r ix sub) := by
  intros; refine ⟨?_, ?_, fun s => ?_⟩; rotate_left 2; unfold exec execObjRead; rfl
theorem objWrite : ∀ t r ix sub data, Statement (.objWrite t r ix sub data) := by
  intros; refine ⟨?_, ?_, fun s => ?_⟩; rotate_left 2; unfold exec execObjWrite; rfl
theorem memRead : ∀ t r addr count, Statement (.memRead t r addr count) := by
  intros; refine ⟨?_, ?_, fun s => ?_⟩; rotate_left 2; unfold exec execMemRead; rfl
theorem memWrite : ∀ t r addr data, Statement (.memWrite t r addr data) := by
  intros; refine ⟨?_, ?_, fun s => ?_⟩; rotate_left 2; unfold exec execMemWrite; rfl
theorem mResponseReceive : ∀ t p k, Statement (.mResponseReceive t p k) := by
  intros; refine ⟨?_, ?_, fun s => ?_⟩; rotate_left 2; unfold exec execMResponseReceive; rfl
theorem mTimeout : ∀ t tag, Statement (.mTimeout t tag) := by
  intros; refine ⟨?_, ?_, fun s => ?_⟩; rotate_left 2; unfold exec execMTimeout; rfl
theorem proxyForward : ∀ t p, Statement (.proxyForward t p) := by
  intros; refine ⟨?_, ?_, fun s => ?_⟩; rotate_left 2; unfold exec execProxyForward; rfl
theorem proxyTimeout : ∀ t p src tag, Statement (.proxyTimeout t p src tag) := by
  intros; refine ⟨?_, ?_, fun s => ?_⟩; rotate_left 2; unfold exec execProxyTimeout; rfl
theorem laneTrendUpdate : ∀ t errs, Statement (.laneTrendUpdate t errs) := by
  intros; refine ⟨?_, ?_, fun s => ?_⟩; rotate_left 2; unfold exec execLaneTrendUpdate; rfl
theorem laneLos : ∀ t ix on, Statement (.laneLos t ix on) := by
  intros; refine ⟨?_, ?_, fun s => ?_⟩; rotate_left 2; unfold exec execLaneLos; rfl
theorem laneLossOfLock : ∀ t ix, Statement (.laneLossOfLock t ix) := by
  intros; refine ⟨?_, ?_, fun s => ?_⟩; rotate_left 2; unfold exec execLaneLossOfLock; rfl
theorem portDeepEnter : ∀ t p, Statement (.portDeepEnter t p) := by
  intros; refine ⟨?_, ?_, fun s => ?_⟩; rotate_left 2; unfold exec execPortDeepEnter; rfl
theorem laneWakeDetect : ∀ t p kind, Statement (.laneWakeDetect t p kind) := by
  intros; refine ⟨?_, ?_, fun s => ?_⟩; rotate_left 2; unfold exec execLaneWakeDetect; rfl
theorem laneDeepExitDone : ∀ t p, Statement (.laneDeepExitDone t p) := by
  intros; refine ⟨?_, ?_, fun s => ?_⟩; rotate_left 2; unfold exec execLaneDeepExitDone; rfl
theorem laneTest : ∀ t r ix v, Statement (.laneTest t r ix v) := by
  intros; refine ⟨?_, ?_, fun s => ?_⟩; rotate_left 2; unfold exec execLaneTest; rfl
theorem laneInject : ∀ t r ix v, Statement (.laneInject t r ix v) := by
  intros; refine ⟨?_, ?_, fun s => ?_⟩; rotate_left 2; unfold exec execLaneInject; rfl
theorem lanePresets : ∀ t r v, Statement (.lanePresets t r v) := by
  intros; refine ⟨?_, ?_, fun s => ?_⟩; rotate_left 2; unfold exec execLanePresets; rfl
theorem syncSend : ∀ t p, Statement (.syncSend t p) := by
  intros; refine ⟨?_, ?_, fun s => ?_⟩; rotate_left 2; unfold exec execSyncSend; rfl
theorem syncReceive : ∀ t l stamp, Statement (.syncReceive t l stamp) := by
  intros; refine ⟨?_, ?_, fun s => ?_⟩; rotate_left 2; unfold exec execSyncReceive; rfl
theorem followUpReceive : ∀ t l, Statement (.followUpReceive t l) := by
  intros; refine ⟨?_, ?_, fun s => ?_⟩; rotate_left 2; unfold exec execFollowUpReceive; rfl
theorem delayReqSend : ∀ t, Statement (.delayReqSend t) := by
  intros; refine ⟨?_, ?_, fun s => ?_⟩; rotate_left 2; unfold exec execDelayReqSend; rfl
theorem delayReqReceive : ∀ t p l stamp, Statement (.delayReqReceive t p l stamp) := by
  intros; refine ⟨?_, ?_, fun s => ?_⟩; rotate_left 2; unfold exec execDelayReqReceive; rfl
theorem delayRespReceive : ∀ t l, Statement (.delayRespReceive t l) := by
  intros; refine ⟨?_, ?_, fun s => ?_⟩; rotate_left 2; unfold exec execDelayRespReceive; rfl
theorem announceSend : ∀ t, Statement (.announceSend t) := by
  intros; refine ⟨?_, ?_, fun s => ?_⟩; rotate_left 2; unfold exec execAnnounceSend; rfl
theorem announceReceive : ∀ t l, Statement (.announceReceive t l) := by
  intros; refine ⟨?_, ?_, fun s => ?_⟩; rotate_left 2; unfold exec execAnnounceReceive; rfl
theorem exchangeTimeout : ∀ t, Statement (.exchangeTimeout t) := by
  intros; refine ⟨?_, ?_, fun s => ?_⟩; rotate_left 2; unfold exec execExchangeTimeout; rfl
theorem ppsEdge : ∀ t rising ten, Statement (.ppsEdge t rising ten) := by
  intros; refine ⟨?_, ?_, fun s => ?_⟩; rotate_left 2; unfold exec execPpsEdge; rfl
theorem todFrame : ∀ t l, Statement (.todFrame t l) := by
  intros; refine ⟨?_, ?_, fun s => ?_⟩; rotate_left 2; unfold exec execTodFrame; rfl
theorem rootSourceLoss : ∀ t, Statement (.rootSourceLoss t) := by
  intros; refine ⟨?_, ?_, fun s => ?_⟩; rotate_left 2; unfold exec execRootSourceLoss; rfl
theorem holdoverExpiry : ∀ t, Statement (.holdoverExpiry t) := by
  intros; refine ⟨?_, ?_, fun s => ?_⟩; rotate_left 2; unfold exec execHoldoverExpiry; rfl
theorem timeSet : ∀ t r v, Statement (.timeSet t r v) := by
  intros; refine ⟨?_, ?_, fun s => ?_⟩; rotate_left 2; unfold exec execTimeSet; rfl
theorem timeSetReacquire : ∀ t, Statement (.timeSetReacquire t) := by
  intros; refine ⟨?_, ?_, fun s => ?_⟩; rotate_left 2; unfold exec execTimeSetReacquire; rfl
theorem tpoEdge : ∀ t n, Statement (.tpoEdge t n) := by
  intros; refine ⟨?_, ?_, fun s => ?_⟩; rotate_left 2; unfold exec execTpoEdge; rfl
theorem tciEdge : ∀ t n falling, Statement (.tciEdge t n falling) := by
  intros; refine ⟨?_, ?_, fun s => ?_⟩; rotate_left 2; unfold exec execTciEdge; rfl
theorem tciStamp : ∀ t r n, Statement (.tciStamp t r n) := by
  intros; refine ⟨?_, ?_, fun s => ?_⟩; rotate_left 2; unfold exec execTciStamp; rfl
theorem timeAlarm : ∀ t r n v, Statement (.timeAlarm t r n v) := by
  intros; refine ⟨?_, ?_, fun s => ?_⟩; rotate_left 2; unfold exec execTimeAlarm; rfl
theorem talarm : ∀ t n, Statement (.talarm t n) := by
  intros; refine ⟨?_, ?_, fun s => ?_⟩; rotate_left 2; unfold exec execTalarm; rfl
theorem addrAssign : ∀ t p, Statement (.addrAssign t p) := by
  intros; refine ⟨?_, ?_, fun s => ?_⟩; rotate_left 2; unfold exec execAddrAssign; rfl
theorem nodeAddrWrite : ∀ t r one v, Statement (.nodeAddrWrite t r one v) := by
  intros; refine ⟨?_, ?_, fun s => ?_⟩; rotate_left 2; unfold exec execNodeAddrWrite; rfl
theorem summarySend : ∀ t, Statement (.summarySend t) := by
  intros; refine ⟨?_, ?_, fun s => ?_⟩; rotate_left 2; unfold exec execSummarySend; rfl
theorem summaryReceive : ∀ t p l, Statement (.summaryReceive t p l) := by
  intros; refine ⟨?_, ?_, fun s => ?_⟩; rotate_left 2; unfold exec execSummaryReceive; rfl
theorem alarmRecordReceive : ∀ t p code l, Statement (.alarmRecordReceive t p code l) := by
  intros; refine ⟨?_, ?_, fun s => ?_⟩; rotate_left 2; unfold exec execAlarmRecordReceive; rfl
theorem stagedWrite : ∀ t r ix sub v, Statement (.stagedWrite t r ix sub v) := by
  intros; refine ⟨?_, ?_, fun s => ?_⟩; rotate_left 2; unfold exec execStagedWrite; rfl
theorem stageDiscard : ∀ t r v, Statement (.stageDiscard t r v) := by
  intros; refine ⟨?_, ?_, fun s => ?_⟩; rotate_left 2; unfold exec execStageDiscard; rfl
theorem commit : ∀ t r w, Statement (.commit t r w) := by
  intros; refine ⟨?_, ?_, fun s => ?_⟩; rotate_left 2; unfold exec execCommit; rfl
theorem stageLeaseExpiry : ∀ t, Statement (.stageLeaseExpiry t) := by
  intros; refine ⟨?_, ?_, fun s => ?_⟩; rotate_left 2; unfold exec execStageLeaseExpiry; rfl
theorem immediateSetWrite : ∀ t r ix sub v, Statement (.immediateSetWrite t r ix sub v) := by
  intros; refine ⟨?_, ?_, fun s => ?_⟩; rotate_left 2; unfold exec execImmediateSetWrite; rfl
theorem lockLeaseExpiry : ∀ t n, Statement (.lockLeaseExpiry t n) := by
  intros; refine ⟨?_, ?_, fun s => ?_⟩; rotate_left 2; unfold exec execLockLeaseExpiry; rfl
theorem alarmHoldExpiry : ∀ t code detail, Statement (.alarmHoldExpiry t code detail) := by
  intros; refine ⟨?_, ?_, fun s => ?_⟩; rotate_left 2; unfold exec execAlarmHoldExpiry; rfl
theorem logRead : ∀ t r, Statement (.logRead t r) := by
  intros; refine ⟨?_, ?_, fun s => ?_⟩; rotate_left 2; unfold exec execLogRead; rfl
theorem logClear : ∀ t r v, Statement (.logClear t r v) := by
  intros; refine ⟨?_, ?_, fun s => ?_⟩; rotate_left 2; unfold exec execLogClear; rfl
theorem counterClear : ∀ t r ix v, Statement (.counterClear t r ix v) := by
  intros; refine ⟨?_, ?_, fun s => ?_⟩; rotate_left 2; unfold exec execCounterClear; rfl
theorem lhpTransactionStart : ∀ t sclk, Statement (.lhpTransactionStart t sclk) := by
  intros; refine ⟨?_, ?_, fun s => ?_⟩; rotate_left 2; unfold exec execLhpTransactionStart; rfl
theorem lhpFrameReceive : ∀ t l, Statement (.lhpFrameReceive t l) := by
  intros; refine ⟨?_, ?_, fun s => ?_⟩; rotate_left 2; unfold exec execLhpFrameReceive; rfl
theorem lhpFrameAbandon : ∀ t, Statement (.lhpFrameAbandon t) := by
  intros; refine ⟨?_, ?_, fun s => ?_⟩; rotate_left 2; unfold exec execLhpFrameAbandon; rfl
theorem lhpResponseSent : ∀ t, Statement (.lhpResponseSent t) := by
  intros; refine ⟨?_, ?_, fun s => ?_⟩; rotate_left 2; unfold exec execLhpResponseSent; rfl
theorem swpRefresh : ∀ t, Statement (.swpRefresh t) := by
  intros; refine ⟨?_, ?_, fun s => ?_⟩; rotate_left 2; unfold exec execSwpRefresh; rfl
theorem swpHwRefresh : ∀ t, Statement (.swpHwRefresh t) := by
  intros; refine ⟨?_, ?_, fun s => ?_⟩; rotate_left 2; unfold exec execSwpHwRefresh; rfl
theorem chClaim : ∀ t r n, Statement (.chClaim t r n) := by
  intros; refine ⟨?_, ?_, fun s => ?_⟩; rotate_left 2; unfold exec execChClaim; rfl
theorem chRelease : ∀ t r n, Statement (.chRelease t r n) := by
  intros; refine ⟨?_, ?_, fun s => ?_⟩; rotate_left 2; unfold exec execChRelease; rfl
theorem chStart : ∀ t r n v, Statement (.chStart t r n v) := by
  intros; refine ⟨?_, ?_, fun s => ?_⟩; rotate_left 2; unfold exec execChStart; rfl
theorem chDoorbell : ∀ t r n v, Statement (.chDoorbell t r n v) := by
  intros; refine ⟨?_, ?_, fun s => ?_⟩; rotate_left 2; unfold exec execChDoorbell; rfl
theorem chStop : ∀ t r n v, Statement (.chStop t r n v) := by
  intros; refine ⟨?_, ?_, fun s => ?_⟩; rotate_left 2; unfold exec execChStop; rfl
theorem chTrig : ∀ t r n v, Statement (.chTrig t r n v) := by
  intros; refine ⟨?_, ?_, fun s => ?_⟩; rotate_left 2; unfold exec execChTrig; rfl
theorem dmaTrigger : ∀ t n, Statement (.dmaTrigger t n) := by
  intros; refine ⟨?_, ?_, fun s => ?_⟩; rotate_left 2; unfold exec execDmaTrigger; rfl
theorem dmaCopy : ∀ t n, Statement (.dmaCopy t n) := by
  intros; refine ⟨?_, ?_, fun s => ?_⟩; rotate_left 2; unfold exec execDmaCopy; rfl
theorem dmaFill : ∀ t n, Statement (.dmaFill t n) := by
  intros; refine ⟨?_, ?_, fun s => ?_⟩; rotate_left 2; unfold exec execDmaFill; rfl
theorem dmaCompare : ∀ t n, Statement (.dmaCompare t n) := by
  intros; refine ⟨?_, ?_, fun s => ?_⟩; rotate_left 2; unfold exec execDmaCompare; rfl
theorem dmaBurst : ∀ t, Statement (.dmaBurst t) := by
  intros; refine ⟨?_, ?_, fun s => ?_⟩; rotate_left 2; unfold exec execDmaBurst; rfl
theorem capArm : ∀ t r b v, Statement (.capArm t r b v) := by
  intros; refine ⟨?_, ?_, fun s => ?_⟩; rotate_left 2; unfold exec execCapArm; rfl
theorem captureComplete : ∀ t b trunc, Statement (.captureComplete t b trunc) := by
  intros; refine ⟨?_, ?_, fun s => ?_⟩; rotate_left 2; unfold exec execCaptureComplete; rfl
theorem scrubRead : ∀ t addr err, Statement (.scrubRead t addr err) := by
  intros; refine ⟨?_, ?_, fun s => ?_⟩; rotate_left 2; unfold exec execScrubRead; rfl
theorem powerReq : ∀ t r v, Statement (.powerReq t r v) := by
  intros; refine ⟨?_, ?_, fun s => ?_⟩; rotate_left 2; unfold exec execPowerReq; rfl
theorem domainReqDown : ∀ t r d, Statement (.domainReqDown t r d) := by
  intros; refine ⟨?_, ?_, fun s => ?_⟩; rotate_left 2; unfold exec execDomainReqDown; rfl
theorem domainReqUp : ∀ t r d, Statement (.domainReqUp t r d) := by
  intros; refine ⟨?_, ?_, fun s => ?_⟩; rotate_left 2; unfold exec execDomainReqUp; rfl
theorem domainAnswer : ∀ t d, Statement (.domainAnswer t d) := by
  intros; refine ⟨?_, ?_, fun s => ?_⟩; rotate_left 2; unfold exec execDomainAnswer; rfl
theorem domainAnswerTimeout : ∀ t d, Statement (.domainAnswerTimeout t d) := by
  intros; refine ⟨?_, ?_, fun s => ?_⟩; rotate_left 2; unfold exec execDomainAnswerTimeout; rfl
theorem domainPowerDown : ∀ t d, Statement (.domainPowerDown t d) := by
  intros; refine ⟨?_, ?_, fun s => ?_⟩; rotate_left 2; unfold exec execDomainPowerDown; rfl
theorem wakePin : ∀ t, Statement (.wakePin t) := by
  intros; refine ⟨?_, ?_, fun s => ?_⟩; rotate_left 2; unfold exec execWakePin; rfl
theorem wakeStepDone : ∀ t bad, Statement (.wakeStepDone t bad) := by
  intros; refine ⟨?_, ?_, fun s => ?_⟩; rotate_left 2; unfold exec execWakeStepDone; rfl
theorem firstAccessWake : ∀ t d, Statement (.firstAccessWake t d) := by
  intros; refine ⟨?_, ?_, fun s => ?_⟩; rotate_left 2; unfold exec execFirstAccessWake; rfl
theorem wakeStallTimeout : ∀ t d, Statement (.wakeStallTimeout t d) := by
  intros; refine ⟨?_, ?_, fun s => ?_⟩; rotate_left 2; unfold exec execWakeStallTimeout; rfl
theorem ledgerCapWrite : ∀ t r rail v, Statement (.ledgerCapWrite t r rail v) := by
  intros; refine ⟨?_, ?_, fun s => ?_⟩; rotate_left 2; unfold exec execLedgerCapWrite; rfl
theorem napGate : ∀ t, Statement (.napGate t) := by
  intros; refine ⟨?_, ?_, fun s => ?_⟩; rotate_left 2; unfold exec execNapGate; rfl
theorem napBias : ∀ t, Statement (.napBias t) := by
  intros; refine ⟨?_, ?_, fun s => ?_⟩; rotate_left 2; unfold exec execNapBias; rfl
theorem hkRoundStart : ∀ t, Statement (.hkRoundStart t) := by
  intros; refine ⟨?_, ?_, fun s => ?_⟩; rotate_left 2; unfold exec execHkRoundStart; rfl
theorem hkConversion : ∀ t code, Statement (.hkConversion t code) := by
  intros; refine ⟨?_, ?_, fun s => ?_⟩; rotate_left 2; unfold exec execHkConversion; rfl
theorem hkRefReady : ∀ t, Statement (.hkRefReady t) := by
  intros; refine ⟨?_, ?_, fun s => ?_⟩; rotate_left 2; unfold exec execHkRefReady; rfl
theorem hkOneshot : ∀ t r v, Statement (.hkOneshot t r v) := by
  intros; refine ⟨?_, ?_, fun s => ?_⟩; rotate_left 2; unfold exec execHkOneshot; rfl
theorem bandJudge : ∀ t, Statement (.bandJudge t) := by
  intros; refine ⟨?_, ?_, fun s => ?_⟩; rotate_left 2; unfold exec execBandJudge; rfl
theorem vswrCal : ∀ t x pwr, Statement (.vswrCal t x pwr) := by
  intros; refine ⟨?_, ?_, fun s => ?_⟩; rotate_left 2; unfold exec execVswrCal; rfl
theorem rflTrip : ∀ t path, Statement (.rflTrip t path) := by
  intros; refine ⟨?_, ?_, fun s => ?_⟩; rotate_left 2; unfold exec execRflTrip; rfl
theorem rflRetryClear : ∀ t path, Statement (.rflRetryClear t path) := by
  intros; refine ⟨?_, ?_, fun s => ?_⟩; rotate_left 2; unfold exec execRflRetryClear; rfl
theorem auxCode : ∀ t r x v, Statement (.auxCode t r x v) := by
  intros; refine ⟨?_, ?_, fun s => ?_⟩; rotate_left 2; unfold exec execAuxCode; rfl
theorem deglitchHoldEnd : ∀ t x, Statement (.deglitchHoldEnd t x) := by
  intros; refine ⟨?_, ?_, fun s => ?_⟩; rotate_left 2; unfold exec execDeglitchHoldEnd; rfl
theorem auxCompliance : ∀ t x on, Statement (.auxCompliance t x on) := by
  intros; refine ⟨?_, ?_, fun s => ?_⟩; rotate_left 2; unfold exec execAuxCompliance; rfl
theorem gbFaultDetect : ∀ t path cause on, Statement (.gbFaultDetect t path cause on) := by
  intros; refine ⟨?_, ?_, fun s => ?_⟩; rotate_left 2; unfold exec execGbFaultDetect; rfl
theorem fwVerify : ∀ t r v, Statement (.fwVerify t r v) := by
  intros; refine ⟨?_, ?_, fun s => ?_⟩; rotate_left 2; unfold exec execFwVerify; rfl
theorem fwVerifyDone : ∀ t, Statement (.fwVerifyDone t) := by
  intros; refine ⟨?_, ?_, fun s => ?_⟩; rotate_left 2; unfold exec execFwVerifyDone; rfl
theorem fwConfirm : ∀ t r v, Statement (.fwConfirm t r v) := by
  intros; refine ⟨?_, ?_, fun s => ?_⟩; rotate_left 2; unfold exec execFwConfirm; rfl
theorem fwTrialExpiry : ∀ t, Statement (.fwTrialExpiry t) := by
  intros; refine ⟨?_, ?_, fun s => ?_⟩; rotate_left 2; unfold exec execFwTrialExpiry; rfl
theorem otpFuseBlow : ∀ t ok, Statement (.otpFuseBlow t ok) := by
  intros; refine ⟨?_, ?_, fun s => ?_⟩; rotate_left 2; unfold exec execOtpFuseBlow; rfl
theorem watchdogExpiry : ∀ t, Statement (.watchdogExpiry t) := by
  intros; refine ⟨?_, ?_, fun s => ?_⟩; rotate_left 2; unfold exec execWatchdogExpiry; rfl
theorem bootCandidateDone : ∀ t v0 v1 bundle, Statement (.bootCandidateDone t v0 v1 bundle) := by
  intros; refine ⟨?_, ?_, fun s => ?_⟩; rotate_left 2; unfold exec execBootCandidateDone; rfl
theorem sessionChallenge : ∀ t r, Statement (.sessionChallenge t r) := by
  intros; refine ⟨?_, ?_, fun s => ?_⟩; rotate_left 2; unfold exec execSessionChallenge; rfl
theorem challengeExpiry : ∀ t, Statement (.challengeExpiry t) := by
  intros; refine ⟨?_, ?_, fun s => ?_⟩; rotate_left 2; unfold exec execChallengeExpiry; rfl
theorem sessionRespRsa : ∀ t r v, Statement (.sessionRespRsa t r v) := by
  intros; refine ⟨?_, ?_, fun s => ?_⟩; rotate_left 2; unfold exec execSessionRespRsa; rfl
theorem sessionRespSlh : ∀ t r v, Statement (.sessionRespSlh t r v) := by
  intros; refine ⟨?_, ?_, fun s => ?_⟩; rotate_left 2; unfold exec execSessionRespSlh; rfl
theorem sessionOpen : ∀ t r slot, Statement (.sessionOpen t r slot) := by
  intros; refine ⟨?_, ?_, fun s => ?_⟩; rotate_left 2; unfold exec execSessionOpen; rfl
theorem sessionClose : ∀ t r v, Statement (.sessionClose t r v) := by
  intros; refine ⟨?_, ?_, fun s => ?_⟩; rotate_left 2; unfold exec execSessionClose; rfl
theorem sessionLockoutEnd : ∀ t, Statement (.sessionLockoutEnd t) := by
  intros; refine ⟨?_, ?_, fun s => ?_⟩; rotate_left 2; unfold exec execSessionLockoutEnd; rfl
theorem credKeys : ∀ t r n v, Statement (.credKeys t r n v) := by
  intros; refine ⟨?_, ?_, fun s => ?_⟩; rotate_left 2; unfold exec execCredKeys; rfl
theorem credRevoke : ∀ t r n, Statement (.credRevoke t r n) := by
  intros; refine ⟨?_, ?_, fun s => ?_⟩; rotate_left 2; unfold exec execCredRevoke; rfl
theorem attestReq : ∀ t r nonce, Statement (.attestReq t r nonce) := by
  intros; refine ⟨?_, ?_, fun s => ?_⟩; rotate_left 2; unfold exec execAttestReq; rfl
theorem attestRsaDone : ∀ t, Statement (.attestRsaDone t) := by
  intros; refine ⟨?_, ?_, fun s => ?_⟩; rotate_left 2; unfold exec execAttestRsaDone; rfl
theorem attestSlhDone : ∀ t, Statement (.attestSlhDone t) := by
  intros; refine ⟨?_, ?_, fun s => ?_⟩; rotate_left 2; unfold exec execAttestSlhDone; rfl
theorem railGood : ∀ t rail, Statement (.railGood t rail) := by
  intros; refine ⟨?_, ?_, fun s => ?_⟩; rotate_left 2; unfold exec execRailGood; rfl
theorem railBad : ∀ t rail, Statement (.railBad t rail) := by
  intros; refine ⟨?_, ?_, fun s => ?_⟩; rotate_left 2; unfold exec execRailBad; rfl
theorem resetHoldExpiry : ∀ t role src auto, Statement (.resetHoldExpiry t role src auto) := by
  intros; refine ⟨?_, ?_, fun s => ?_⟩; rotate_left 2; unfold exec execResetHoldExpiry; rfl
theorem resetNAssert : ∀ t, Statement (.resetNAssert t) := by
  intros; refine ⟨?_, ?_, fun s => ?_⟩; rotate_left 2; unfold exec execResetNAssert; rfl
theorem resetNRelease : ∀ t role src auto, Statement (.resetNRelease t role src auto) := by
  intros; refine ⟨?_, ?_, fun s => ?_⟩; rotate_left 2; unfold exec execResetNRelease; rfl
theorem resetReqPin : ∀ t r, Statement (.resetReqPin t r) := by
  intros; refine ⟨?_, ?_, fun s => ?_⟩; rotate_left 2; unfold exec execResetReqPin; rfl
theorem resetReqRestart : ∀ t r, Statement (.resetReqRestart t r) := by
  intros; refine ⟨?_, ?_, fun s => ?_⟩; rotate_left 2; unfold exec execResetReqRestart; rfl
theorem resetReqDomain : ∀ t r d, Statement (.resetReqDomain t r d) := by
  intros; refine ⟨?_, ?_, fun s => ?_⟩; rotate_left 2; unfold exec execResetReqDomain; rfl
theorem childReset : ∀ t r n v, Statement (.childReset t r n v) := by
  intros; refine ⟨?_, ?_, fun s => ?_⟩; rotate_left 2; unfold exec execChildReset; rfl
theorem flashMirrorWrite : ∀ t, Statement (.flashMirrorWrite t) := by
  intros; refine ⟨?_, ?_, fun s => ?_⟩; rotate_left 2; unfold exec execFlashMirrorWrite; rfl
theorem vidStep : ∀ t, Statement (.vidStep t) := by
  intros; refine ⟨?_, ?_, fun s => ?_⟩; rotate_left 2; unfold exec execVidStep; rfl
theorem unlockAlarmClear : ∀ t ix, Statement (.unlockAlarmClear t ix) := by
  intros; refine ⟨?_, ?_, fun s => ?_⟩; rotate_left 2; unfold exec execUnlockAlarmClear; rfl
theorem domainReady : ∀ t d, Statement (.domainReady t d) := by
  intros; refine ⟨?_, ?_, fun s => ?_⟩; rotate_left 2; unfold exec execDomainReady; rfl
theorem standbyReached : ∀ t lo, Statement (.standbyReached t lo) := by
  intros; refine ⟨?_, ?_, fun s => ?_⟩; rotate_left 2; unfold exec execStandbyReached; rfl
theorem startupStepDone : ∀ t bad, Statement (.startupStepDone t bad) := by
  intros; refine ⟨?_, ?_, fun s => ?_⟩; rotate_left 2; unfold exec execStartupStepDone; rfl
theorem refSlewDone : ∀ t, Statement (.refSlewDone t) := by
  intros; refine ⟨?_, ?_, fun s => ?_⟩; rotate_left 2; unfold exec execRefSlewDone; rfl
theorem timeMissExpiry : ∀ t, Statement (.timeMissExpiry t) := by
  intros; refine ⟨?_, ?_, fun s => ?_⟩; rotate_left 2; unfold exec execTimeMissExpiry; rfl
theorem prbsCheckerSync : ∀ t ix on n errs, Statement (.prbsCheckerSync t ix on n errs) := by
  intros; refine ⟨?_, ?_, fun s => ?_⟩; rotate_left 2; unfold exec execPrbsCheckerSync; rfl
theorem hierarchyAlarmClear : ∀ t p, Statement (.hierarchyAlarmClear t p) := by
  intros; refine ⟨?_, ?_, fun s => ?_⟩; rotate_left 2; unfold exec execHierarchyAlarmClear; rfl

/-- Every command does. -/
theorem all (i : Instr) : Statement i := by
  cases i
  case slotBoundary => exact slotBoundary _ _ _
  case symbolBoundary => exact symbolBoundary _ _ _ _
  case frameBoundary => exact frameBoundary _
  case commitActivation => exact commitActivation _
  case cpAbsentTimeout => exact cpAbsentTimeout _
  case controlRestartDone => exact controlRestartDone _
  case ledgerRequest => exact ledgerRequest _ _
  case ledgerRetry => exact ledgerRetry _
  case dlPacketArrival => exact dlPacketArrival _ _
  case sectionArrival => exact sectionArrival _ _
  case cWindowClose => exact cWindowClose _ _ _ _
  case beamformDone => exact beamformDone _ _ _ _ _ _
  case fastPathRecomputeStart => exact fastPathRecomputeStart _
  case fastPathRecomputeDone => exact fastPathRecomputeDone _
  case touchstone => exact touchstone _ _ _ _
  case ulSymbolEnd => exact ulSymbolEnd _ _ _
  case ulPacketDepart => exact ulPacketDepart _ _ _
  case ulChildPacketArrival => exact ulChildPacketArrival _ _ _
  case ulCutoff => exact ulCutoff _ _ _
  case stageOpen => exact stageOpen _ _ _ _
  case stageFillDone => exact stageFillDone _ _
  case stageSwapRelease => exact stageSwapRelease _ _
  case bankMarkValid => exact bankMarkValid _ _ _ _
  case schedClone => exact schedClone _ _ _ _
  case schedCloneDone => exact schedCloneDone _ _
  case suppressionEnd => exact suppressionEnd _
  case txAttenWrite => exact txAttenWrite _ _ _ _
  case rxAttenWrite => exact rxAttenWrite _ _ _ _
  case txEntry => exact txEntry _ _ _ _
  case txExit => exact txExit _ _ _ _
  case rxEntry => exact rxEntry _ _ _ _
  case rxExit => exact rxExit _ _ _ _
  case gbFaultClear => exact gbFaultClear _ _ _ _
  case cxRequest => exact cxRequest _ _
  case cxTxRequest => exact cxTxRequest _
  case cxGrantSeen => exact cxGrantSeen _
  case cxGuardExpiry => exact cxGuardExpiry _
  case cxInjectionEnd => exact cxInjectionEnd _
  case cxgntDeassert => exact cxgntDeassert _
  case cxWaitTimeout => exact cxWaitTimeout _
  case cxLeaseExpiry => exact cxLeaseExpiry _
  case refAccept => exact refAccept _ _
  case refLost => exact refLost _
  case refRestore => exact refRestore _
  case clkPllUnlock => exact clkPllUnlock _ _
  case clkPllRelock => exact clkPllRelock _ _
  case datapathPllUnlock => exact datapathPllUnlock _ _
  case datapathPllRelock => exact datapathPllRelock _ _
  case loCountWindow => exact loCountWindow _ _ _
  case loCycleSlip => exact loCycleSlip _ _
  case loLoadNow => exact loLoadNow _ _ _ _
  case loPhaseStep => exact loPhaseStep _ _ _ _
  case loHandoverStart => exact loHandoverStart _ _ _
  case loHandoverArmed => exact loHandoverArmed _
  case dpdAttemptStart => exact dpdAttemptStart _
  case dpdCaptureDone => exact dpdCaptureDone _ _ _ _
  case dpdSolveDone => exact dpdSolveDone _ _ _ _ _
  case dpdPeriodLate => exact dpdPeriodLate _ _
  case dpdStaleAgeExpiry => exact dpdStaleAgeExpiry _ _
  case orxRequest => exact orxRequest _ _ _ _
  case orxGrant => exact orxGrant _ _
  case orxSettleDone => exact orxSettleDone _ _
  case orxDrop => exact orxDrop _ _
  case orxWithdraw => exact orxWithdraw _ _
  case orxBurstLimitExpiry => exact orxBurstLimitExpiry _ _
  case orxLeaseExpiry => exact orxLeaseExpiry _ _
  case orxPrivWdExpiry => exact orxPrivWdExpiry _ _
  case dcEccError => exact dcEccError _ _ _
  case chfPendingTimeout => exact chfPendingTimeout _
  case ulChfPendingTimeout => exact ulChfPendingTimeout _
  case rextMeasure => exact rextMeasure _ _
  case startCalStepDone => exact startCalStepDone _ _
  case assayDone => exact assayDone _ _ _
  case assayResultReady => exact assayResultReady _ _ _ _
  case calStoreWrite => exact calStoreWrite _
  case calBenchNow => exact calBenchNow _ _ _
  case calOverdueExpiry => exact calOverdueExpiry _ _
  case ageMeasure => exact ageMeasure _ _
  case ageHourly => exact ageHourly _
  case avsStep => exact avsStep _
  case paGainDaily => exact paGainDaily _
  case portDetect => exact portDetect _ _
  case laneTrainDone => exact laneTrainDone _ _ _ _
  case portAlignDone => exact portAlignDone _ _
  case lmgTs1 => exact lmgTs1 _ _ _ _ _
  case lmgTs2 => exact lmgTs2 _ _ _ _
  case portRateDone => exact portRateDone _ _
  case portTrainTimeout => exact portTrainTimeout _ _
  case lmgDropReq => exact lmgDropReq _ _ _
  case lmgDropAck => exact lmgDropAck _ _ _
  case lmgRestoreReq => exact lmgRestoreReq _ _ _
  case lmgRestoreAck => exact lmgRestoreAck _ _ _
  case lmgReset => exact lmgReset _ _ _
  case lmgReqRepeat => exact lmgReqRepeat _ _
  case laneLost => exact laneLost _ _ _ _
  case laneRestoreReady => exact laneRestoreReady _ _ _
  case epmSend => exact epmSend _
  case epmReceive => exact epmReceive _ _ _
  case packetReceive => exact packetReceive _ _ _ _ _
  case egressPacketStart => exact egressPacketStart _ _
  case fcXoffReceive => exact fcXoffReceive _ _ _ _
  case fcXonReceive => exact fcXonReceive _ _ _ _
  case fcXoffRefresh => exact fcXoffRefresh _ _ _
  case fcHoldTimeout => exact fcHoldTimeout _ _ _
  case fcStallExpiry => exact fcStallExpiry _ _ _
  case fluReceive => exact fluReceive _ _ _ _ _
  case flushApply => exact flushApply _ _
  case fwdWindowDiscard => exact fwdWindowDiscard _ _
  case mRequestDispatch => exact mRequestDispatch _
  case objRead => exact objRead _ _ _ _
  case objWrite => exact objWrite _ _ _ _ _
  case memRead => exact memRead _ _ _ _
  case memWrite => exact memWrite _ _ _ _
  case mResponseReceive => exact mResponseReceive _ _ _
  case mTimeout => exact mTimeout _ _
  case proxyForward => exact proxyForward _ _
  case proxyTimeout => exact proxyTimeout _ _ _ _
  case laneTrendUpdate => exact laneTrendUpdate _ _
  case laneLos => exact laneLos _ _ _
  case laneLossOfLock => exact laneLossOfLock _ _
  case portDeepEnter => exact portDeepEnter _ _
  case laneWakeDetect => exact laneWakeDetect _ _ _
  case laneDeepExitDone => exact laneDeepExitDone _ _
  case laneTest => exact laneTest _ _ _ _
  case laneInject => exact laneInject _ _ _ _
  case lanePresets => exact lanePresets _ _ _
  case syncSend => exact syncSend _ _
  case syncReceive => exact syncReceive _ _ _
  case followUpReceive => exact followUpReceive _ _
  case delayReqSend => exact delayReqSend _
  case delayReqReceive => exact delayReqReceive _ _ _ _
  case delayRespReceive => exact delayRespReceive _ _
  case announceSend => exact announceSend _
  case announceReceive => exact announceReceive _ _
  case exchangeTimeout => exact exchangeTimeout _
  case ppsEdge => exact ppsEdge _ _ _
  case todFrame => exact todFrame _ _
  case rootSourceLoss => exact rootSourceLoss _
  case holdoverExpiry => exact holdoverExpiry _
  case timeSet => exact timeSet _ _ _
  case timeSetReacquire => exact timeSetReacquire _
  case tpoEdge => exact tpoEdge _ _
  case tciEdge => exact tciEdge _ _ _
  case tciStamp => exact tciStamp _ _ _
  case timeAlarm => exact timeAlarm _ _ _ _
  case talarm => exact talarm _ _
  case addrAssign => exact addrAssign _ _
  case nodeAddrWrite => exact nodeAddrWrite _ _ _ _
  case summarySend => exact summarySend _
  case summaryReceive => exact summaryReceive _ _ _
  case alarmRecordReceive => exact alarmRecordReceive _ _ _ _
  case stagedWrite => exact stagedWrite _ _ _ _ _
  case stageDiscard => exact stageDiscard _ _ _
  case commit => exact commit _ _ _
  case stageLeaseExpiry => exact stageLeaseExpiry _
  case immediateSetWrite => exact immediateSetWrite _ _ _ _ _
  case lockLeaseExpiry => exact lockLeaseExpiry _ _
  case alarmHoldExpiry => exact alarmHoldExpiry _ _ _
  case logRead => exact logRead _ _
  case logClear => exact logClear _ _ _
  case counterClear => exact counterClear _ _ _ _
  case lhpTransactionStart => exact lhpTransactionStart _ _
  case lhpFrameReceive => exact lhpFrameReceive _ _
  case lhpFrameAbandon => exact lhpFrameAbandon _
  case lhpResponseSent => exact lhpResponseSent _
  case swpRefresh => exact swpRefresh _
  case swpHwRefresh => exact swpHwRefresh _
  case chClaim => exact chClaim _ _ _
  case chRelease => exact chRelease _ _ _
  case chStart => exact chStart _ _ _ _
  case chDoorbell => exact chDoorbell _ _ _ _
  case chStop => exact chStop _ _ _ _
  case chTrig => exact chTrig _ _ _ _
  case dmaTrigger => exact dmaTrigger _ _
  case dmaCopy => exact dmaCopy _ _
  case dmaFill => exact dmaFill _ _
  case dmaCompare => exact dmaCompare _ _
  case dmaBurst => exact dmaBurst _
  case capArm => exact capArm _ _ _ _
  case captureComplete => exact captureComplete _ _ _
  case scrubRead => exact scrubRead _ _ _
  case powerReq => exact powerReq _ _ _
  case domainReqDown => exact domainReqDown _ _ _
  case domainReqUp => exact domainReqUp _ _ _
  case domainAnswer => exact domainAnswer _ _
  case domainAnswerTimeout => exact domainAnswerTimeout _ _
  case domainPowerDown => exact domainPowerDown _ _
  case wakePin => exact wakePin _
  case wakeStepDone => exact wakeStepDone _ _
  case firstAccessWake => exact firstAccessWake _ _
  case wakeStallTimeout => exact wakeStallTimeout _ _
  case ledgerCapWrite => exact ledgerCapWrite _ _ _ _
  case napGate => exact napGate _
  case napBias => exact napBias _
  case hkRoundStart => exact hkRoundStart _
  case hkConversion => exact hkConversion _ _
  case hkRefReady => exact hkRefReady _
  case hkOneshot => exact hkOneshot _ _ _
  case bandJudge => exact bandJudge _
  case vswrCal => exact vswrCal _ _ _
  case rflTrip => exact rflTrip _ _
  case rflRetryClear => exact rflRetryClear _ _
  case auxCode => exact auxCode _ _ _ _
  case deglitchHoldEnd => exact deglitchHoldEnd _ _
  case auxCompliance => exact auxCompliance _ _ _
  case gbFaultDetect => exact gbFaultDetect _ _ _ _
  case fwVerify => exact fwVerify _ _ _
  case fwVerifyDone => exact fwVerifyDone _
  case fwConfirm => exact fwConfirm _ _ _
  case fwTrialExpiry => exact fwTrialExpiry _
  case otpFuseBlow => exact otpFuseBlow _ _
  case watchdogExpiry => exact watchdogExpiry _
  case bootCandidateDone => exact bootCandidateDone _ _ _ _
  case sessionChallenge => exact sessionChallenge _ _
  case challengeExpiry => exact challengeExpiry _
  case sessionRespRsa => exact sessionRespRsa _ _ _
  case sessionRespSlh => exact sessionRespSlh _ _ _
  case sessionOpen => exact sessionOpen _ _ _
  case sessionClose => exact sessionClose _ _ _
  case sessionLockoutEnd => exact sessionLockoutEnd _
  case credKeys => exact credKeys _ _ _ _
  case credRevoke => exact credRevoke _ _ _
  case attestReq => exact attestReq _ _ _
  case attestRsaDone => exact attestRsaDone _
  case attestSlhDone => exact attestSlhDone _
  case railGood => exact railGood _ _
  case railBad => exact railBad _ _
  case resetHoldExpiry => exact resetHoldExpiry _ _ _ _
  case resetNAssert => exact resetNAssert _
  case resetNRelease => exact resetNRelease _ _ _ _
  case resetReqPin => exact resetReqPin _ _
  case resetReqRestart => exact resetReqRestart _ _
  case resetReqDomain => exact resetReqDomain _ _ _
  case childReset => exact childReset _ _ _ _
  case flashMirrorWrite => exact flashMirrorWrite _
  case vidStep => exact vidStep _
  case unlockAlarmClear => exact unlockAlarmClear _ _
  case domainReady => exact domainReady _ _
  case standbyReached => exact standbyReached _ _
  case startupStepDone => exact startupStepDone _ _
  case refSlewDone => exact refSlewDone _
  case timeMissExpiry => exact timeMissExpiry _
  case prbsCheckerSync => exact prbsCheckerSync _ _ _ _ _
  case hierarchyAlarmClear => exact hierarchyAlarmClear _ _

end Sys2Proof.Laws.Runs
end

