-- ==== Sys2Proof/Laws/Shared.lean ====
section
/-!
SUPPORT. What the operations every chapter shares can do: recording an alarm, answering a request, a ledger request, and a
write that its object's rule takes.
-/

namespace Sys2Proof.Machine

variable {ps : List Part} {ks : List Nat} {w s : State}

/-! ### Alarms -/

theorem Frame.logAdd {e : LogEntry} (h : Frame ps ks w s) (h0 : Part.log ∈ ps) (hk : logKeys ⊆ ks) :
    Frame ps ks w (s.logAdd e) := by
  have a : key 0xA000 3 ∈ ks := hk (by decide)
  have b : key 0xA000 4 ∈ ks := hk (by decide)
  have c : key 0xA000 6 ∈ ks := hk (by decide)
  unfold State.logAdd; dsimp only
  repeat' with_reducible (first
    | assumption | refine List.cons_subset.2 ⟨?_, ?_⟩ | exact List.nil_subset _
    | refine Frame.ite (fun _ => ?_) (fun _ => ?_) | refine Frame.bump ?_ (.inl ?_) | refine Frame.log ?_ ?_)

theorem Frame.record {a b c : Nat} (h : Frame ps ks w s) (h0 : Part.log ∈ ps) (h1 : Part.ports ∈ ps)
    (hk : logKeys ⊆ ks) : Frame ps ks w (s.record a b c) := by
  unfold State.record; dsimp only
  repeat' with_reducible (first
    | assumption | refine List.cons_subset.2 ⟨?_, ?_⟩ | exact List.nil_subset _
    | refine Frame.ite (fun _ => ?_) (fun _ => ?_) | refine Frame.send ?_ ?_ | refine Frame.logAdd ?_ ?_ ?_)

theorem Frame.raise {a b : Nat} (h : Frame ps ks w s) (h0 : logParts ⊆ ps) (hk : logKeys ⊆ ks) :
    Frame ps ks w (s.raise a b) := by
  have h1 := (h0 (by decide) : Part.log ∈ ps)
  have h2 := (h0 (by decide) : Part.ports ∈ ps)
  have h3 := (h0 (by decide) : Part.alarms ∈ ps)
  unfold State.raise; dsimp only
  repeat' with_reducible (first
    | assumption | refine List.cons_subset.2 ⟨?_, ?_⟩ | exact List.nil_subset _
    | refine Frame.ite (fun _ => ?_) (fun _ => ?_) | refine Frame.record ?_ ?_ ?_ ?_ | refine Frame.alarms ?_ ?_)

theorem Frame.clearAl {a b : Nat} (h : Frame ps ks w s) (h0 : logParts ⊆ ps) (hk : logKeys ⊆ ks) :
    Frame ps ks w (s.clearAl a b) := by
  have h1 := (h0 (by decide) : Part.log ∈ ps)
  have h2 := (h0 (by decide) : Part.ports ∈ ps)
  have h3 := (h0 (by decide) : Part.alarms ∈ ps)
  unfold State.clearAl
  repeat' with_reducible (first
    | assumption | refine List.cons_subset.2 ⟨?_, ?_⟩ | exact List.nil_subset _
    | refine Frame.ite (fun _ => ?_) (fun _ => ?_) | refine Frame.record ?_ ?_ ?_ ?_ | refine Frame.alarms ?_ ?_)

theorem Frame.alarmIf {a b : Nat} {c : Bool} (h : Frame ps ks w s) (h0 : logParts ⊆ ps)
    (hk : logKeys ⊆ ks) : Frame ps ks w (s.alarmIf a b c) := by
  unfold State.alarmIf
  repeat' with_reducible (first
    | assumption | refine List.cons_subset.2 ⟨?_, ?_⟩ | exact List.nil_subset _
    | refine Frame.ite (fun _ => ?_) (fun _ => ?_) | refine Frame.raise ?_ ?_ ?_ | refine Frame.clearAl ?_ ?_ ?_)

@[simp] theorem State.logAdd_keeps (s : State) (e : LogEntry) :
    (s.logAdd e).now = s.now ∧ (s.logAdd e).timeBase = s.timeBase ∧ (s.logAdd e).pending = s.pending ∧ (s.logAdd e).act = s.act ∧
    (s.logAdd e).held = s.held ∧ (s.logAdd e).free = s.free ∧ (s.logAdd e).alarms = s.alarms ∧
    (s.logAdd e).slotAlarms = s.slotAlarms ∧ (s.logAdd e).clears = s.clears ∧ (s.logAdd e).stage = s.stage ∧
    (s.logAdd e).commits = s.commits ∧ (s.logAdd e).locks = s.locks ∧ (s.logAdd e).cpAbsent = s.cpAbsent ∧
    (s.logAdd e).cpLost = s.cpLost ∧ (s.logAdd e).mq = s.mq ∧ (s.logAdd e).inService = s.inService ∧
    (s.logAdd e).mTags = s.mTags ∧ (s.logAdd e).lhp = s.lhp ∧ (s.logAdd e).swp = s.swp ∧ (s.logAdd e).grants = s.grants ∧
    (s.logAdd e).band = s.band ∧ (s.logAdd e).power = s.power ∧ (s.logAdd e).ports = s.ports ∧ (s.logAdd e).lanes = s.lanes ∧
    (s.logAdd e).hier = s.hier ∧ (s.logAdd e).time = s.time ∧ (s.logAdd e).dl = s.dl ∧ (s.logAdd e).ul = s.ul ∧
    (s.logAdd e).tbl = s.tbl ∧ (s.logAdd e).rf = s.rf ∧ (s.logAdd e).clk = s.clk ∧ (s.logAdd e).dpd = s.dpd ∧
    (s.logAdd e).cal = s.cal ∧ (s.logAdd e).dma = s.dma ∧ (s.logAdd e).hk = s.hk ∧ (s.logAdd e).sec = s.sec ∧
    (s.logAdd e).start = s.start ∧ (s.logAdd e).past = s.past ∧ (s.logAdd e).time_ = s.time_ ∧
    (∀ i' j', key i' j' ∉ logKeys → (s.logAdd e).o i' j' = s.o i' j') ∧ (∀ i' j', (s.logAdd e).a i' j' = s.a i' j') ∧
    (∀ T' i' j', (s.logAdd e).at_ T' i' j' = s.at_ T' i' j') ∧ (∀ a', (s.logAdd e).rd8 a' = s.rd8 a') := by
  have h : Frame [.log] logKeys s (s.logAdd e) := Frame.logAdd Frame.refl (by decide) (List.Subset.refl _)
  have now := h.parts .now (by decide)
  have base := h.parts .timeBase (by decide)
  simp only [Part.same] at now base
  have act := h.parts .act (by decide)
  simp only [Part.same] at act
  have com := h.parts .commits (by decide)
  have past := h.parts .past (by decide)
  simp only [Part.same] at com past
  exact ⟨h.parts .now (by decide),
    h.parts .timeBase (by decide),
    h.parts .pending (by decide),
    h.parts .act (by decide),
    h.parts .held (by decide),
    h.parts .free (by decide),
    h.parts .alarms (by decide),
    h.parts .slotAlarms (by decide),
    h.parts .clears (by decide),
    h.parts .stage (by decide),
    h.parts .commits (by decide),
    h.parts .locks (by decide),
    h.parts .cpAbsent (by decide),
    h.parts .cpLost (by decide),
    h.parts .mq (by decide),
    h.parts .inService (by decide),
    h.parts .mTags (by decide),
    h.parts .lhp (by decide),
    h.parts .swp (by decide),
    h.parts .grants (by decide),
    h.parts .band (by decide),
    h.parts .power (by decide),
    h.parts .ports (by decide),
    h.parts .lanes (by decide),
    h.parts .hier (by decide),
    h.parts .time (by decide),
    h.parts .dl (by decide),
    h.parts .ul (by decide),
    h.parts .tbl (by decide),
    h.parts .rf (by decide),
    h.parts .clk (by decide),
    h.parts .dpd (by decide),
    h.parts .cal (by decide),
    h.parts .dma (by decide),
    h.parts .hk (by decide),
    h.parts .sec (by decide),
    h.parts .start (by decide),
    h.parts .past (by decide),
    by simp only [State.time_, now, base],
    h.objs (by decide),
    fun i j => by simp only [State.a, act],
    fun T i j => by simp only [State.at_, State.a, act, com, past],
    h.parts .mem (by decide)⟩

@[simp] theorem State.record_keeps (s : State) (a b c : Nat) :
    (s.record a b c).now = s.now ∧ (s.record a b c).timeBase = s.timeBase ∧ (s.record a b c).pending = s.pending ∧
    (s.record a b c).act = s.act ∧ (s.record a b c).held = s.held ∧ (s.record a b c).free = s.free ∧
    (s.record a b c).alarms = s.alarms ∧ (s.record a b c).slotAlarms = s.slotAlarms ∧ (s.record a b c).clears = s.clears ∧
    (s.record a b c).stage = s.stage ∧ (s.record a b c).commits = s.commits ∧ (s.record a b c).locks = s.locks ∧
    (s.record a b c).cpAbsent = s.cpAbsent ∧ (s.record a b c).cpLost = s.cpLost ∧ (s.record a b c).mq = s.mq ∧
    (s.record a b c).inService = s.inService ∧ (s.record a b c).mTags = s.mTags ∧ (s.record a b c).lhp = s.lhp ∧
    (s.record a b c).swp = s.swp ∧ (s.record a b c).grants = s.grants ∧ (s.record a b c).band = s.band ∧
    (s.record a b c).power = s.power ∧ (s.record a b c).lanes = s.lanes ∧ (s.record a b c).hier = s.hier ∧
    (s.record a b c).time = s.time ∧ (s.record a b c).dl = s.dl ∧ (s.record a b c).ul = s.ul ∧ (s.record a b c).tbl = s.tbl ∧
    (s.record a b c).rf = s.rf ∧ (s.record a b c).clk = s.clk ∧ (s.record a b c).dpd = s.dpd ∧ (s.record a b c).cal = s.cal ∧
    (s.record a b c).dma = s.dma ∧ (s.record a b c).hk = s.hk ∧ (s.record a b c).sec = s.sec ∧ (s.record a b c).start = s.start ∧
    (s.record a b c).past = s.past ∧
    (s.record a b c).time_ = s.time_ ∧ (∀ i' j', key i' j' ∉ logKeys → (s.record a b c).o i' j' = s.o i' j') ∧
    (∀ i' j', (s.record a b c).a i' j' = s.a i' j') ∧ (∀ T' i' j', (s.record a b c).at_ T' i' j' = s.at_ T' i' j') ∧
    (∀ a', (s.record a b c).rd8 a' = s.rd8 a') := by
  have h : Frame [.log, .ports] logKeys s (s.record a b c) := Frame.record Frame.refl (by decide) (by decide) (List.Subset.refl _)
  have now := h.parts .now (by decide)
  have base := h.parts .timeBase (by decide)
  simp only [Part.same] at now base
  have act := h.parts .act (by decide)
  simp only [Part.same] at act
  have com := h.parts .commits (by decide)
  have past := h.parts .past (by decide)
  simp only [Part.same] at com past
  exact ⟨h.parts .now (by decide),
    h.parts .timeBase (by decide),
    h.parts .pending (by decide),
    h.parts .act (by decide),
    h.parts .held (by decide),
    h.parts .free (by decide),
    h.parts .alarms (by decide),
    h.parts .slotAlarms (by decide),
    h.parts .clears (by decide),
    h.parts .stage (by decide),
    h.parts .commits (by decide),
    h.parts .locks (by decide),
    h.parts .cpAbsent (by decide),
    h.parts .cpLost (by decide),
    h.parts .mq (by decide),
    h.parts .inService (by decide),
    h.parts .mTags (by decide),
    h.parts .lhp (by decide),
    h.parts .swp (by decide),
    h.parts .grants (by decide),
    h.parts .band (by decide),
    h.parts .power (by decide),
    h.parts .lanes (by decide),
    h.parts .hier (by decide),
    h.parts .time (by decide),
    h.parts .dl (by decide),
    h.parts .ul (by decide),
    h.parts .tbl (by decide),
    h.parts .rf (by decide),
    h.parts .clk (by decide),
    h.parts .dpd (by decide),
    h.parts .cal (by decide),
    h.parts .dma (by decide),
    h.parts .hk (by decide),
    h.parts .sec (by decide),
    h.parts .start (by decide),
    h.parts .past (by decide),
    by simp only [State.time_, now, base],
    h.objs (by decide),
    fun i j => by simp only [State.a, act],
    fun T i j => by simp only [State.at_, State.a, act, com, past],
    h.parts .mem (by decide)⟩

@[simp] theorem State.raise_keeps (s : State) (a b : Nat) :
    (s.raise a b).now = s.now ∧ (s.raise a b).timeBase = s.timeBase ∧ (s.raise a b).pending = s.pending ∧
    (s.raise a b).act = s.act ∧ (s.raise a b).held = s.held ∧ (s.raise a b).free = s.free ∧
    (s.raise a b).slotAlarms = s.slotAlarms ∧ (s.raise a b).clears = s.clears ∧ (s.raise a b).stage = s.stage ∧
    (s.raise a b).commits = s.commits ∧ (s.raise a b).locks = s.locks ∧ (s.raise a b).cpAbsent = s.cpAbsent ∧
    (s.raise a b).cpLost = s.cpLost ∧ (s.raise a b).mq = s.mq ∧ (s.raise a b).inService = s.inService ∧
    (s.raise a b).mTags = s.mTags ∧ (s.raise a b).lhp = s.lhp ∧ (s.raise a b).swp = s.swp ∧ (s.raise a b).grants = s.grants ∧
    (s.raise a b).band = s.band ∧ (s.raise a b).power = s.power ∧ (s.raise a b).lanes = s.lanes ∧ (s.raise a b).hier = s.hier ∧
    (s.raise a b).time = s.time ∧ (s.raise a b).dl = s.dl ∧ (s.raise a b).ul = s.ul ∧ (s.raise a b).tbl = s.tbl ∧
    (s.raise a b).rf = s.rf ∧ (s.raise a b).clk = s.clk ∧ (s.raise a b).dpd = s.dpd ∧ (s.raise a b).cal = s.cal ∧
    (s.raise a b).dma = s.dma ∧ (s.raise a b).hk = s.hk ∧ (s.raise a b).sec = s.sec ∧ (s.raise a b).start = s.start ∧
    (s.raise a b).past = s.past ∧
    (s.raise a b).time_ = s.time_ ∧ (∀ i' j', key i' j' ∉ logKeys → (s.raise a b).o i' j' = s.o i' j') ∧
    (∀ i' j', (s.raise a b).a i' j' = s.a i' j') ∧ (∀ T' i' j', (s.raise a b).at_ T' i' j' = s.at_ T' i' j') ∧
    (∀ a', (s.raise a b).rd8 a' = s.rd8 a') := by
  have h : Frame [.alarms, .log, .ports] logKeys s (s.raise a b) := Frame.raise Frame.refl (List.Subset.refl _) (List.Subset.refl _)
  have now := h.parts .now (by decide)
  have base := h.parts .timeBase (by decide)
  simp only [Part.same] at now base
  have act := h.parts .act (by decide)
  simp only [Part.same] at act
  have com := h.parts .commits (by decide)
  have past := h.parts .past (by decide)
  simp only [Part.same] at com past
  exact ⟨h.parts .now (by decide),
    h.parts .timeBase (by decide),
    h.parts .pending (by decide),
    h.parts .act (by decide),
    h.parts .held (by decide),
    h.parts .free (by decide),
    h.parts .slotAlarms (by decide),
    h.parts .clears (by decide),
    h.parts .stage (by decide),
    h.parts .commits (by decide),
    h.parts .locks (by decide),
    h.parts .cpAbsent (by decide),
    h.parts .cpLost (by decide),
    h.parts .mq (by decide),
    h.parts .inService (by decide),
    h.parts .mTags (by decide),
    h.parts .lhp (by decide),
    h.parts .swp (by decide),
    h.parts .grants (by decide),
    h.parts .band (by decide),
    h.parts .power (by decide),
    h.parts .lanes (by decide),
    h.parts .hier (by decide),
    h.parts .time (by decide),
    h.parts .dl (by decide),
    h.parts .ul (by decide),
    h.parts .tbl (by decide),
    h.parts .rf (by decide),
    h.parts .clk (by decide),
    h.parts .dpd (by decide),
    h.parts .cal (by decide),
    h.parts .dma (by decide),
    h.parts .hk (by decide),
    h.parts .sec (by decide),
    h.parts .start (by decide),
    h.parts .past (by decide),
    by simp only [State.time_, now, base],
    h.objs (by decide),
    fun i j => by simp only [State.a, act],
    fun T i j => by simp only [State.at_, State.a, act, com, past],
    h.parts .mem (by decide)⟩

@[simp] theorem State.clearAl_keeps (s : State) (a b : Nat) :
    (s.clearAl a b).now = s.now ∧ (s.clearAl a b).timeBase = s.timeBase ∧ (s.clearAl a b).pending = s.pending ∧
    (s.clearAl a b).act = s.act ∧ (s.clearAl a b).held = s.held ∧ (s.clearAl a b).free = s.free ∧
    (s.clearAl a b).slotAlarms = s.slotAlarms ∧ (s.clearAl a b).clears = s.clears ∧ (s.clearAl a b).stage = s.stage ∧
    (s.clearAl a b).commits = s.commits ∧ (s.clearAl a b).locks = s.locks ∧ (s.clearAl a b).cpAbsent = s.cpAbsent ∧
    (s.clearAl a b).cpLost = s.cpLost ∧ (s.clearAl a b).mq = s.mq ∧ (s.clearAl a b).inService = s.inService ∧
    (s.clearAl a b).mTags = s.mTags ∧ (s.clearAl a b).lhp = s.lhp ∧ (s.clearAl a b).swp = s.swp ∧
    (s.clearAl a b).grants = s.grants ∧ (s.clearAl a b).band = s.band ∧ (s.clearAl a b).power = s.power ∧
    (s.clearAl a b).lanes = s.lanes ∧ (s.clearAl a b).hier = s.hier ∧ (s.clearAl a b).time = s.time ∧ (s.clearAl a b).dl = s.dl ∧
    (s.clearAl a b).ul = s.ul ∧ (s.clearAl a b).tbl = s.tbl ∧ (s.clearAl a b).rf = s.rf ∧ (s.clearAl a b).clk = s.clk ∧
    (s.clearAl a b).dpd = s.dpd ∧ (s.clearAl a b).cal = s.cal ∧ (s.clearAl a b).dma = s.dma ∧ (s.clearAl a b).hk = s.hk ∧
    (s.clearAl a b).sec = s.sec ∧ (s.clearAl a b).start = s.start ∧ (s.clearAl a b).past = s.past ∧ (s.clearAl a b).time_ = s.time_ ∧
    (∀ i' j', key i' j' ∉ logKeys → (s.clearAl a b).o i' j' = s.o i' j') ∧ (∀ i' j', (s.clearAl a b).a i' j' = s.a i' j') ∧
    (∀ T' i' j', (s.clearAl a b).at_ T' i' j' = s.at_ T' i' j') ∧ (∀ a', (s.clearAl a b).rd8 a' = s.rd8 a') := by
  have h : Frame [.alarms, .log, .ports] logKeys s (s.clearAl a b) := Frame.clearAl Frame.refl (List.Subset.refl _) (List.Subset.refl _)
  have now := h.parts .now (by decide)
  have base := h.parts .timeBase (by decide)
  simp only [Part.same] at now base
  have act := h.parts .act (by decide)
  simp only [Part.same] at act
  have com := h.parts .commits (by decide)
  have past := h.parts .past (by decide)
  simp only [Part.same] at com past
  exact ⟨h.parts .now (by decide),
    h.parts .timeBase (by decide),
    h.parts .pending (by decide),
    h.parts .act (by decide),
    h.parts .held (by decide),
    h.parts .free (by decide),
    h.parts .slotAlarms (by decide),
    h.parts .clears (by decide),
    h.parts .stage (by decide),
    h.parts .commits (by decide),
    h.parts .locks (by decide),
    h.parts .cpAbsent (by decide),
    h.parts .cpLost (by decide),
    h.parts .mq (by decide),
    h.parts .inService (by decide),
    h.parts .mTags (by decide),
    h.parts .lhp (by decide),
    h.parts .swp (by decide),
    h.parts .grants (by decide),
    h.parts .band (by decide),
    h.parts .power (by decide),
    h.parts .lanes (by decide),
    h.parts .hier (by decide),
    h.parts .time (by decide),
    h.parts .dl (by decide),
    h.parts .ul (by decide),
    h.parts .tbl (by decide),
    h.parts .rf (by decide),
    h.parts .clk (by decide),
    h.parts .dpd (by decide),
    h.parts .cal (by decide),
    h.parts .dma (by decide),
    h.parts .hk (by decide),
    h.parts .sec (by decide),
    h.parts .start (by decide),
    h.parts .past (by decide),
    by simp only [State.time_, now, base],
    h.objs (by decide),
    fun i j => by simp only [State.a, act],
    fun T i j => by simp only [State.at_, State.a, act, com, past],
    h.parts .mem (by decide)⟩

@[simp] theorem State.alarmIf_keeps (s : State) (a b : Nat) (c : Bool) :
    (s.alarmIf a b c).now = s.now ∧ (s.alarmIf a b c).timeBase = s.timeBase ∧ (s.alarmIf a b c).pending = s.pending ∧
    (s.alarmIf a b c).act = s.act ∧ (s.alarmIf a b c).held = s.held ∧ (s.alarmIf a b c).free = s.free ∧
    (s.alarmIf a b c).slotAlarms = s.slotAlarms ∧ (s.alarmIf a b c).clears = s.clears ∧ (s.alarmIf a b c).stage = s.stage ∧
    (s.alarmIf a b c).commits = s.commits ∧ (s.alarmIf a b c).locks = s.locks ∧ (s.alarmIf a b c).cpAbsent = s.cpAbsent ∧
    (s.alarmIf a b c).cpLost = s.cpLost ∧ (s.alarmIf a b c).mq = s.mq ∧ (s.alarmIf a b c).inService = s.inService ∧
    (s.alarmIf a b c).mTags = s.mTags ∧ (s.alarmIf a b c).lhp = s.lhp ∧ (s.alarmIf a b c).swp = s.swp ∧
    (s.alarmIf a b c).grants = s.grants ∧ (s.alarmIf a b c).band = s.band ∧ (s.alarmIf a b c).power = s.power ∧
    (s.alarmIf a b c).lanes = s.lanes ∧ (s.alarmIf a b c).hier = s.hier ∧ (s.alarmIf a b c).time = s.time ∧
    (s.alarmIf a b c).dl = s.dl ∧ (s.alarmIf a b c).ul = s.ul ∧ (s.alarmIf a b c).tbl = s.tbl ∧ (s.alarmIf a b c).rf = s.rf ∧
    (s.alarmIf a b c).clk = s.clk ∧ (s.alarmIf a b c).dpd = s.dpd ∧ (s.alarmIf a b c).cal = s.cal ∧
    (s.alarmIf a b c).dma = s.dma ∧ (s.alarmIf a b c).hk = s.hk ∧ (s.alarmIf a b c).sec = s.sec ∧
    (s.alarmIf a b c).start = s.start ∧ (s.alarmIf a b c).past = s.past ∧ (s.alarmIf a b c).time_ = s.time_ ∧
    (∀ i' j', key i' j' ∉ logKeys → (s.alarmIf a b c).o i' j' = s.o i' j') ∧ (∀ i' j', (s.alarmIf a b c).a i' j' = s.a i' j') ∧
    (∀ T' i' j', (s.alarmIf a b c).at_ T' i' j' = s.at_ T' i' j') ∧ (∀ a', (s.alarmIf a b c).rd8 a' = s.rd8 a') := by
  have h : Frame [.alarms, .log, .ports] logKeys s (s.alarmIf a b c) := Frame.alarmIf Frame.refl (List.Subset.refl _) (List.Subset.refl _)
  have now := h.parts .now (by decide)
  have base := h.parts .timeBase (by decide)
  simp only [Part.same] at now base
  have act := h.parts .act (by decide)
  simp only [Part.same] at act
  have com := h.parts .commits (by decide)
  have past := h.parts .past (by decide)
  simp only [Part.same] at com past
  exact ⟨h.parts .now (by decide),
    h.parts .timeBase (by decide),
    h.parts .pending (by decide),
    h.parts .act (by decide),
    h.parts .held (by decide),
    h.parts .free (by decide),
    h.parts .slotAlarms (by decide),
    h.parts .clears (by decide),
    h.parts .stage (by decide),
    h.parts .commits (by decide),
    h.parts .locks (by decide),
    h.parts .cpAbsent (by decide),
    h.parts .cpLost (by decide),
    h.parts .mq (by decide),
    h.parts .inService (by decide),
    h.parts .mTags (by decide),
    h.parts .lhp (by decide),
    h.parts .swp (by decide),
    h.parts .grants (by decide),
    h.parts .band (by decide),
    h.parts .power (by decide),
    h.parts .lanes (by decide),
    h.parts .hier (by decide),
    h.parts .time (by decide),
    h.parts .dl (by decide),
    h.parts .ul (by decide),
    h.parts .tbl (by decide),
    h.parts .rf (by decide),
    h.parts .clk (by decide),
    h.parts .dpd (by decide),
    h.parts .cal (by decide),
    h.parts .dma (by decide),
    h.parts .hk (by decide),
    h.parts .sec (by decide),
    h.parts .start (by decide),
    h.parts .past (by decide),
    by simp only [State.time_, now, base],
    h.objs (by decide),
    fun i j => by simp only [State.a, act],
    fun T i j => by simp only [State.at_, State.a, act, com, past],
    h.parts .mem (by decide)⟩

@[simp] theorem State.record_alarms (s : State) (a b c : Nat) : (s.record a b c).alarms = s.alarms :=
  (Frame.record (ps := [.log, .ports]) (ks := logKeys) Frame.refl (by decide) (by decide) (List.Subset.refl _)).parts .alarms (by decide)

/-- A raise leaves exactly its own instance raised beside those that were. -/
theorem State.raised_raise (s : State) (c d c' d' : Nat) :
    (s.raise c d).raised c' d' = if c' = c ∧ d' = d then true else s.raised c' d' := by
  unfold State.raise State.raised
  simp only [State.record_alarms, List.any_append, List.any_cons, List.any_nil, List.any_filter, Bool.or_false]
  induction s.alarms with
  | nil => grind
  | cons a l ih => grind

/-- A clear leaves its own instance cleared, and the others as they were. -/
theorem State.raised_clearAl (s : State) (c d c' d' : Nat) :
    (s.clearAl c d).raised c' d' = if c' = c ∧ d' = d then false else s.raised c' d' := by
  unfold State.clearAl
  split <;> rename_i h
  · unfold State.raised
    simp only [State.record_alarms, List.any_filter]
    induction s.alarms with
    | nil => grind
    | cons a l ih => grind
  · grind

theorem State.raised_alarmIf (s : State) (c d c' d' : Nat) (b : Bool) :
    (s.alarmIf c d b).raised c' d' = if c' = c ∧ d' = d then b else s.raised c' d' := by
  unfold State.alarmIf
  split
  · split
    · grind
    · rw [State.raised_raise]; grind
  · rw [State.raised_clearAl]; grind

/-! ### Answers -/

theorem Frame.answer {r : Req} {a b c : Nat} {d : List Nat} {x : Bool} (h : Frame ps ks w s) (h0 : Part.inService ∈ ps)
    (h1 : Part.lhp ∈ ps) (h2 : Part.ports ∈ ps) : Frame ps ks w (s.answer r a b c d x) := by
  unfold State.answer; dsimp only
  repeat' with_reducible (first
    | assumption | refine List.cons_subset.2 ⟨?_, ?_⟩ | exact List.nil_subset _
    | refine Frame.ite (fun _ => ?_) (fun _ => ?_) | refine Frame.lhpPush ?_ ?_ | refine Frame.send ?_ ?_
    | refine Frame.inService ?_ ?_)

theorem Frame.renew {r : Req} (h : Frame ps ks w s) (h0 : Part.locks ∈ ps) : Frame ps ks w (s.renew r) := by
  unfold State.renew
  repeat' with_reducible (first
    | assumption | refine List.cons_subset.2 ⟨?_, ?_⟩ | exact List.nil_subset _
    | refine Frame.ite (fun _ => ?_) (fun _ => ?_) | refine Frame.setLock ?_ ?_)

@[simp] theorem State.answer_keeps (s : State) (r : Req) (a b c : Nat) (d : List Nat) (x : Bool) :
    (s.answer r a b c d x).now = s.now ∧ (s.answer r a b c d x).timeBase = s.timeBase ∧
    (s.answer r a b c d x).pending = s.pending ∧ (s.answer r a b c d x).act = s.act ∧ (s.answer r a b c d x).held = s.held ∧
    (s.answer r a b c d x).free = s.free ∧ (s.answer r a b c d x).alarms = s.alarms ∧ (s.answer r a b c d x).log = s.log ∧
    (s.answer r a b c d x).slotAlarms = s.slotAlarms ∧ (s.answer r a b c d x).clears = s.clears ∧
    (s.answer r a b c d x).stage = s.stage ∧ (s.answer r a b c d x).commits = s.commits ∧
    (s.answer r a b c d x).locks = s.locks ∧ (s.answer r a b c d x).cpAbsent = s.cpAbsent ∧
    (s.answer r a b c d x).cpLost = s.cpLost ∧ (s.answer r a b c d x).mq = s.mq ∧ (s.answer r a b c d x).mTags = s.mTags ∧
    (s.answer r a b c d x).swp = s.swp ∧ (s.answer r a b c d x).grants = s.grants ∧ (s.answer r a b c d x).band = s.band ∧
    (s.answer r a b c d x).power = s.power ∧ (s.answer r a b c d x).lanes = s.lanes ∧ (s.answer r a b c d x).hier = s.hier ∧
    (s.answer r a b c d x).time = s.time ∧ (s.answer r a b c d x).dl = s.dl ∧ (s.answer r a b c d x).ul = s.ul ∧
    (s.answer r a b c d x).tbl = s.tbl ∧ (s.answer r a b c d x).rf = s.rf ∧ (s.answer r a b c d x).clk = s.clk ∧
    (s.answer r a b c d x).dpd = s.dpd ∧ (s.answer r a b c d x).cal = s.cal ∧ (s.answer r a b c d x).dma = s.dma ∧
    (s.answer r a b c d x).hk = s.hk ∧ (s.answer r a b c d x).sec = s.sec ∧ (s.answer r a b c d x).start = s.start ∧
    (s.answer r a b c d x).past = s.past ∧
    (s.answer r a b c d x).time_ = s.time_ ∧ (∀ i' j', (s.answer r a b c d x).o i' j' = s.o i' j') ∧
    (∀ i' j', (s.answer r a b c d x).a i' j' = s.a i' j') ∧ (∀ T' i' j', (s.answer r a b c d x).at_ T' i' j' = s.at_ T' i' j') ∧
    (∀ a', (s.answer r a b c d x).rd8 a' = s.rd8 a') := by
  have h : Frame [.inService, .lhp, .ports] [] s (s.answer r a b c d x) := Frame.answer Frame.refl (by decide) (by decide) (by decide)
  have now := h.parts .now (by decide)
  have base := h.parts .timeBase (by decide)
  simp only [Part.same] at now base
  have act := h.parts .act (by decide)
  simp only [Part.same] at act
  have com := h.parts .commits (by decide)
  have past := h.parts .past (by decide)
  simp only [Part.same] at com past
  exact ⟨h.parts .now (by decide),
    h.parts .timeBase (by decide),
    h.parts .pending (by decide),
    h.parts .act (by decide),
    h.parts .held (by decide),
    h.parts .free (by decide),
    h.parts .alarms (by decide),
    h.parts .log (by decide),
    h.parts .slotAlarms (by decide),
    h.parts .clears (by decide),
    h.parts .stage (by decide),
    h.parts .commits (by decide),
    h.parts .locks (by decide),
    h.parts .cpAbsent (by decide),
    h.parts .cpLost (by decide),
    h.parts .mq (by decide),
    h.parts .mTags (by decide),
    h.parts .swp (by decide),
    h.parts .grants (by decide),
    h.parts .band (by decide),
    h.parts .power (by decide),
    h.parts .lanes (by decide),
    h.parts .hier (by decide),
    h.parts .time (by decide),
    h.parts .dl (by decide),
    h.parts .ul (by decide),
    h.parts .tbl (by decide),
    h.parts .rf (by decide),
    h.parts .clk (by decide),
    h.parts .dpd (by decide),
    h.parts .cal (by decide),
    h.parts .dma (by decide),
    h.parts .hk (by decide),
    h.parts .sec (by decide),
    h.parts .start (by decide),
    h.parts .past (by decide),
    by simp only [State.time_, now, base],
    fun i j => h.objs (by decide) i j (by simp),
    fun i j => by simp only [State.a, act],
    fun T i j => by simp only [State.at_, State.a, act, com, past],
    h.parts .mem (by decide)⟩

@[simp] theorem State.renew_keeps (s : State) (r : Req) :
    (s.renew r).now = s.now ∧ (s.renew r).timeBase = s.timeBase ∧ (s.renew r).pending = s.pending ∧ (s.renew r).act = s.act ∧
    (s.renew r).held = s.held ∧ (s.renew r).free = s.free ∧ (s.renew r).alarms = s.alarms ∧ (s.renew r).log = s.log ∧
    (s.renew r).slotAlarms = s.slotAlarms ∧ (s.renew r).clears = s.clears ∧ (s.renew r).stage = s.stage ∧
    (s.renew r).commits = s.commits ∧ (s.renew r).cpAbsent = s.cpAbsent ∧ (s.renew r).cpLost = s.cpLost ∧ (s.renew r).mq = s.mq ∧
    (s.renew r).inService = s.inService ∧ (s.renew r).mTags = s.mTags ∧ (s.renew r).lhp = s.lhp ∧ (s.renew r).swp = s.swp ∧
    (s.renew r).grants = s.grants ∧ (s.renew r).band = s.band ∧ (s.renew r).power = s.power ∧ (s.renew r).ports = s.ports ∧
    (s.renew r).lanes = s.lanes ∧ (s.renew r).hier = s.hier ∧ (s.renew r).time = s.time ∧ (s.renew r).dl = s.dl ∧
    (s.renew r).ul = s.ul ∧ (s.renew r).tbl = s.tbl ∧ (s.renew r).rf = s.rf ∧ (s.renew r).clk = s.clk ∧ (s.renew r).dpd = s.dpd ∧
    (s.renew r).cal = s.cal ∧ (s.renew r).dma = s.dma ∧ (s.renew r).hk = s.hk ∧ (s.renew r).sec = s.sec ∧
    (s.renew r).start = s.start ∧ (s.renew r).past = s.past ∧ (s.renew r).time_ = s.time_ ∧ (∀ i' j', (s.renew r).o i' j' = s.o i' j') ∧
    (∀ i' j', (s.renew r).a i' j' = s.a i' j') ∧ (∀ T' i' j', (s.renew r).at_ T' i' j' = s.at_ T' i' j') ∧
    (∀ a', (s.renew r).rd8 a' = s.rd8 a') := by
  have h : Frame [.locks] [] s (s.renew r) := Frame.renew Frame.refl (by decide)
  have now := h.parts .now (by decide)
  have base := h.parts .timeBase (by decide)
  simp only [Part.same] at now base
  have act := h.parts .act (by decide)
  simp only [Part.same] at act
  have com := h.parts .commits (by decide)
  have past := h.parts .past (by decide)
  simp only [Part.same] at com past
  exact ⟨h.parts .now (by decide),
    h.parts .timeBase (by decide),
    h.parts .pending (by decide),
    h.parts .act (by decide),
    h.parts .held (by decide),
    h.parts .free (by decide),
    h.parts .alarms (by decide),
    h.parts .log (by decide),
    h.parts .slotAlarms (by decide),
    h.parts .clears (by decide),
    h.parts .stage (by decide),
    h.parts .commits (by decide),
    h.parts .cpAbsent (by decide),
    h.parts .cpLost (by decide),
    h.parts .mq (by decide),
    h.parts .inService (by decide),
    h.parts .mTags (by decide),
    h.parts .lhp (by decide),
    h.parts .swp (by decide),
    h.parts .grants (by decide),
    h.parts .band (by decide),
    h.parts .power (by decide),
    h.parts .ports (by decide),
    h.parts .lanes (by decide),
    h.parts .hier (by decide),
    h.parts .time (by decide),
    h.parts .dl (by decide),
    h.parts .ul (by decide),
    h.parts .tbl (by decide),
    h.parts .rf (by decide),
    h.parts .clk (by decide),
    h.parts .dpd (by decide),
    h.parts .cal (by decide),
    h.parts .dma (by decide),
    h.parts .hk (by decide),
    h.parts .sec (by decide),
    h.parts .start (by decide),
    h.parts .past (by decide),
    by simp only [State.time_, now, base],
    fun i j => h.objs (by decide) i j (by simp),
    fun i j => by simp only [State.a, act],
    fun T i j => by simp only [State.at_, State.a, act, com, past],
    h.parts .mem (by decide)⟩

/-! ### Credit -/

theorem Frame.ask {k : GKind} {n : Nat} {c : List Nat} {d : Nat} (h : Frame ps ks w s) (h0 : Part.grants ∈ ps)
    (h1 : Part.rf ∈ ps) (hk : key 0x5005 (d + 1) ∈ ks) : Frame ps ks w (s.ask k n c d).2 := by
  unfold State.ask
  split
  · exact h.book h0 h1
  · exact Frame.bump (n := 1) h (.inl hk)

theorem Frame.exitsDone (h : Frame ps ks w s) (h0 : Part.grants ∈ ps) (h1 : Part.rf ∈ ps) : Frame ps ks w s.exitsDone := by
  unfold State.exitsDone
  exact Frame.foldl _ _ (fun _ _ _ g => g.book h0 h1) h

theorem State.upTo_keeps (s : State) (t : Tick) :
    (s.upTo t).timeBase = s.timeBase ∧ (s.upTo t).act = s.act ∧ (s.upTo t).held = s.held ∧ (s.upTo t).free = s.free ∧
    (s.upTo t).alarms = s.alarms ∧ (s.upTo t).log = s.log ∧ (s.upTo t).slotAlarms = s.slotAlarms ∧ (s.upTo t).clears = s.clears ∧
    (s.upTo t).stage = s.stage ∧ (s.upTo t).commits = s.commits ∧ (s.upTo t).locks = s.locks ∧ (s.upTo t).cpAbsent = s.cpAbsent ∧
    (s.upTo t).cpLost = s.cpLost ∧ (s.upTo t).mq = s.mq ∧ (s.upTo t).inService = s.inService ∧ (s.upTo t).mTags = s.mTags ∧
    (s.upTo t).lhp = s.lhp ∧ (s.upTo t).swp = s.swp ∧ (s.upTo t).band = s.band ∧ (s.upTo t).power = s.power ∧
    (s.upTo t).ports = s.ports ∧ (s.upTo t).lanes = s.lanes ∧ (s.upTo t).hier = s.hier ∧ (s.upTo t).time = s.time ∧
    (s.upTo t).dl = s.dl ∧ (s.upTo t).ul = s.ul ∧ (s.upTo t).tbl = s.tbl ∧ (s.upTo t).clk = s.clk ∧ (s.upTo t).dpd = s.dpd ∧
    (s.upTo t).cal = s.cal ∧ (s.upTo t).dma = s.dma ∧ (s.upTo t).hk = s.hk ∧ (s.upTo t).sec = s.sec ∧
    (s.upTo t).start = s.start ∧ (s.upTo t).past = s.past ∧ (∀ i' j', (s.upTo t).o i' j' = s.o i' j') ∧
    (∀ i' j', (s.upTo t).a i' j' = s.a i' j') ∧
    (∀ T' i' j', (s.upTo t).at_ T' i' j' = s.at_ T' i' j') ∧ (∀ a', (s.upTo t).rd8 a' = s.rd8 a') := by
  have h : Frame [.grants, .rf] [] ({ s with now := max s.now t } : State) (s.upTo t) :=
    Frame.exitsDone Frame.refl (by decide) (by decide)
  have act := h.parts .act (by decide)
  have com := h.parts .commits (by decide)
  have past := h.parts .past (by decide)
  simp only [Part.same] at act com past
  exact ⟨h.parts .timeBase (by decide),
    h.parts .act (by decide),
    h.parts .held (by decide),
    h.parts .free (by decide),
    h.parts .alarms (by decide),
    h.parts .log (by decide),
    h.parts .slotAlarms (by decide),
    h.parts .clears (by decide),
    h.parts .stage (by decide),
    h.parts .commits (by decide),
    h.parts .locks (by decide),
    h.parts .cpAbsent (by decide),
    h.parts .cpLost (by decide),
    h.parts .mq (by decide),
    h.parts .inService (by decide),
    h.parts .mTags (by decide),
    h.parts .lhp (by decide),
    h.parts .swp (by decide),
    h.parts .band (by decide),
    h.parts .power (by decide),
    h.parts .ports (by decide),
    h.parts .lanes (by decide),
    h.parts .hier (by decide),
    h.parts .time (by decide),
    h.parts .dl (by decide),
    h.parts .ul (by decide),
    h.parts .tbl (by decide),
    h.parts .clk (by decide),
    h.parts .dpd (by decide),
    h.parts .cal (by decide),
    h.parts .dma (by decide),
    h.parts .hk (by decide),
    h.parts .sec (by decide),
    h.parts .start (by decide),
    h.parts .past (by decide),
    fun i j => h.objs (by decide) i j (by simp),
    fun i j => by simp only [State.a, act],
    fun T i j => by simp only [State.at_, State.a, act, com, past],
    h.parts .mem (by decide)⟩

/-! ### Requests -/

/-- A write that reaches its object's rule has the rule's effect, and is answered with the status the rule gives. -/
theorem State.writeBy_reaches {s : State} {r : Req} {i j : Nat} {d : List Nat} {v : Nat} (rule : State → Nat → Nat × State)
    (h : Reaches s r i j d v) :
    s.writeBy r i j d rule =
      (rule (s.renew r) v).2.answer r 2 (objWord i j) (rule (s.renew r) v).1 [] := by
  obtain ⟨h1, h2, h3, h4⟩ := h
  simp only [State.writeBy, State.writeLate, h1, h2, h4, if_neg h3, Option.isSome_none, Bool.false_eq_true, if_false]

/-- The same for a rule that may answer later. -/
theorem State.writeLate_reaches {s : State} {r : Req} {i j : Nat} {d : List Nat} {v : Nat}
    (rule : State → Nat → Option Nat × State) (h : Reaches s r i j d v) :
    s.writeLate r i j d rule =
      match rule (s.renew r) v with
      | (some st, u) => u.answer r 2 (objWord i j) st []
      | (none, u) => u := by
  obtain ⟨h1, h2, h3, h4⟩ := h
  simp only [State.writeLate, h1, h2, h4, if_neg h3, Option.isSome_none, Bool.false_eq_true, if_false] <;>
    (rcases rule (s.renew r) v with ⟨a | a, b⟩ <;> rfl)

end Sys2Proof.Machine
end

