-- ==== Sys2Proof/Laws/Time.lean ====
section
/-!
SUPPORT. What the operations of chapter 12 write.
-/

namespace Sys2Proof.Machine

variable {ps : List Part} {ks : List Nat} {w s : State}

theorem Frame.setY {v : Int} (h : Frame ps ks w s) (hp : [.time] ⊆ ps) (hk : [key 0x1200 0x0F] ⊆ ks) :
    Frame ps ks w (s.setY v) := by
  unfold State.setY; dsimp only
  repeat' (first
    | with_reducible (first
      | assumption | refine List.cons_subset.2 ⟨?_, ?_⟩ | exact List.nil_subset _
      | refine Frame.ite (fun _ => ?_) (fun _ => ?_) | refine Frame.setoi ?_ (.inl ?_) | refine Frame.time ?_ ?_)
    | exact hp (by decide) | exact hk (by simp)
    | exact fun _ hh => hp (by simp [hh])
    | exact fun _ hh => hk (by simp [hh]))

theorem Frame.stepTo {T : Int} (h : Frame ps ks w s) (hp : [.timeBase, .commits, .time] ⊆ ps) (hk : [key 0x1204 1] ⊆ ks) :
    Frame ps ks w (s.stepTo T) := by
  unfold State.stepTo
  have h1 : Frame ps ks w { s with timeBase := T - (s.now : Int), time := { s.time with stepped := some (s.now, s.timeBase) } } :=
    Frame.time (s := { s with timeBase := T - (s.now : Int) }) (Frame.timeBase h (hp (by decide))) (hp (by decide))
  exact Frame.time (Frame.bump (Frame.commits h1 (hp (by decide))) (.inl (hk (by decide)))) (hp (by decide))

theorem Frame.timeUnlock (h : Frame ps ks w s) (hp : .time :: logParts ⊆ ps)
    (hk : key 0x1200 0x0B :: key 0x1204 2 :: logKeys ⊆ ks) : Frame ps ks w s.timeUnlock := by
  unfold State.timeUnlock; dsimp only
  repeat' (first
    | with_reducible (first
      | assumption | refine List.cons_subset.2 ⟨?_, ?_⟩ | exact List.nil_subset _
      | refine Frame.ite (fun _ => ?_) (fun _ => ?_) | refine Frame.raise ?_ ?_ ?_ | refine Frame.bump ?_ (.inl ?_)
      | refine Frame.setTime ?_ (.inl ?_) | refine Frame.time ?_ ?_)
    | exact hp (by decide) | exact hk (by simp)
    | exact fun _ hh => hp (by simp [hh])
    | exact fun _ hh => hk (by simp [hh]))

theorem Frame.wakeSettled (h : Frame ps ks w s) (hp : [.power] ⊆ ps) : Frame ps ks w s.wakeSettled := by
  unfold State.wakeSettled
  repeat' with_reducible (first
    | assumption | refine List.cons_subset.2 ⟨?_, ?_⟩ | exact List.nil_subset _
    | refine Frame.ite (fun _ => ?_) (fun _ => ?_) | refine Frame.power ?_ ?_)
  all_goals exact hp (by decide)

theorem Frame.timeLock (h : Frame ps ks w s) (hp : .time :: .power :: logParts ⊆ ps)
    (hk : key 0x1200 0x0B :: logKeys ⊆ ks) : Frame ps ks w s.timeLock := by
  unfold State.timeLock
  repeat' (first
    | with_reducible (first
      | assumption | refine List.cons_subset.2 ⟨?_, ?_⟩ | exact List.nil_subset _
      | refine Frame.ite (fun _ => ?_) (fun _ => ?_) | refine Frame.wakeSettled ?_ ?_ | refine Frame.clearAl ?_ ?_ ?_
      | refine Frame.setTime ?_ (.inl ?_) | refine Frame.time ?_ ?_)
    | exact hp (by decide) | exact hk (by simp)
    | exact fun _ hh => hp (by simp [hh])
    | exact fun _ hh => hk (by simp [hh]))

theorem Frame.exchMissed (h : Frame ps ks w s) (hp : .time :: logParts ⊆ ps)
    (hk : key 0x1200 0x0B :: key 0x1204 2 :: key 0x1204 3 :: logKeys ⊆ ks) : Frame ps ks w s.exchMissed := by
  unfold State.exchMissed; dsimp only
  repeat' (first
    | with_reducible (first
      | assumption | refine List.cons_subset.2 ⟨?_, ?_⟩ | exact List.nil_subset _
      | refine Frame.ite (fun _ => ?_) (fun _ => ?_) | refine Frame.timeUnlock ?_ ?_ ?_ | refine Frame.bump ?_ (.inl ?_)
      | refine Frame.time ?_ ?_)
    | exact hp (by decide) | exact hk (by simp)
    | exact fun _ hh => hp (by simp)
    | exact fun _ hh => hk (by simp [hh]))

theorem Frame.judgeParent {a b : Bool} (h : Frame ps ks w s) (hp : .time :: logParts ⊆ ps)
    (hk : key 0x1200 0x0B :: key 0x1204 2 :: logKeys ⊆ ks) : Frame ps ks w (s.judgeParent a b) := by
  unfold State.judgeParent; dsimp only
  repeat' (first
    | with_reducible (first
      | assumption | refine List.cons_subset.2 ⟨?_, ?_⟩ | exact List.nil_subset _
      | refine Frame.ite (fun _ => ?_) (fun _ => ?_) | refine Frame.timeUnlock ?_ ?_ ?_ | refine Frame.alarmIf ?_ ?_ ?_
      | refine Frame.setTime ?_ (.inl ?_))
    | exact hp (by decide) | exact hk (by simp)
    | exact fun _ hh => hp (by simp [hh])
    | exact fun _ hh => hk (by simp [hh]))

theorem Frame.sourceLost (h : Frame ps ks w s) (hp : .time :: logParts ⊆ ps)
    (hk : key 0x1200 0x0B :: key 0x1200 0x0F :: key 0x1203 3 :: logKeys ⊆ ks) : Frame ps ks w s.sourceLost := by
  unfold State.sourceLost; dsimp only
  repeat' (first
    | with_reducible (first
      | assumption | refine List.cons_subset.2 ⟨?_, ?_⟩ | exact List.nil_subset _
      | refine Frame.ite (fun _ => ?_) (fun _ => ?_) | refine Frame.setY ?_ ?_ ?_ | refine Frame.setTime ?_ (.inl ?_)
      | refine Frame.raise ?_ ?_ ?_ | refine Frame.seto ?_ (.inl ?_) | refine Frame.time ?_ ?_)
    | exact hp (by decide) | exact hk (by simp)
    | exact fun _ hh => hp (by simp [hh])
    | exact fun _ hh => hk (by simp [hh]))

theorem Frame.sendPtp {p m q : Nat} {l : List Nat} (h : Frame ps ks w s) (hp : [.ports] ⊆ ps) : Frame ps ks w (s.sendPtp p m q l) := by
  unfold State.sendPtp
  exact h.send (hp (by decide))

theorem Frame.nextSeq {p m : Nat} (h : Frame ps ks w s) (hp : [.time] ⊆ ps) : Frame ps ks w (s.nextSeq p m).2 := by
  unfold State.nextSeq; dsimp only
  exact h.time (hp (by decide))

theorem Frame.todErr (h : Frame ps ks w s) (hp : .time :: logParts ⊆ ps) (hk : key 0x1204 5 :: logKeys ⊆ ks) :
    Frame ps ks w s.todErr := by
  unfold State.todErr; dsimp only
  repeat' (first
    | with_reducible (first
      | assumption | refine List.cons_subset.2 ⟨?_, ?_⟩ | exact List.nil_subset _
      | refine Frame.ite (fun _ => ?_) (fun _ => ?_) | refine Frame.raise ?_ ?_ ?_ | refine Frame.bump ?_ (.inl ?_)
      | refine Frame.time ?_ ?_)
    | exact hp (by decide) | exact hk (by simp)
    | exact fun _ hh => hp (by simp [hh])
    | exact fun _ hh => hk (by simp [hh]))

end Sys2Proof.Machine
end

