-- ==== Sys2Proof/WellFormed.lean ====
section
/-!
DEFINITION. Which commands are well formed: every operand lies in the range of the thing it names. The meanings do not rest on it;
an operand outside its range names nothing, and the command then changes nothing or is refused.
-/

namespace Sys2Proof

/-- Bytes. -/
def bytesOk (l : List Nat) : Bool := l.all (fun b => decide (b < 256))

/-- Symbols of a lane: data bytes, and K symbols as 256 more than their code. -/
def symsOk (l : List Nat) : Bool := l.all (fun b => decide (b < 512))

/-- A requester (Tables 14-6 and 14-22, R254). -/
def Req.wf (r : Req) : Bool :=
  decide (r.kind < 4) && decide (r.id < 2 ^ 18) && decide (r.port < 3) && decide (r.tag < 128) && decide (r.prio < 4)

/-- A packet whose fields fit the header of Tables 10-5 to 10-8. -/
def Pkt.wf (p : Pkt) : Bool :=
  decide (p.dest < 2 ^ 18) && decide (p.cls < 6) && decide (p.prio < 4) && decide (p.src < 2 ^ 18) && decide (p.stream < 65536) &&
  decide (p.seq < 65536) && decide (p.payload.length % 4 = 0) && decide (p.payload.length ≤ 8192) && bytesOk p.payload

/-- A ledger request of a place of R19, for a domain, over the eight rails of R17. -/
def LedReq.wf (q : LedReq) : Bool := decide (2 ≤ q.cls) && decide (q.cls ≤ 7) && decide (q.dom < 22) && decide (q.cost.length = 8)

/-- A well-formed command. -/
def Instr.wf : Instr → Bool
  | .slotBoundary _ scs _ => decide (scs < 2)
  | .symbolBoundary _ scs _ sym => decide (scs < 2) && decide (sym < 14)
  | .frameBoundary _ => true
  | .commitActivation _ => true
  | .cpAbsentTimeout _ => true
  | .controlRestartDone _ => true
  | .ledgerRequest _ reqs => reqs.all LedReq.wf
  | .ledgerRetry _ => true
  | .dlPacketArrival _ p => p.wf
  | .sectionArrival _ p => p.wf
  | .cWindowClose _ car _ sym => decide (car < 4) && decide (sym < 14)
  | .beamformDone _ car _ sym lo hi => decide (car < 4) && decide (sym < 14) && decide (lo < 273) && decide (hi < 273)
  | .fastPathRecomputeStart _ => true
  | .fastPathRecomputeDone _ => true
  | .touchstone _ scs _ sym => decide (scs < 2) && decide (sym < 14)
  | .ulSymbolEnd _ _ adc => adc.all (fun x => decide (x.1 < 96))
  | .ulPacketDepart _ _ _ => true
  | .ulChildPacketArrival _ port p => decide (port < 3) && p.wf
  | .ulCutoff _ _ _ => true
  | .stageOpen _ r dir v => r.wf && decide (dir < 2) && decide (v < 256 ^ 1)
  | .stageFillDone _ dir => decide (dir < 2)
  | .stageSwapRelease _ dir => decide (dir < 2)
  | .bankMarkValid _ r dir v => r.wf && decide (dir < 2) && decide (v < 256 ^ 1)
  | .schedClone _ r dir v => r.wf && decide (dir < 2) && decide (v < 256 ^ 1)
  | .schedCloneDone _ dir => decide (dir < 2)
  | .suppressionEnd _ => true
  | .txAttenWrite _ r path v => r.wf && decide (path < 96) && decide (v < 256 ^ 1)
  | .rxAttenWrite _ r path v => r.wf && decide (path < 96) && decide (v < 256 ^ 1)
  | .txEntry _ lo _ sym => decide (lo < 4) && decide (sym < 14)
  | .txExit _ lo _ sym => decide (lo < 4) && decide (sym < 14)
  | .rxEntry _ lo _ sym => decide (lo < 4) && decide (sym < 14)
  | .rxExit _ lo _ sym => decide (lo < 4) && decide (sym < 14)
  | .gbFaultClear _ r path v => r.wf && decide (path < 96) && decide (v < 256 ^ 1)
  | .cxRequest _ n => decide (n < 96)
  | .cxTxRequest _ => true
  | .cxGrantSeen _ => true
  | .cxGuardExpiry _ => true
  | .cxInjectionEnd _ => true
  | .cxgntDeassert _ => true
  | .cxWaitTimeout _ => true
  | .cxLeaseExpiry _ => true
  | .refAccept _ _ => true
  | .refLost _ => true
  | .refRestore _ => true
  | .clkPllUnlock _ n => n == 2 || n == 3 || n == 5
  | .clkPllRelock _ n => n == 2 || n == 3 || n == 5
  | .datapathPllUnlock _ n => decide (n < 6)
  | .datapathPllRelock _ n => decide (n < 6)
  | .loCountWindow _ lo _ => decide (lo < 4)
  | .loCycleSlip _ lo => decide (lo < 4)
  | .loLoadNow _ r lo v => r.wf && decide (lo < 4) && decide (v < 256 ^ 1)
  | .loPhaseStep _ r lo v => r.wf && decide (lo < 4) && decide (v < 256 ^ 2)
  | .loHandoverStart _ x sp => decide (x < 4) && decide (sp < 4)
  | .loHandoverArmed _ => true
  | .dpdAttemptStart _ => true
  | .dpdCaptureDone _ x _ _ => decide (x < 8)
  | .dpdSolveDone _ path _ _ _ => decide (path < 96)
  | .dpdPeriodLate _ path => decide (path < 96)
  | .dpdStaleAgeExpiry _ path => decide (path < 96)
  | .orxRequest _ x who want => decide (x < 8) && decide (who < 14) && decide (want.code < 16) && decide (want.lo < 4)
  | .orxGrant _ x => decide (x < 8)
  | .orxSettleDone _ x => decide (x < 8)
  | .orxDrop _ x => decide (x < 8)
  | .orxWithdraw _ x => decide (x < 8)
  | .orxBurstLimitExpiry _ x => decide (x < 8)
  | .orxLeaseExpiry _ x => decide (x < 8)
  | .orxPrivWdExpiry _ x => decide (x < 8)
  | .dcEccError _ core _ => decide (core < 24)
  | .chfPendingTimeout _ => true
  | .ulChfPendingTimeout _ => true
  | .rextMeasure _ _ => true
  | .startCalStepDone _ _ => true
  | .assayDone _ path chain => decide (path < 96) && decide (chain < 2)
  | .assayResultReady _ path assay _ => decide (path < 96) && decide (assay < 8)
  | .calStoreWrite _ => true
  | .calBenchNow _ r v => r.wf && decide (v < 256 ^ 1)
  | .calOverdueExpiry _ path => decide (path < 96)
  | .ageMeasure _ _ => true
  | .ageHourly _ => true
  | .avsStep _ => true
  | .paGainDaily _ => true
  | .portDetect _ p => decide (p < 3)
  | .laneTrainDone _ p x res => decide (p < 3) && decide (x < 8) && decide (res < 3)
  | .portAlignDone _ p => decide (p < 3)
  | .lmgTs1 _ p x _ m => decide (p < 3) && decide (x < 8) && bytesOk m
  | .lmgTs2 _ p x m => decide (p < 3) && decide (x < 8) && bytesOk m
  | .portRateDone _ p => decide (p < 3)
  | .portTrainTimeout _ p => decide (p < 3)
  | .lmgDropReq _ p m => decide (p < 3) && bytesOk m
  | .lmgDropAck _ p m => decide (p < 3) && bytesOk m
  | .lmgRestoreReq _ p m => decide (p < 3) && bytesOk m
  | .lmgRestoreAck _ p m => decide (p < 3) && bytesOk m
  | .lmgReset _ p m => decide (p < 3) && bytesOk m
  | .lmgReqRepeat _ p => decide (p < 3)
  | .laneLost _ p x reason => decide (p < 3) && decide (x < 8) && decide (reason < 256)
  | .laneRestoreReady _ p x => decide (p < 3) && decide (x < 8)
  | .epmSend _ => true
  | .epmReceive _ p n => decide (p < 3) && decide (n < 2 ^ 32)
  | .packetReceive _ p l _ _ => decide (p < 3) && symsOk l
  | .egressPacketStart _ p => decide (p < 3)
  | .fcXoffReceive _ p c st => decide (p < 3) && decide (c < 256) && decide (st < 256)
  | .fcXonReceive _ p c st => decide (p < 3) && decide (c < 256) && decide (st < 256)
  | .fcXoffRefresh _ p k => decide (p < 3) && decide (k < 3)
  | .fcHoldTimeout _ p k => decide (p < 3) && decide (k < 3)
  | .fcStallExpiry _ p k => decide (p < 3) && decide (k < 3)
  | .fluReceive _ p c stream _ => decide (p < 3) && decide (c < 256) && decide (stream < 65536)
  | .flushApply _ p => decide (p < 3)
  | .fwdWindowDiscard _ p => decide (p < 3)
  | .mRequestDispatch _ => true
  | .objRead _ r i sub => r.wf && decide (i < 65536) && decide (sub < 256)
  | .objWrite _ r i sub data => r.wf && decide (i < 65536) && decide (sub < 256) && bytesOk data
  | .memRead _ r addr count => r.wf && decide (addr < 2 ^ 32) && decide (count < 16384)
  | .memWrite _ r addr data => r.wf && decide (addr < 2 ^ 32) && bytesOk data
  | .mResponseReceive _ p k => decide (p < 3) && k.wf
  | .mTimeout _ tag => decide (tag < 128)
  | .proxyForward _ p => decide (p < 3)
  | .proxyTimeout _ p src tag => decide (p < 3) && decide (src < 2 ^ 18) && decide (tag < 128)
  | .laneTrendUpdate _ _ => true
  | .laneLos _ i _ => decide (i < 24)
  | .laneLossOfLock _ i => decide (i < 24)
  | .portDeepEnter _ p => decide (p < 3)
  | .laneWakeDetect _ p kind => decide (p < 3) && decide (kind < 3)
  | .laneDeepExitDone _ p => decide (p < 3)
  | .laneTest _ r i v => r.wf && decide (i < 24) && decide (v < 256 ^ 4)
  | .laneInject _ r i v => r.wf && decide (i < 24) && decide (v < 256 ^ 1)
  | .lanePresets _ r v => r.wf && decide (v < 256 ^ 256)
  | .syncSend _ p => decide (p < 3)
  | .syncReceive _ l _ => bytesOk l
  | .followUpReceive _ l => bytesOk l
  | .delayReqSend _ => true
  | .delayReqReceive _ p l _ => decide (p < 3) && bytesOk l
  | .delayRespReceive _ l => bytesOk l
  | .announceSend _ => true
  | .announceReceive _ l => bytesOk l
  | .exchangeTimeout _ => true
  | .ppsEdge _ _ _ => true
  | .todFrame _ l => bytesOk l
  | .rootSourceLoss _ => true
  | .holdoverExpiry _ => true
  | .timeSet _ r v => r.wf && decide (v < 256 ^ 12)
  | .timeSetReacquire _ => true
  | .tpoEdge _ n => decide (n < 4)
  | .tciEdge _ n _ => decide (n < 2)
  | .tciStamp _ r n => r.wf && decide (n < 2)
  | .timeAlarm _ r n v => r.wf && decide (n < 4) && decide (v < 256 ^ 12)
  | .talarm _ n => decide (n < 4)
  | .addrAssign _ p => decide (p < 3)
  | .nodeAddrWrite _ r _ v => r.wf && decide (v < 256 ^ 4)
  | .summarySend _ => true
  | .summaryReceive _ p l => decide (p < 3) && bytesOk l
  | .alarmRecordReceive _ p code l => decide (p < 3) && decide (code < 65536) && bytesOk l
  | .stagedWrite _ r i sub _ => r.wf && decide (i < 65536) && decide (sub < 256)
  | .stageDiscard _ r v => r.wf && decide (v < 256 ^ 1)
  | .commit _ r w => r.wf && decide (w < 2 ^ 32)
  | .stageLeaseExpiry _ => true
  | .immediateSetWrite _ r i sub _ => r.wf && decide (i < 65536) && decide (sub < 256)
  | .lockLeaseExpiry _ n => decide (n < 28)
  | .alarmHoldExpiry _ code _ => decide (code < 65536)
  | .logRead _ r => r.wf
  | .logClear _ r v => r.wf && decide (v < 256 ^ 1)
  | .counterClear _ r i v => r.wf && decide (i < 65536) && decide (v < 256)
  | .lhpTransactionStart _ _ => true
  | .lhpFrameReceive _ l => bytesOk l
  | .lhpFrameAbandon _ => true
  | .lhpResponseSent _ => true
  | .swpRefresh _ => true
  | .swpHwRefresh _ => true
  | .chClaim _ r n => r.wf && decide (n < 16)
  | .chRelease _ r n => r.wf && decide (n < 16)
  | .chStart _ r n v => r.wf && decide (n < 16) && decide (v < 256 ^ 4)
  | .chDoorbell _ r n v => r.wf && decide (n < 16) && decide (v < 256 ^ 1)
  | .chStop _ r n v => r.wf && decide (n < 16) && decide (v < 256 ^ 1)
  | .chTrig _ r n v => r.wf && decide (n < 16) && decide (v < 256 ^ 1)
  | .dmaTrigger _ n => decide (n < 16)
  | .dmaCopy _ n => decide (n < 16)
  | .dmaFill _ n => decide (n < 16)
  | .dmaCompare _ n => decide (n < 16)
  | .dmaBurst _ => true
  | .capArm _ r b v => r.wf && decide (b < 4) && decide (v < 256 ^ 1)
  | .captureComplete _ b _ => decide (b < 4)
  | .scrubRead _ addr err => decide (addr < 2 ^ 32) && decide (err < 3)
  | .powerReq _ r v => r.wf && decide (v < 256 ^ 1)
  | .domainReqDown _ r d => r.wf && decide (d < 22)
  | .domainReqUp _ r d => r.wf && decide (d < 22)
  | .domainAnswer _ d => decide (d < 22)
  | .domainAnswerTimeout _ d => decide (d < 22)
  | .domainPowerDown _ d => decide (d < 22)
  | .wakePin _ => true
  | .wakeStepDone _ _ => true
  | .firstAccessWake _ d => decide (d < 22)
  | .wakeStallTimeout _ d => decide (d < 22)
  | .ledgerCapWrite _ r rail v => r.wf && decide (rail < 8) && decide (v < 256 ^ 2)
  | .napGate _ => true
  | .napBias _ => true
  | .hkRoundStart _ => true
  | .hkConversion _ code => decide (code < 4096)
  | .hkRefReady _ => true
  | .hkOneshot _ r v => r.wf && decide (v < 256 ^ 2)
  | .bandJudge _ => true
  | .vswrCal _ x _ => decide (x < 8)
  | .rflTrip _ path => decide (path < 96)
  | .rflRetryClear _ path => decide (path < 96)
  | .auxCode _ r x v => r.wf && decide (x < 32) && decide (v < 256 ^ 2)
  | .deglitchHoldEnd _ x => decide (x < 32)
  | .auxCompliance _ x _ => decide (x < 32)
  | .gbFaultDetect _ path cause _ => decide (path < 96) && decide (cause < 5)
  | .fwVerify _ r v => r.wf && decide (v < 256 ^ 1)
  | .fwVerifyDone _ => true
  | .fwConfirm _ r v => r.wf && decide (v < 256 ^ 1)
  | .fwTrialExpiry _ => true
  | .otpFuseBlow _ _ => true
  | .watchdogExpiry _ => true
  | .bootCandidateDone _ _ _ bundle => bytesOk bundle
  | .sessionChallenge _ r => r.wf
  | .challengeExpiry _ => true
  | .sessionRespRsa _ r v => r.wf && decide (v < 256 ^ 384)
  | .sessionRespSlh _ r v => r.wf && decide (v < 256 ^ 7856)
  | .sessionOpen _ r slot => r.wf && decide (slot < 256)
  | .sessionClose _ r v => r.wf && decide (v < 256 ^ 1)
  | .sessionLockoutEnd _ => true
  | .credKeys _ r n v => r.wf && decide (n < 8) && decide (v < 256 ^ 416)
  | .credRevoke _ r n => r.wf && decide (n < 256)
  | .attestReq _ r nonce => r.wf && decide (nonce < 2 ^ 256)
  | .attestRsaDone _ => true
  | .attestSlhDone _ => true
  | .railGood _ rail => decide (rail < 8)
  | .railBad _ rail => decide (rail < 8)
  | .resetHoldExpiry _ role src _ => decide (role < 4) && decide (src < 4)
  | .resetNAssert _ => true
  | .resetNRelease _ role src _ => decide (role < 4) && decide (src < 4)
  | .resetReqPin _ r => r.wf
  | .resetReqRestart _ r => r.wf
  | .resetReqDomain _ r d => r.wf && decide (d < 256)
  | .childReset _ r n v => r.wf && decide (n < 2) && decide (v < 256 ^ 2)
  | .flashMirrorWrite _ => true
  | .vidStep _ => true
  | .unlockAlarmClear _ i => decide (i < 10)
  | .domainReady _ d => decide (d.dom < 22) && d.bad.all (fun b => decide (b < 8))
  | .standbyReached _ lo => decide (lo < 4)
  | .startupStepDone _ _ => true
  | .refSlewDone _ => true
  | .timeMissExpiry _ => true
  | .prbsCheckerSync _ i _ _ _ => decide (i < 24)
  | .hierarchyAlarmClear _ p => decide (p < 3)

end Sys2Proof
end

