-- ==== Sys2Proof/Tests/Slice0.lean ====
section
/-!
SUPPORT. Tests: ill-formed terms that `Instr.wf` refuses, small facts of one command or one operation with results from the spec, and
for each clause of each statement a state and operands that meet all its hypotheses together.
-/

namespace Sys2Proof.Machine

/-! ### The states that the tests use -/

/-- A state with object values and values in force. -/
def zz (b : State) (o a : List (Nat × Nat × Nat)) : State :=
  a.foldl (fun s x => s.seta x.1 x.2.1 x.2.2) (o.foldl (fun s x => s.seto x.1 x.2.1 x.2.2) b)

/-- A running device whose control processor answers. -/
def z (o a : List (Nat × Nat × Nat)) : State := zz { State.reset with cpAbsent := none, start := { Start.init with step := 9 } } o a

/-- The same, with reset released. -/
def z0 (o a : List (Nat × Nat × Nat)) : State := { z o a with start.held := 0 }

/-- A firmware task, a remote node, and the LHP. -/
def rq : Req := ⟨1, 1, 0, 0, 0, false⟩
def rr : Req := ⟨2, 9, 0, 3, 1, false⟩
def rl : Req := ⟨3, 0, 0, 5, 1, false⟩

/-- The bytes of a packet on the wire. -/
def wpkt (k : Pkt) : List Nat :=
  let h := bytesBE 4 (k.dest * 2 ^ 14 + k.cls * 2 ^ 11 + k.prio * 2 ^ 9) ++ bytesBE 4 (k.src * 2 ^ 14 + k.payload.length / 4) ++
    bytesBE 4 (k.stream * 2 ^ 16 + k.seq) ++ [b2n k.prov * 128 + b2n k.spec * 64 + b2n k.resp * 32 + b2n k.replay * 16 + b2n k.first * 8, 0]
  let l := h ++ bytesBE 2 (crc16 h) ++ k.payload
  l ++ bytesBE 4 (crc32 l)


set_option maxRecDepth 4000
set_option Elab.async false
set_option linter.unusedVariables false


/-! ### Well-formedness: what the check refuses -/

theorem test_wf_bytes : bytesOk [0, 255] = true ∧ bytesOk [0, 256] = false := by decide

theorem test_wf_requester : (⟨3, 2 ^ 18 - 1, 2, 127, 3, true⟩ : Req).wf = true ∧
    ∀ r ∈ [(⟨4, 0, 0, 0, 0, false⟩ : Req), ⟨0, 2 ^ 18, 0, 0, 0, false⟩, ⟨0, 0, 3, 0, 0, false⟩, ⟨0, 0, 0, 128, 0, false⟩,
      ⟨0, 0, 0, 0, 4, false⟩], r.wf = false := by decide +kernel

theorem test_wf_packet : (⟨2 ^ 18 - 1, 5, 3, 2 ^ 18 - 1, 65535, 65535, true, true, true, true, true, [0, 1, 2, 255]⟩ : Pkt).wf = true ∧
    ∀ p ∈ [(⟨2 ^ 18, 0, 0, 0, 0, 0, false, false, false, false, false, []⟩ : Pkt),
      ⟨0, 6, 0, 0, 0, 0, false, false, false, false, false, []⟩, ⟨0, 0, 4, 0, 0, 0, false, false, false, false, false, []⟩,
      ⟨0, 0, 0, 2 ^ 18, 0, 0, false, false, false, false, false, []⟩, ⟨0, 0, 0, 0, 65536, 0, false, false, false, false, false, []⟩,
      ⟨0, 0, 0, 0, 0, 65536, false, false, false, false, false, []⟩, ⟨0, 0, 0, 0, 0, 0, false, false, false, false, false, [1]⟩,
      ⟨0, 0, 0, 0, 0, 0, false, false, false, false, false, [256, 0, 0, 0]⟩,
      ⟨0, 0, 0, 0, 0, 0, false, false, false, false, false, List.replicate 8196 0⟩], p.wf = false := by decide +kernel

theorem test_wf_ledger : (⟨2, 21, 0, noCost, false⟩ : LedReq).wf = true ∧
    ∀ q ∈ [(⟨1, 0, 0, noCost, false⟩ : LedReq), ⟨8, 0, 0, noCost, false⟩, ⟨2, 22, 0, noCost, false⟩, ⟨2, 0, 0, [1], false⟩],
      q.wf = false ∧ (Instr.ledgerRequest 0 [q]).wf = false := by decide +kernel

theorem test_wf_adc : (Instr.ulSymbolEnd 0 0 [(95, 3, [])]).wf = true ∧ (Instr.ulSymbolEnd 0 0 [(96, 0, [])]).wf = false := by decide +kernel

theorem test_wf_takes_1 : ∀ i ∈ ([
    .slotBoundary 0 0 0, .symbolBoundary 0 0 0 0, .ledgerRequest 0 [],
      .dlPacketArrival 0 ⟨0, 0, 0, 0, 0, 0, false, false, false, false, false, []⟩,
      .sectionArrival 0 ⟨0, 0, 0, 0, 0, 0, false, false, false, false, false, []⟩, .cWindowClose 0 0 0 0,
      .beamformDone 0 0 0 0 0 0, .touchstone 0 0 0 0,
      .ulChildPacketArrival 0 0 ⟨0, 0, 0, 0, 0, 0, false, false, false, false, false, []⟩,
      .stageOpen 0 ⟨1, 1, 0, 0, 0, false⟩ 0 0, .stageFillDone 0 0, .stageSwapRelease 0 0,
      .bankMarkValid 0 ⟨1, 1, 0, 0, 0, false⟩ 0 0, .schedClone 0 ⟨1, 1, 0, 0, 0, false⟩ 0 0, .schedCloneDone 0 0,
      .txAttenWrite 0 ⟨1, 1, 0, 0, 0, false⟩ 0 0, .rxAttenWrite 0 ⟨1, 1, 0, 0, 0, false⟩ 0 0, .txEntry 0 0 0 0, .txExit 0 0 0 0,
      .rxEntry 0 0 0 0, .rxExit 0 0 0 0, .gbFaultClear 0 ⟨1, 1, 0, 0, 0, false⟩ 0 0, .datapathPllUnlock 0 0,
      .datapathPllRelock 0 0, .loCountWindow 0 0 0, .loCycleSlip 0 0, .loLoadNow 0 ⟨1, 1, 0, 0, 0, false⟩ 0 0,
      .loPhaseStep 0 ⟨1, 1, 0, 0, 0, false⟩ 0 0, .loHandoverStart 0 0 0, .dpdCaptureDone 0 0 [] [], .dpdSolveDone 0 0 0 0 [],
      .dpdPeriodLate 0 0, .dpdStaleAgeExpiry 0 0, .orxRequest 0 0 0 ⟨0, 0⟩, .loHandoverArmed ⟨0, 0⟩, .cxRequest 0 0, .clkPllUnlock 0 2, .clkPllRelock 0 5, .orxGrant 0 0, .orxSettleDone 0 0, .orxDrop 0 0,
      .orxWithdraw 0 0, .orxBurstLimitExpiry 0 0, .orxLeaseExpiry 0 0, .orxPrivWdExpiry 0 0, .dcEccError 0 0 false,
      .assayDone 0 0 0, .assayResultReady 0 0 0 [], .calBenchNow 0 ⟨1, 1, 0, 0, 0, false⟩ 0, .calOverdueExpiry 0 0,
      .portDetect 0 0, .laneTrainDone 0 0 0 0, .portAlignDone 0 0, .lmgTs1 0 0 0 0 []] : List Instr), i.wf = true := by decide +kernel

theorem test_wf_takes_2 : ∀ i ∈ ([
    .lmgTs2 0 0 0 [], .portRateDone 0 0, .portTrainTimeout 0 0, .lmgDropReq 0 0 [], .lmgDropAck 0 0 [], .lmgRestoreReq 0 0 [],
      .lmgRestoreAck 0 0 [], .lmgReset 0 0 [], .lmgReqRepeat 0 0, .laneLost 0 0 0 0, .laneRestoreReady 0 0 0, .epmReceive 0 0 0,
      .packetReceive 0 0 [] false 0, .egressPacketStart 0 0, .fcXoffReceive 0 0 0 0, .fcXonReceive 0 0 0 0, .fcXoffRefresh 0 0 0,
      .fcHoldTimeout 0 0 0, .fcStallExpiry 0 0 0, .fluReceive 0 0 0 0 false, .flushApply 0 0, .fwdWindowDiscard 0 0,
      .objRead 0 ⟨1, 1, 0, 0, 0, false⟩ 0 0, .objWrite 0 ⟨1, 1, 0, 0, 0, false⟩ 0 0 [], .memRead 0 ⟨1, 1, 0, 0, 0, false⟩ 0 0,
      .memWrite 0 ⟨1, 1, 0, 0, 0, false⟩ 0 [], .mResponseReceive 0 0 ⟨0, 0, 0, 0, 0, 0, false, false, false, false, false, []⟩,
      .mTimeout 0 0, .proxyForward 0 0, .proxyTimeout 0 0 0 0, .laneLos 0 0 false, .laneLossOfLock 0 0, .portDeepEnter 0 0,
      .laneWakeDetect 0 0 0, .laneDeepExitDone 0 0, .laneTest 0 ⟨1, 1, 0, 0, 0, false⟩ 0 0,
      .laneInject 0 ⟨1, 1, 0, 0, 0, false⟩ 0 0, .lanePresets 0 ⟨1, 1, 0, 0, 0, false⟩ 0, .syncSend 0 0, .syncReceive 0 [] 0,
      .followUpReceive 0 [], .delayReqReceive 0 0 [] 0, .delayRespReceive 0 [], .announceReceive 0 [], .todFrame 0 [],
      .timeSet 0 ⟨1, 1, 0, 0, 0, false⟩ 0, .tpoEdge 0 0, .tciEdge 0 0 false, .tciStamp 0 ⟨1, 1, 0, 0, 0, false⟩ 0,
      .timeAlarm 0 ⟨1, 1, 0, 0, 0, false⟩ 0 0] : List Instr), i.wf = true := by decide +kernel

theorem test_wf_takes_3 : ∀ i ∈ ([
    .talarm 0 0, .addrAssign 0 0, .nodeAddrWrite 0 ⟨1, 1, 0, 0, 0, false⟩ false 0, .summaryReceive 0 0 [],
      .alarmRecordReceive 0 0 0 [], .stagedWrite 0 ⟨1, 1, 0, 0, 0, false⟩ 0 0 0, .stageDiscard 0 ⟨1, 1, 0, 0, 0, false⟩ 0,
      .commit 0 ⟨1, 1, 0, 0, 0, false⟩ 0, .immediateSetWrite 0 ⟨1, 1, 0, 0, 0, false⟩ 0 0 0, .lockLeaseExpiry 0 0,
      .alarmHoldExpiry 0 0 0, .logRead 0 ⟨1, 1, 0, 0, 0, false⟩, .logClear 0 ⟨1, 1, 0, 0, 0, false⟩ 0,
      .counterClear 0 ⟨1, 1, 0, 0, 0, false⟩ 0 0, .lhpFrameReceive 0 [], .chClaim 0 ⟨1, 1, 0, 0, 0, false⟩ 0,
      .chRelease 0 ⟨1, 1, 0, 0, 0, false⟩ 0, .chStart 0 ⟨1, 1, 0, 0, 0, false⟩ 0 0, .chDoorbell 0 ⟨1, 1, 0, 0, 0, false⟩ 0 0,
      .chStop 0 ⟨1, 1, 0, 0, 0, false⟩ 0 0, .chTrig 0 ⟨1, 1, 0, 0, 0, false⟩ 0 0, .dmaTrigger 0 0, .dmaCopy 0 0, .dmaFill 0 0,
      .dmaCompare 0 0, .capArm 0 ⟨1, 1, 0, 0, 0, false⟩ 0 0, .captureComplete 0 0 false, .scrubRead 0 0 0,
      .powerReq 0 ⟨1, 1, 0, 0, 0, false⟩ 0, .domainReqDown 0 ⟨1, 1, 0, 0, 0, false⟩ 0, .domainReqUp 0 ⟨1, 1, 0, 0, 0, false⟩ 0,
      .domainAnswer 0 0, .domainAnswerTimeout 0 0, .domainPowerDown 0 0, .firstAccessWake 0 0, .wakeStallTimeout 0 0,
      .ledgerCapWrite 0 ⟨1, 1, 0, 0, 0, false⟩ 0 0, .hkConversion 0 0, .hkOneshot 0 ⟨1, 1, 0, 0, 0, false⟩ 0, .vswrCal 0 0 none,
      .rflTrip 0 0, .rflRetryClear 0 0, .auxCode 0 ⟨1, 1, 0, 0, 0, false⟩ 0 0, .deglitchHoldEnd 0 0, .auxCompliance 0 0 false,
      .gbFaultDetect 0 0 0 false, .fwVerify 0 ⟨1, 1, 0, 0, 0, false⟩ 0, .fwConfirm 0 ⟨1, 1, 0, 0, 0, false⟩ 0,
      .bootCandidateDone 0 0 0 [], .sessionChallenge 0 ⟨1, 1, 0, 0, 0, false⟩] : List Instr), i.wf = true := by decide +kernel

theorem test_wf_takes_4 : ∀ i ∈ ([
    .sessionRespRsa 0 ⟨1, 1, 0, 0, 0, false⟩ 0, .sessionRespSlh 0 ⟨1, 1, 0, 0, 0, false⟩ 0,
      .sessionOpen 0 ⟨1, 1, 0, 0, 0, false⟩ 0, .sessionClose 0 ⟨1, 1, 0, 0, 0, false⟩ 0, .credKeys 0 ⟨1, 1, 0, 0, 0, false⟩ 0 0,
      .credRevoke 0 ⟨1, 1, 0, 0, 0, false⟩ 0, .attestReq 0 ⟨1, 1, 0, 0, 0, false⟩ 0, .railGood 0 0, .railBad 0 0,
      .resetHoldExpiry 0 0 0 false, .resetNRelease 0 0 0 false, .resetReqPin 0 ⟨1, 1, 0, 0, 0, false⟩,
      .resetReqRestart 0 ⟨1, 1, 0, 0, 0, false⟩, .resetReqDomain 0 ⟨1, 1, 0, 0, 0, false⟩ 0,
      .childReset 0 ⟨1, 1, 0, 0, 0, false⟩ 0 0, .unlockAlarmClear 0 0, .domainReady 0 ⟨0, []⟩, .standbyReached 0 0,
      .prbsCheckerSync 0 0 false 0 0, .hierarchyAlarmClear 0 0] : List Instr), i.wf = true := by decide +kernel

theorem test_wf_refuses_1 : ∀ i ∈ ([
    .slotBoundary 0 2 0, .symbolBoundary 0 2 0 0, .symbolBoundary 0 0 0 14,
      .dlPacketArrival 0 ⟨2 ^ 18, 0, 0, 0, 0, 0, false, false, false, false, false, []⟩,
      .sectionArrival 0 ⟨2 ^ 18, 0, 0, 0, 0, 0, false, false, false, false, false, []⟩, .cWindowClose 0 4 0 0,
      .cWindowClose 0 0 0 14, .beamformDone 0 4 0 0 0 0, .beamformDone 0 0 0 14 0 0, .beamformDone 0 0 0 0 273 0,
      .beamformDone 0 0 0 0 0 273, .touchstone 0 2 0 0, .touchstone 0 0 0 14,
      .ulChildPacketArrival 0 3 ⟨0, 0, 0, 0, 0, 0, false, false, false, false, false, []⟩,
      .ulChildPacketArrival 0 0 ⟨2 ^ 18, 0, 0, 0, 0, 0, false, false, false, false, false, []⟩,
      .stageOpen 0 ⟨4, 1, 0, 0, 0, false⟩ 0 0, .stageOpen 0 ⟨1, 1, 0, 0, 0, false⟩ 2 0,
      .stageOpen 0 ⟨1, 1, 0, 0, 0, false⟩ 0 (256 ^ 1), .stageFillDone 0 2, .stageSwapRelease 0 2,
      .bankMarkValid 0 ⟨4, 1, 0, 0, 0, false⟩ 0 0, .bankMarkValid 0 ⟨1, 1, 0, 0, 0, false⟩ 2 0,
      .bankMarkValid 0 ⟨1, 1, 0, 0, 0, false⟩ 0 (256 ^ 1), .schedClone 0 ⟨4, 1, 0, 0, 0, false⟩ 0 0,
      .schedClone 0 ⟨1, 1, 0, 0, 0, false⟩ 2 0, .schedClone 0 ⟨1, 1, 0, 0, 0, false⟩ 0 (256 ^ 1), .schedCloneDone 0 2,
      .txAttenWrite 0 ⟨4, 1, 0, 0, 0, false⟩ 0 0, .txAttenWrite 0 ⟨1, 1, 0, 0, 0, false⟩ 96 0,
      .txAttenWrite 0 ⟨1, 1, 0, 0, 0, false⟩ 0 (256 ^ 1), .rxAttenWrite 0 ⟨4, 1, 0, 0, 0, false⟩ 0 0,
      .rxAttenWrite 0 ⟨1, 1, 0, 0, 0, false⟩ 96 0, .rxAttenWrite 0 ⟨1, 1, 0, 0, 0, false⟩ 0 (256 ^ 1), .txEntry 0 4 0 0,
      .txEntry 0 0 0 14, .txExit 0 4 0 0, .txExit 0 0 0 14, .rxEntry 0 4 0 0, .rxEntry 0 0 0 14, .rxExit 0 4 0 0,
      .rxExit 0 0 0 14, .gbFaultClear 0 ⟨4, 1, 0, 0, 0, false⟩ 0 0, .gbFaultClear 0 ⟨1, 1, 0, 0, 0, false⟩ 96 0,
      .gbFaultClear 0 ⟨1, 1, 0, 0, 0, false⟩ 0 (256 ^ 1), .datapathPllUnlock 0 6, .datapathPllRelock 0 6, .loCountWindow 0 4 0,
      .loCycleSlip 0 4, .loLoadNow 0 ⟨4, 1, 0, 0, 0, false⟩ 0 0, .loLoadNow 0 ⟨1, 1, 0, 0, 0, false⟩ 4 0] : List Instr), i.wf = false := by decide +kernel

theorem test_wf_refuses_2 : ∀ i ∈ ([
    .loLoadNow 0 ⟨1, 1, 0, 0, 0, false⟩ 0 (256 ^ 1), .loPhaseStep 0 ⟨4, 1, 0, 0, 0, false⟩ 0 0,
      .loPhaseStep 0 ⟨1, 1, 0, 0, 0, false⟩ 4 0, .loPhaseStep 0 ⟨1, 1, 0, 0, 0, false⟩ 0 (256 ^ 2), .loHandoverStart 0 4 0,
      .loHandoverStart 0 0 4, .dpdCaptureDone 0 8 [] [], .dpdSolveDone 0 96 0 0 [], .dpdPeriodLate 0 96, .dpdStaleAgeExpiry 0 96,
      .orxRequest 0 8 0 ⟨0, 0⟩, .orxRequest 0 0 14 ⟨0, 0⟩, .orxRequest 0 0 0 ⟨16, 0⟩, .cxRequest 0 96,
      .orxRequest 0 0 0 ⟨0, 4⟩, .clkPllUnlock 0 1, .clkPllRelock 0 4, .orxGrant 0 8, .orxSettleDone 0 8, .orxDrop 0 8,
      .orxWithdraw 0 8, .orxBurstLimitExpiry 0 8, .orxLeaseExpiry 0 8, .orxPrivWdExpiry 0 8, .dcEccError 0 24 false,
      .assayDone 0 96 0, .assayDone 0 0 2, .assayResultReady 0 96 0 [], .assayResultReady 0 0 8 [],
      .calBenchNow 0 ⟨4, 1, 0, 0, 0, false⟩ 0, .calBenchNow 0 ⟨1, 1, 0, 0, 0, false⟩ (256 ^ 1), .calOverdueExpiry 0 96,
      .portDetect 0 3, .laneTrainDone 0 3 0 0, .laneTrainDone 0 0 8 0, .laneTrainDone 0 0 0 3, .portAlignDone 0 3,
      .lmgTs1 0 3 0 0 [], .lmgTs1 0 0 8 0 [], .lmgTs1 0 0 0 0 [0, 256], .lmgTs2 0 3 0 [], .lmgTs2 0 0 8 [],
      .lmgTs2 0 0 0 [0, 256], .portRateDone 0 3, .portTrainTimeout 0 3, .lmgDropReq 0 3 [], .lmgDropReq 0 0 [0, 256],
      .lmgDropAck 0 3 [], .lmgDropAck 0 0 [0, 256], .lmgRestoreReq 0 3 [], .lmgRestoreReq 0 0 [0, 256], .lmgRestoreAck 0 3 [],
      .lmgRestoreAck 0 0 [0, 256], .lmgReset 0 3 []] : List Instr), i.wf = false := by decide +kernel

theorem test_wf_refuses_3 : ∀ i ∈ ([
    .lmgReset 0 0 [0, 256], .lmgReqRepeat 0 3, .laneLost 0 3 0 0, .laneLost 0 0 8 0, .laneLost 0 0 0 256,
      .laneRestoreReady 0 3 0, .laneRestoreReady 0 0 8, .epmReceive 0 3 0, .epmReceive 0 0 (2 ^ 32),
      .packetReceive 0 3 [] false 0, .packetReceive 0 0 [0, 512] false 0, .egressPacketStart 0 3, .fcXoffReceive 0 3 0 0,
      .fcXoffReceive 0 0 256 0, .fcXoffReceive 0 0 0 256, .fcXonReceive 0 3 0 0, .fcXonReceive 0 0 256 0,
      .fcXonReceive 0 0 0 256, .fcXoffRefresh 0 3 0, .fcXoffRefresh 0 0 3, .fcHoldTimeout 0 3 0, .fcHoldTimeout 0 0 3,
      .fcStallExpiry 0 3 0, .fcStallExpiry 0 0 3, .fluReceive 0 3 0 0 false, .fluReceive 0 0 256 0 false,
      .fluReceive 0 0 0 65536 false, .flushApply 0 3, .fwdWindowDiscard 0 3, .objRead 0 ⟨4, 1, 0, 0, 0, false⟩ 0 0,
      .objRead 0 ⟨1, 1, 0, 0, 0, false⟩ 65536 0, .objRead 0 ⟨1, 1, 0, 0, 0, false⟩ 0 256,
      .objWrite 0 ⟨4, 1, 0, 0, 0, false⟩ 0 0 [], .objWrite 0 ⟨1, 1, 0, 0, 0, false⟩ 65536 0 [],
      .objWrite 0 ⟨1, 1, 0, 0, 0, false⟩ 0 256 [], .objWrite 0 ⟨1, 1, 0, 0, 0, false⟩ 0 0 [0, 256],
      .memRead 0 ⟨4, 1, 0, 0, 0, false⟩ 0 0, .memRead 0 ⟨1, 1, 0, 0, 0, false⟩ (2 ^ 32) 0,
      .memRead 0 ⟨1, 1, 0, 0, 0, false⟩ 0 16384, .memWrite 0 ⟨4, 1, 0, 0, 0, false⟩ 0 [],
      .memWrite 0 ⟨1, 1, 0, 0, 0, false⟩ (2 ^ 32) [], .memWrite 0 ⟨1, 1, 0, 0, 0, false⟩ 0 [0, 256],
      .mResponseReceive 0 3 ⟨0, 0, 0, 0, 0, 0, false, false, false, false, false, []⟩,
      .mResponseReceive 0 0 ⟨2 ^ 18, 0, 0, 0, 0, 0, false, false, false, false, false, []⟩, .mTimeout 0 128, .proxyForward 0 3,
      .proxyTimeout 0 3 0 0, .proxyTimeout 0 0 (2 ^ 18) 0, .proxyTimeout 0 0 0 128, .laneLos 0 24 false] : List Instr), i.wf = false := by decide +kernel

theorem test_wf_refuses_4 : ∀ i ∈ ([
    .laneLossOfLock 0 24, .portDeepEnter 0 3, .laneWakeDetect 0 3 0, .laneWakeDetect 0 0 3, .laneDeepExitDone 0 3,
      .laneTest 0 ⟨4, 1, 0, 0, 0, false⟩ 0 0, .laneTest 0 ⟨1, 1, 0, 0, 0, false⟩ 24 0,
      .laneTest 0 ⟨1, 1, 0, 0, 0, false⟩ 0 (256 ^ 4), .laneInject 0 ⟨4, 1, 0, 0, 0, false⟩ 0 0,
      .laneInject 0 ⟨1, 1, 0, 0, 0, false⟩ 24 0, .laneInject 0 ⟨1, 1, 0, 0, 0, false⟩ 0 (256 ^ 1),
      .lanePresets 0 ⟨4, 1, 0, 0, 0, false⟩ 0, .lanePresets 0 ⟨1, 1, 0, 0, 0, false⟩ (256 ^ 256), .syncSend 0 3,
      .syncReceive 0 [0, 256] 0, .followUpReceive 0 [0, 256], .delayReqReceive 0 3 [] 0, .delayReqReceive 0 0 [0, 256] 0,
      .delayRespReceive 0 [0, 256], .announceReceive 0 [0, 256], .todFrame 0 [0, 256], .timeSet 0 ⟨4, 1, 0, 0, 0, false⟩ 0,
      .timeSet 0 ⟨1, 1, 0, 0, 0, false⟩ (256 ^ 12), .tpoEdge 0 4, .tciEdge 0 2 false, .tciStamp 0 ⟨4, 1, 0, 0, 0, false⟩ 0,
      .tciStamp 0 ⟨1, 1, 0, 0, 0, false⟩ 2, .timeAlarm 0 ⟨4, 1, 0, 0, 0, false⟩ 0 0, .timeAlarm 0 ⟨1, 1, 0, 0, 0, false⟩ 4 0,
      .timeAlarm 0 ⟨1, 1, 0, 0, 0, false⟩ 0 (256 ^ 12), .talarm 0 4, .addrAssign 0 3,
      .nodeAddrWrite 0 ⟨4, 1, 0, 0, 0, false⟩ false 0, .nodeAddrWrite 0 ⟨1, 1, 0, 0, 0, false⟩ false (256 ^ 4),
      .summaryReceive 0 3 [], .summaryReceive 0 0 [0, 256], .alarmRecordReceive 0 3 0 [], .alarmRecordReceive 0 0 65536 [],
      .alarmRecordReceive 0 0 0 [0, 256], .stagedWrite 0 ⟨4, 1, 0, 0, 0, false⟩ 0 0 0,
      .stagedWrite 0 ⟨1, 1, 0, 0, 0, false⟩ 65536 0 0, .stagedWrite 0 ⟨1, 1, 0, 0, 0, false⟩ 0 256 0,
      .stageDiscard 0 ⟨4, 1, 0, 0, 0, false⟩ 0, .stageDiscard 0 ⟨1, 1, 0, 0, 0, false⟩ (256 ^ 1),
      .commit 0 ⟨4, 1, 0, 0, 0, false⟩ 0, .commit 0 ⟨1, 1, 0, 0, 0, false⟩ (2 ^ 32),
      .immediateSetWrite 0 ⟨4, 1, 0, 0, 0, false⟩ 0 0 0, .immediateSetWrite 0 ⟨1, 1, 0, 0, 0, false⟩ 65536 0 0,
      .immediateSetWrite 0 ⟨1, 1, 0, 0, 0, false⟩ 0 256 0, .lockLeaseExpiry 0 28] : List Instr), i.wf = false := by decide +kernel

theorem test_wf_refuses_5 : ∀ i ∈ ([
    .alarmHoldExpiry 0 65536 0, .logRead 0 ⟨4, 1, 0, 0, 0, false⟩, .logClear 0 ⟨4, 1, 0, 0, 0, false⟩ 0,
      .logClear 0 ⟨1, 1, 0, 0, 0, false⟩ (256 ^ 1), .counterClear 0 ⟨4, 1, 0, 0, 0, false⟩ 0 0,
      .counterClear 0 ⟨1, 1, 0, 0, 0, false⟩ 65536 0, .counterClear 0 ⟨1, 1, 0, 0, 0, false⟩ 0 256, .lhpFrameReceive 0 [0, 256],
      .chClaim 0 ⟨4, 1, 0, 0, 0, false⟩ 0, .chClaim 0 ⟨1, 1, 0, 0, 0, false⟩ 16, .chRelease 0 ⟨4, 1, 0, 0, 0, false⟩ 0,
      .chRelease 0 ⟨1, 1, 0, 0, 0, false⟩ 16, .chStart 0 ⟨4, 1, 0, 0, 0, false⟩ 0 0, .chStart 0 ⟨1, 1, 0, 0, 0, false⟩ 16 0,
      .chStart 0 ⟨1, 1, 0, 0, 0, false⟩ 0 (256 ^ 4), .chDoorbell 0 ⟨4, 1, 0, 0, 0, false⟩ 0 0,
      .chDoorbell 0 ⟨1, 1, 0, 0, 0, false⟩ 16 0, .chDoorbell 0 ⟨1, 1, 0, 0, 0, false⟩ 0 (256 ^ 1),
      .chStop 0 ⟨4, 1, 0, 0, 0, false⟩ 0 0, .chStop 0 ⟨1, 1, 0, 0, 0, false⟩ 16 0, .chStop 0 ⟨1, 1, 0, 0, 0, false⟩ 0 (256 ^ 1),
      .chTrig 0 ⟨4, 1, 0, 0, 0, false⟩ 0 0, .chTrig 0 ⟨1, 1, 0, 0, 0, false⟩ 16 0, .chTrig 0 ⟨1, 1, 0, 0, 0, false⟩ 0 (256 ^ 1),
      .dmaTrigger 0 16, .dmaCopy 0 16, .dmaFill 0 16, .dmaCompare 0 16, .capArm 0 ⟨4, 1, 0, 0, 0, false⟩ 0 0,
      .capArm 0 ⟨1, 1, 0, 0, 0, false⟩ 4 0, .capArm 0 ⟨1, 1, 0, 0, 0, false⟩ 0 (256 ^ 1), .captureComplete 0 4 false,
      .scrubRead 0 (2 ^ 32) 0, .scrubRead 0 0 3, .powerReq 0 ⟨4, 1, 0, 0, 0, false⟩ 0,
      .powerReq 0 ⟨1, 1, 0, 0, 0, false⟩ (256 ^ 1), .domainReqDown 0 ⟨4, 1, 0, 0, 0, false⟩ 0,
      .domainReqDown 0 ⟨1, 1, 0, 0, 0, false⟩ 22, .domainReqUp 0 ⟨4, 1, 0, 0, 0, false⟩ 0,
      .domainReqUp 0 ⟨1, 1, 0, 0, 0, false⟩ 22, .domainAnswer 0 22, .domainAnswerTimeout 0 22, .domainPowerDown 0 22,
      .firstAccessWake 0 22, .wakeStallTimeout 0 22, .ledgerCapWrite 0 ⟨4, 1, 0, 0, 0, false⟩ 0 0,
      .ledgerCapWrite 0 ⟨1, 1, 0, 0, 0, false⟩ 8 0, .ledgerCapWrite 0 ⟨1, 1, 0, 0, 0, false⟩ 0 (256 ^ 2), .hkConversion 0 4096] : List Instr), i.wf = false := by decide +kernel

theorem test_wf_refuses_6 : ∀ i ∈ ([
    .hkOneshot 0 ⟨4, 1, 0, 0, 0, false⟩ 0, .hkOneshot 0 ⟨1, 1, 0, 0, 0, false⟩ (256 ^ 2), .vswrCal 0 8 none, .rflTrip 0 96,
      .rflRetryClear 0 96, .auxCode 0 ⟨4, 1, 0, 0, 0, false⟩ 0 0, .auxCode 0 ⟨1, 1, 0, 0, 0, false⟩ 32 0,
      .auxCode 0 ⟨1, 1, 0, 0, 0, false⟩ 0 (256 ^ 2), .deglitchHoldEnd 0 32, .auxCompliance 0 32 false,
      .gbFaultDetect 0 96 0 false, .gbFaultDetect 0 0 5 false, .fwVerify 0 ⟨4, 1, 0, 0, 0, false⟩ 0,
      .fwVerify 0 ⟨1, 1, 0, 0, 0, false⟩ (256 ^ 1), .fwConfirm 0 ⟨4, 1, 0, 0, 0, false⟩ 0,
      .fwConfirm 0 ⟨1, 1, 0, 0, 0, false⟩ (256 ^ 1), .bootCandidateDone 0 0 0 [0, 256],
      .sessionChallenge 0 ⟨4, 1, 0, 0, 0, false⟩, .sessionRespRsa 0 ⟨4, 1, 0, 0, 0, false⟩ 0,
      .sessionRespRsa 0 ⟨1, 1, 0, 0, 0, false⟩ (256 ^ 384), .sessionRespSlh 0 ⟨4, 1, 0, 0, 0, false⟩ 0,
      .sessionRespSlh 0 ⟨1, 1, 0, 0, 0, false⟩ (256 ^ 7856), .sessionOpen 0 ⟨4, 1, 0, 0, 0, false⟩ 0,
      .sessionOpen 0 ⟨1, 1, 0, 0, 0, false⟩ 256, .sessionClose 0 ⟨4, 1, 0, 0, 0, false⟩ 0,
      .sessionClose 0 ⟨1, 1, 0, 0, 0, false⟩ (256 ^ 1), .credKeys 0 ⟨4, 1, 0, 0, 0, false⟩ 0 0,
      .credKeys 0 ⟨1, 1, 0, 0, 0, false⟩ 8 0, .credKeys 0 ⟨1, 1, 0, 0, 0, false⟩ 0 (256 ^ 416),
      .credRevoke 0 ⟨4, 1, 0, 0, 0, false⟩ 0, .credRevoke 0 ⟨1, 1, 0, 0, 0, false⟩ 256, .attestReq 0 ⟨4, 1, 0, 0, 0, false⟩ 0,
      .attestReq 0 ⟨1, 1, 0, 0, 0, false⟩ (2 ^ 256), .railGood 0 8, .railBad 0 8, .resetHoldExpiry 0 4 0 false,
      .resetHoldExpiry 0 0 4 false, .resetNRelease 0 4 0 false, .resetNRelease 0 0 4 false,
      .resetReqPin 0 ⟨4, 1, 0, 0, 0, false⟩, .resetReqRestart 0 ⟨4, 1, 0, 0, 0, false⟩,
      .resetReqDomain 0 ⟨4, 1, 0, 0, 0, false⟩ 0, .resetReqDomain 0 ⟨1, 1, 0, 0, 0, false⟩ 256,
      .childReset 0 ⟨4, 1, 0, 0, 0, false⟩ 0 0, .childReset 0 ⟨1, 1, 0, 0, 0, false⟩ 2 0,
      .childReset 0 ⟨1, 1, 0, 0, 0, false⟩ 0 (256 ^ 2), .unlockAlarmClear 0 10, .domainReady 0 ⟨22, []⟩, .domainReady 0 ⟨14, [8]⟩, .standbyReached 0 4,
      .prbsCheckerSync 0 24 false 0 0] : List Instr), i.wf = false := by decide +kernel

theorem test_wf_refuses_7 : ∀ i ∈ ([
    .hierarchyAlarmClear 0 3] : List Instr), i.wf = false := by decide +kernel


/-! ### Small facts, with results from the spec -/

/-- Chapter 16, after R386: a base of 3,715 units books 3,753 in band 4 at code 0, 3,790 at code 2, 3,809 at code 3, 4,090 at code 18, and
4,131 in band 5 at code 18. -/
theorem test_booked :
    ([(4, 0), (4, 2), (4, 3), (4, 18), (5, 18)].map (fun x =>
      (({ z [(0x4800, 2, x.2)] [] with grants := [⟨.block, 0, costOn rCore 3715⟩], band := x.1 } : State)).booked 0)) =
    [3753, 3790, 3809, 4090, 4131] := by decide +kernel

/-- R237's example: 30,000 ppm after 6.0 years asks for code 11 and leaves 34.7 years. -/
theorem test_avs_example : avsWant 30000 = 11 ∧ yearsLeft (6 * 8766) 30000 200 = 347 := by decide +kernel

/-- R348's example. -/
theorem test_alarm_code : Al.refLost = 5 * 1024 + 2 := by decide

/-- Chapter 07's worked example: the distances of 1.5, 1.6 and 1.7 GHz from a band of 3,250 to 3,650 MHz are 100, 50 and 0 MHz. -/
theorem test_fconv_clearance :
    [1, 2, 3].map (fun c => multDist (fconvHz c * 500) 3250000000000 3650000000000) = [100000000000, 50000000000, 0] := by decide +kernel

/-- Table 1-1's slot after (512, 19, 13) on a 30 kHz carrier is slot 0 of frame 513 (R6). -/
theorem test_air_time : sfnOf 1 (20 * 512 + 19) = 512 ∧ slotInFrame 1 (20 * 512 + 19) = 19 ∧ sfnOf 1 (20 * 512 + 20) = 513 ∧
    slotInFrame 1 (20 * 512 + 20) = 0 ∧ sfnOf 1 (20 * 1024) = 0 := by decide +kernel

/-- The next state, if there is one. -/
def after (c : Instr) (s : State) : State := match exec c s with | .next u => u | _ => s

/-- R343's example: LHP_HIGH 20 beside LHP_LOW 25 is held and 75 stays; LHP_LOW 10 then puts 20 and 10 in force. -/
theorem test_watermarks_held :
    let s := after (.immediateSetWrite 0 rl 0x1020 1 20) (z [] [])
    let u := after (.immediateSetWrite 0 rl 0x1020 2 10) s
    s.a 0x1020 1 = 75 ∧ s.a 0x1020 2 = 25 ∧ s.raised Al.cfgMismatch 0x1020 = true ∧ u.a 0x1020 1 = 20 ∧ u.a 0x1020 2 = 10 ∧
      u.alarms = [] := by decide +kernel

/-- R432: the counter and the alarm at its last fuse. -/
theorem test_last_fuse : ((z [(0x8000, 0x0A, 63)] []).fuseSet 0).o 0x8000 0x0A = 64 ∧
    ((z [(0x8000, 0x0A, 63)] []).fuseSet 0).raised Al.rollbackExhausted 0 = true := by decide +kernel

/-- The published check values (of the digits 1 to 9) of the CRCs that R247 describes. -/
theorem test_crc_check : crc32 [49, 50, 51, 52, 53, 54, 55, 56, 57] = 0xFC891918 ∧
    crc16 [49, 50, 51, 52, 53, 54, 55, 56, 57] = 0x29B1 := by decide +kernel

/-- A memory write and a read of its bytes; the canonical form drops a byte that is written 0. -/
theorem test_memory : (((z [] []).wr32 0x1000 0x11223344).rd8 0x1000 = 0x44) ∧
    (((z [] []).wr32 0x1000 0x11223344).wr32 0x1000 0).mem = [] ∧ Memory.wf ((z [] []).wr32 0x1000 0x11003344).mem = true := by decide +kernel

/-- R173: LO_FREQ takes 450,000 to 7,300,000 kHz, both ends included. -/
theorem test_lo_freq_ends : [449999, 450000, 7300000, 7300001].map (fun f => (z [] [(0x2400, 1, 1), (0x2400, 2, f)]).loBad 0 0) =
    [true, false, false, true] := by decide +kernel

/-- R106, R333: 273 resource blocks go with 30 kHz only. -/
theorem test_nrb_by_numerology : [(0, 273), (1, 273), (0, 106)].map (fun x =>
    (z [] [(0x3000, 1, 1), (0x3000, 2, x.1), (0x3000, 3, x.2)]).nrbBad 0 0x3000) = [true, false, false] := by decide +kernel

/-- R190: the set with the one term 1.0 · x[n] passes its input. -/
theorem test_identity_engine : engOut [(0x9000, 16384, 0)] (fun n => (100 - n, 7 * n)) 0 8 3 = (97, 21) := by decide +kernel

/-- Table 4-1: a 16-bit sine holds 1.0 as 32,767; quarter turns. -/
theorem test_quarter_turns : [0, 2 ^ 30, 2 ^ 31, 3 * 2 ^ 30].map cisQ15 = [(32767, 0), (0, 32767), (-32768, 0), (0, -32768)] := by
  decide +kernel

/-! ### Of the queue, the step and reset -/

theorem test_step_takes_front : step { State.reset with pending := [.frameBoundary 5, .epmSend 7] } =
    exec (.frameBoundary 5) { State.reset with pending := [.epmSend 7] } := rfl

theorem test_empty_queue_is_met : ∃ s : State, s.pending = [] := ⟨State.reset, rfl⟩

theorem test_every_step_keeps_is_met : ∃ s u : State, MemOk s ∧ step s = .next u ∧ s.pending ≠ [] :=
  ⟨{ State.reset with pending := [.lhpFrameAbandon 3] }, _, rfl, rfl, by decide⟩

theorem test_queues_run_is_met : ∃ (k : Nat) (s : State), k ≤ s.pending.length ∧ MemOk s ∧ 1 < k :=
  ⟨2, { State.reset with pending := [.lhpFrameAbandon 3, .frameBoundary 4] }, by decide, rfl, by decide⟩

theorem test_ledger_request_is_met : ∃ (k : GKind) (n : Nat) (cost : List Nat) (dom : Nat) (w v : State), dom < 22 ∧
    (w.ask k n cost dom).1 = true ∧ (v.ask k n cost dom).1 = false :=
  ⟨.lo, 3, costOn rCore 9, 21, z [(0x5000, 1, 9)] [], z [(0x5000, 1, 8)] [], by decide +kernel⟩

/-! ### Witnesses of the statements' hypotheses -/

theorem test_WeightStaging_1 : ∃ (t : Tick) (r : Req) (dir v : Nat) (s : State),
    (dir < 2) ∧
    (Reaches (s.upTo t) r (0x3100 + dir) 3 (objBytes 0x3100 3 v) v) ∧
    ((s.upTo t).o (0x3100 + dir) 4 ≠ 3) :=
  ⟨0, rl, 1, 130, z [] [], by
    (try and_intros) <;> first | decide +kernel | rfl | (constructor <;> decide +kernel)⟩

theorem test_WeightStaging_2 : ∃ (t : Tick) (r : Req) (dir v : Nat) (s : State),
    (dir < 2) ∧
    (Reaches (s.upTo t) r (0x3100 + dir) 3 (objBytes 0x3100 3 v) v) ∧
    ((s.upTo t).o (0x3100 + dir) 4 = 3) :=
  ⟨0, rl, 1, 130, z [(0x3101, 4, 3)] [], by
    (try and_intros) <;> first | decide +kernel | rfl | (constructor <;> decide +kernel)⟩

theorem test_WeightStaging_3 : ∃ (t : Tick) (dir : Nat) (x : Tick) (s : State),
    (dir < 2) ∧
    (MemOk s) ∧
    (((s.upTo t).tb dir).fill = some (x, false)) ∧
    (((s.upTo t).tb dir).bank < 4) :=
  ⟨0, 1, 0, { z [] [] with
        tbl := [(1, { Tbl.init with bank := 2, fill := some (0, false) })], mem := [(0x10200000 + 2 * 196608 + 8, 5), (0x102C0005, 6)] }, by
    (try and_intros) <;> first | decide +kernel | rfl | (constructor <;> decide +kernel)⟩

theorem test_WeightStaging_4 : ∃ (t : Tick) (dir : Nat) (x : Tick) (s : State),
    (dir < 2) ∧
    (MemOk s) ∧
    (((s.upTo t).tb dir).fill = some (x, true)) :=
  ⟨0, 1, 0, { z [] [] with
        tbl := [(1, { Tbl.init with bank := 2, fill := some (0, true) })], mem := [(0x10200000 + 2 * 196608 + 8, 5), (0x102C0005, 6)] }, by
    (try and_intros) <;> first | decide +kernel | rfl | (constructor <;> decide +kernel)⟩

theorem test_WeightStaging_5 : ∃ (t : Tick) (dir b : Nat) (B : Int) (s : State),
    (dir < 2) ∧
    (b < 4) ∧
    (MemOk s) ∧
    (((s.upTo t).tb dir).swap = some (b, B)) ∧
    (((s.upTo t).tb dir).swapped = true) ∧
    (B + ((100 * tUs : Nat) : Int) ≤ (s.upTo t).time_) :=
  ⟨tSec, 1, 2, 0, { z [(0x3101, 4, 3), (0x3101, 5, 1)] [(0x3101, 5, 1)] with
        tbl := [(1, { Tbl.init with swap := some (2, 0), swapped := true })], mem := [(0x10200000 + 2 * 196608 + 8, 5), (0x102C0005, 6)] }, by
    (try and_intros) <;> first | decide +kernel | rfl | (constructor <;> decide +kernel)⟩

theorem test_WeightStaging_6 : ∃ (t : Tick) (r : Req) (dir v : Nat) (s : State),
    (dir < 2) ∧
    (Reaches (s.upTo t) r (0x3100 + dir) 7 (objBytes 0x3100 7 v) v) :=
  ⟨0, rl, 1, 9, z [] [], by
    (try and_intros) <;> first | decide +kernel | rfl | (constructor <;> decide +kernel)⟩

theorem test_ScheduleCopy_1 : ∃ (t : Tick) (r : Req) (dir : Nat) (s : State),
    (dir < 2) ∧
    (Reaches (s.upTo t) r (0x3200 + dir) 1 (objBytes 0x3200 1 1) 1) ∧
    ((s.upTo t).o (0x3200 + dir) 2 ≠ 2) :=
  ⟨0, rl, 1, z [] [], by
    (try and_intros) <;> first | decide +kernel | rfl | (constructor <;> decide +kernel)⟩

theorem test_ScheduleCopy_2 : ∃ (t : Tick) (r : Req) (dir : Nat) (s : State),
    (dir < 2) ∧
    (Reaches (s.upTo t) r (0x3200 + dir) 1 (objBytes 0x3200 1 1) 1) ∧
    ((s.upTo t).o (0x3200 + dir) 2 = 2) :=
  ⟨0, rl, 1, z [(0x3201, 2, 2)] [], by
    (try and_intros) <;> first | decide +kernel | rfl | (constructor <;> decide +kernel)⟩

theorem test_ScheduleCopy_3 : ∃ (t : Tick) (dir : Nat) (x : Tick) (l : List Nat) (s : State),
    (dir < 2) ∧
    (MemOk s) ∧
    (((s.upTo t).tb dir).clone = some (x, l)) ∧
    ((∀ o, o ∈ l → o % 4 = 0 ∧ o < schedBytes)) :=
  ⟨0, 1, 0, [8], { z [(0x3201, 2, 1)] [] with
        tbl := [(1, { Tbl.init with clone := some (0, [8]) })], mem := [(0x10402003, 5), (0x10406009, 6)] }, by
    (try and_intros) <;> first | decide +kernel | rfl | (constructor <;> decide +kernel)⟩

theorem test_DownlinkArrivals_1 : ∃ (t : Tick) (p : Pkt) (c k scs : Nat) (n Ts : Int) (s : State),
    ((s.upTo t).pktPlaces 0 p.stream (dPrefix p.payload).air.sfn (dPrefix p.payload).air.slot = [(c, k)]) ∧
    ((s.upTo t).pktSlot 0 c (dPrefix p.payload).air.sfn (dPrefix p.payload).air.slot = (scs, n, Ts)) ∧
    ((dPrefix p.payload).mw ≤ 8) ∧
    (tripleOk scs (dPrefix p.payload).air.sfn (dPrefix p.payload).air.slot (dPrefix p.payload).air.sym = true) ∧
    ((dPrefix p.payload).first + (dPrefix p.payload).count ≤ (s.upTo t).carNrb Ts 0 c) ∧
    (p.payload.length = dLen (dPrefix p.payload)) ∧
    ((s.upTo t).tAir scs n (dPrefix p.payload).air.sym - openU ≤ (s.upTo t).time_) ∧
    ((s.upTo t).time_ ≤ (s.upTo t).tAir scs n (dPrefix p.payload).air.sym - closeU) :=
  ⟨0, ⟨5, Cls.d, 0, 9, 5, 0, false, false, false, false, false, bytesBE 4 0 ++ bytesBE 4 (2 ^ 23) ++ List.replicate 28 7⟩, 0, 0, 1, 0, gpsEpoch, { z [] [(0x3000, 1, 1), (0x3010, 1, 65541)] with
        timeBase := gpsEpoch - ((100 * tUs : Nat) : Int) }, by decide +kernel⟩

theorem test_DownlinkArrivals_2 : ∃ (t : Tick) (p : Pkt) (c k scs : Nat) (n Ts : Int) (s : State),
    ((s.upTo t).pktPlaces 0 p.stream (dPrefix p.payload).air.sfn (dPrefix p.payload).air.slot = [(c, k)]) ∧
    ((s.upTo t).pktSlot 0 c (dPrefix p.payload).air.sfn (dPrefix p.payload).air.slot = (scs, n, Ts)) ∧
    ((dPrefix p.payload).mw ≤ 8) ∧
    (tripleOk scs (dPrefix p.payload).air.sfn (dPrefix p.payload).air.slot (dPrefix p.payload).air.sym = true) ∧
    ((dPrefix p.payload).first + (dPrefix p.payload).count ≤ (s.upTo t).carNrb Ts 0 c) ∧
    (p.payload.length = dLen (dPrefix p.payload)) ∧
    ((s.upTo t).tAir scs n (dPrefix p.payload).air.sym - closeU < (s.upTo t).time_) :=
  ⟨0, ⟨5, Cls.d, 0, 9, 5, 0, false, false, false, false, false, bytesBE 4 0 ++ bytesBE 4 (2 ^ 23) ++ List.replicate 28 7⟩, 0, 0, 1, 0, gpsEpoch, { z [] [(0x3000, 1, 1), (0x3010, 1, 65541)] with
        timeBase := gpsEpoch - ((10 * tUs : Nat) : Int) }, by decide +kernel⟩

theorem test_DownlinkArrivals_3 : ∃ (t : Tick) (p : Pkt) (s : State),
    ((s.upTo t).pktPlaces 0 p.stream (dPrefix p.payload).air.sfn (dPrefix p.payload).air.slot = []) :=
  ⟨0, ⟨5, Cls.d, 0, 9, 6, 0, false, false, false, false, false, bytesBE 4 0 ++ bytesBE 4 (2 ^ 23) ++ List.replicate 28 7⟩, { z [] [(0x3000, 1, 1), (0x3010, 1, 65541)] with
        timeBase := gpsEpoch - ((10 * tUs : Nat) : Int) }, by decide +kernel⟩

theorem test_DownlinkArrivals_4 : ∃ (t : Tick) (p : Pkt) (c j k scs : Nat) (n Ts : Int) (s : State),
    ((s.upTo t).pktPlaces (cPrefix p.payload).dir p.stream (cPrefix p.payload).sfn (cPrefix p.payload).slot = [(c, j)]) ∧
    ((s.upTo t).pktSlot (cPrefix p.payload).dir c (cPrefix p.payload).sfn (cPrefix p.payload).slot = (scs, n, Ts)) ∧
    ((cPrefix p.payload).symStart = k) ∧
    ((cPrefix p.payload).symEnd = k) ∧
    (tripleOk scs (cPrefix p.payload).sfn (cPrefix p.payload).slot k = true) ∧
    (p.payload.length = cLen (cPrefix p.payload)) ∧
    (p.payload.length ≤ 8192) ∧
    ((s.upTo t).tAir scs n k - offC ≤ (s.upTo t).time_) ∧
    ((s.upTo t).time_ ≤ (s.upTo t).tAir scs n k - closeC) ∧
    (((cPrefix p.payload).dir = 1 → p.prov = false)) :=
  ⟨0, ⟨5, Cls.c, 0, 9, 5, 0, false, false, false, false, false, bytesBE 4 257 ++ bytesBE 4 0 ++ [0, 3, 0, 0]⟩, 1, 0, 0, 1, 0, gpsEpoch, { z [] [(0x3005, 1, 1), (0x3015, 1, 65541)] with
        timeBase := gpsEpoch - ((100 * tUs : Nat) : Int) }, by decide +kernel⟩

theorem test_DownlinkArrivals_5 : ∃ (t : Tick) (p : Pkt) (s : State),
    ((s.upTo t).pktPlaces (cPrefix p.payload).dir p.stream (cPrefix p.payload).sfn (cPrefix p.payload).slot = []) :=
  ⟨0, ⟨5, Cls.c, 0, 9, 6, 0, false, false, false, false, false, bytesBE 4 1 ++ bytesBE 4 0 ++ [0, 3, 0, 0]⟩, { z [] [(0x3001, 1, 1), (0x3011, 1, 65541)] with
        timeBase := gpsEpoch - ((100 * tUs : Nat) : Int) }, by decide +kernel⟩

theorem test_Speculation_1 : ∃ (t : Tick) (c k : Nat) (n : Int) (s : State),
    (((s.upTo t).dsym c n k).closed = false) ∧
    ((s.upTo t).yAir 0 ((s.upTo t).dsym c n k) - closeC ≤ (s.upTo t).time_) ∧
    ((s.upTo t).carActive ((s.upTo t).ySlot 0 ((s.upTo t).dsym c n k)).2 0 c = true) :=
  ⟨0, 1, 0, 0, { z [] [(0x3001, 1, 1), (0x3011, 1, 65541)] with
        timeBase := gpsEpoch - ((10 * tUs : Nat) : Int), dl.syms := [{ DlSym.empty 1 0 0 with done := [⟨5, ⟨0, 3, 7, none⟩, true⟩], provN := [5, 6] }] }, by decide +kernel⟩

theorem test_Speculation_2 : ∃ (t : Tick) (c k lo hi : Nat) (n : Int) (s : State),
    (((s.upTo t).dsym c n k).fixed = false) ∧
    ((s.upTo t).dl.running = none) ∧
    ((s.upTo t).dl.fastQ.any (fun f => f.of ((s.upTo t).dsym c n k) && meets f.lo f.hi lo hi) = false) :=
  ⟨0, 1, 0, 0, 3, 0, { z [] [(0x3001, 1, 1), (0x3011, 1, 65541)] with
        timeBase := gpsEpoch - ((10 * tUs : Nat) : Int), dl.syms := [{ DlSym.empty 1 0 0 with done := [⟨5, ⟨0, 3, 7, none⟩, true⟩], provN := [5, 6] }] }, by decide +kernel⟩

theorem test_Speculation_3 : ∃ (t : Tick) (f : FItem) (s : State),
    ((s.upTo t).dl.running = none) ∧
    ((s.upTo t).fastHead = some f) :=
  ⟨9, ⟨1, 0, 0, 0, 3, 1, 5, 0⟩, { z [] [] with dl.fastQ := [⟨1, 0, 0, 0, 3, 1, 5, 0⟩] }, by decide +kernel⟩

theorem test_Speculation_4 : ∃ (t : Tick) (f : FItem) (e : Tick) (s : State),
    ((s.upTo t).dl.running = some (f, e)) ∧
    (e ≤ (s.upTo t).now) ∧
    (((s.upTo t).dsym f.car f.slot f.sym).fixed = false) :=
  ⟨9, ⟨1, 0, 0, 0, 3, 1, 5, 0⟩, 5, { z [] [] with dl.running := some (⟨1, 0, 0, 0, 3, 1, 5, 0⟩, 5) }, by decide +kernel⟩

theorem test_Touchstone_1 : ∃ (t : Tick) (scs k : Nat) (n : Int) (s : State),
    ((s.upTo t).tAir scs n k - touchOff ≤ (s.upTo t).time_) ∧
    (k < 14) ∧
    ((∀ c, c < 4 → (s.upTo t).carActive ((s.upTo t).slotStart scs n) 0 c = true →
      (s.upTo t).carScs ((s.upTo t).slotStart scs n) 0 c ≠ scs)) ∧
    ((s.upTo t).clears = []) ∧
    ((s.upTo t).freshNow 0 = []) ∧
    ((s.upTo t).dl.dozing = []) :=
  ⟨0, 1, 0, 0, { z [(0x3100, 6, 2)] [] with timeBase := gpsEpoch, tbl := [(0, { Tbl.init with markPend := 9 })] }, by decide +kernel⟩

theorem test_Touchstone_2 : ∃ (t : Tick) (scs k c : Nat) (n : Int) (s : State),
    ((s.upTo t).tAir scs n k - touchOff ≤ (s.upTo t).time_) ∧
    (k < 14) ∧
    (c < 4) ∧
    ((s.upTo t).carActive ((s.upTo t).slotStart scs n) 0 c = true) ∧
    ((s.upTo t).carScs ((s.upTo t).slotStart scs n) 0 c = scs) ∧
    ((s.upTo t).dl.fastQ = []) ∧
    ((s.upTo t).dl.running = none) ∧
    ((s.upTo t).dl.restart = []) ∧
    ((s.upTo t).clears = []) ∧
    ((∀ c', c' < 4 → ((s.upTo t).dsym c' n k).conf = [] ∧ ((s.upTo t).dsym c' n k).recs = [] ∧
      ((s.upTo t).dsym c' n k).fixed = false)) ∧
    ((∀ b, b < 4 → (s.upTo t).o (0x9020 + b) 8 ≠ 1 ∧ (s.upTo t).o (0x9020 + b) 8 ≠ 2)) ∧
    ((s.upTo t).freshNow 0 = []) ∧
    ((s.upTo t).dl.dozing = []) :=
  ⟨0, 1, 0, 1, 0, { z [(0x3100, 6, 2)] [(0x3001, 1, 1), (0x3011, 1, 65541)] with
        timeBase := gpsEpoch, tbl := [(0, { Tbl.init with markPend := 9 })] }, by decide +kernel⟩

theorem test_OwnBeams_1 : ∃ (t : Tick) (E : Int) (adc : AdcCodes) (c scs k j : Nat) (n : Int) (s : State),
    (c < 4) ∧
    (E ≤ (s.upTo t).time_) ∧
    ((s.upTo t).endsAt E c = some (scs, n, k)) ∧
    ((∀ d, d < 4 → d ≠ c → (s.upTo t).endsAt E d = none)) ∧
    ((s.upTo t).streamsOn ((s.upTo t).slotStart scs n) 1 c = [j]) ∧
    ((s.upTo t).isRx scs n k = true) ∧
    (sectOf (getSym (s.upTo t).ul.sects c n k).conf ((s.upTo t).slotWord ((s.upTo t).slotStart scs n) 1 c j % 2 ^ 16) = none) ∧
    ((s.upTo t).carNrb ((s.upTo t).slotStart scs n) 1 c ≤ 137) ∧
    ((s.upTo t).ul.restart = []) ∧
    ((s.upTo t).timeLocked = true) ∧
    ((s.upTo t).clk.refBlank = false) ∧
    ((s.upTo t).dl.stopped = false) ∧
    (((s.upTo t).tb 1).held = none) ∧
    ((s.upTo t).clears = []) ∧
    ((∀ b, b < 4 → (s.upTo t).o (0x9020 + b) 8 ≠ 1 ∧ (s.upTo t).o (0x9020 + b) 8 ≠ 2)) ∧
    ((s.upTo t).freshNow 1 = []) :=
  ⟨0, gpsEpoch + ((4448 * tSample : Nat) : Int), [], 1, 1, 0, 0, 0, { z [(0x1200, 0x0B, 2)] [(0x3005, 1, 1), (0x3005, 3, 24), (0x3015, 1, 65541), (0x2020, 3, 1), (0x2020, 4, 2 * 2 ^ 1248)] with
        timeBase := gpsEpoch + ((4448 * tSample : Nat) : Int) }, by decide +kernel⟩

theorem test_OwnBeams_2 : ∃ (t : Tick) (E : Int) (adc : AdcCodes) (c scs k j lo hi wi : Nat) (n : Int) (q : Sect) (v : List Nat) (s : State),
    (c < 4) ∧
    (E ≤ (s.upTo t).time_) ∧
    ((s.upTo t).endsAt E c = some (scs, n, k)) ∧
    ((∀ d, d < 4 → d ≠ c → (s.upTo t).endsAt E d = none)) ∧
    ((s.upTo t).streamsOn ((s.upTo t).slotStart scs n) 1 c = [j]) ∧
    ((s.upTo t).isRx scs n k = true) ∧
    (sectOf (getSym (s.upTo t).ul.sects c n k).conf ((s.upTo t).slotWord ((s.upTo t).slotStart scs n) 1 c j % 2 ^ 16) = some q) ∧
    ((s.upTo t).resolve 1 ((s.upTo t).slotStart scs n) c j k q.ents = ⟨[(lo, hi, wi)], [(lo, hi)], [], 0, []⟩) ∧
    ((s.upTo t).weight 1 ((s.upTo t).slotStart scs n) q.vecs wi = .vec v) ∧
    (q.vecs = []) ∧
    ((s.upTo t).carNrb ((s.upTo t).slotStart scs n) 1 c ≤ 137) ∧
    (lo ≤ hi) ∧
    (hi < (s.upTo t).carNrb ((s.upTo t).slotStart scs n) 1 c) ∧
    ((s.upTo t).carShed ((s.upTo t).slotStart scs n) 1 c = false) ∧
    ((s.upTo t).ul.restart = []) ∧
    ((s.upTo t).timeLocked = true) ∧
    ((s.upTo t).clk.refBlank = false) ∧
    ((s.upTo t).dl.stopped = false) ∧
    (((s.upTo t).tb 1).held = none) ∧
    ((s.upTo t).clears = []) ∧
    ((∀ b, b < 4 → (s.upTo t).o (0x9020 + b) 8 ≠ 1 ∧ (s.upTo t).o (0x9020 + b) 8 ≠ 2)) ∧
    ((s.upTo t).freshNow 1 = []) :=
  ⟨0, gpsEpoch + ((4448 * tSample : Nat) : Int), [], 1, 1, 0, 0, 0, 3, 0, 0, ⟨[3], [], 0, true⟩, 0x7fff0000 :: List.replicate 95 0, ((({ z [(0x1200, 0x0B, 2), (0x3101, 6, 1)] [(0x2001, 1, 1), (0x3005, 1, 1), (0x3005, 3, 24), (0x3101, 1, 512), (0x3015, 1, 65541), (0x2020, 3, 1), (0x2020, 4, 2 * 2 ^ 1248)] with
        timeBase := gpsEpoch + ((4448 * tSample : Nat) : Int), ul.sects := [{ DlSym.empty 1 0 0 with conf := [(5, ⟨[3], [], 0, true⟩)] }], cal.step := 9 }.wr32 0x10402018 (2 ^ 27 + 2 ^ 25 + 13 * 2 ^ 13 + 6 * 2 ^ 10)).wr32 0x1040201c (3 * 2 ^ 11)).wr32 0x10200000 0x7fff0000), by decide +kernel⟩

theorem test_UplinkCombining_1 : ∃ (t : Tick) (E : Int) (p : Nat) (o : OwnPkt) (s : State),
    ((s.upTo t).ul.own.find? (fun o => decide (o.e = E ∧ o.p = p)) = some o) ∧
    (o.gone = false) ∧
    ((s.upTo t).tDep E p ≤ (s.upTo t).time_) ∧
    ((s.upTo t).active 0 = true) ∧
    ((s.upTo t).txWidth 0 ≠ 7) ∧
    ((s.upTo t).timeLocked = true) ∧
    ((s.upTo t).clk.refBlank = false) ∧
    ((s.upTo t).dl.stopped = false) ∧
    ((s.upTo t).ul.child.filter (fun q => decide (q.e = E ∧ q.p = p) && q.adm) = []) ∧
    ((∀ b, b < 4 → (s.upTo t).o (0x9020 + b) 8 ≠ 1 ∧ (s.upTo t).o (0x9020 + b) 8 ≠ 2)) :=
  ⟨tMs, 0, 0, ⟨0, 0, 1, 1, 0, 0, 0, 5, 0, 0, 1, [(0, List.replicate 24 1)], 3, 6, 0, [], false, false⟩, { z [(0x6000, 5, 6), (0x6000, 7, 136), (0x1200, 0x0B, 2)] [] with
        ul.own := [⟨0, 0, 1, 1, 0, 0, 0, 5, 0, 0, 1, [(0, List.replicate 24 1)], 3, 6, 0, [], false, false⟩] }, by decide +kernel⟩

theorem test_UplinkCombining_2 : ∃ (t : Tick) (E : Int) (p : Nat) (o : OwnPkt) (ch : List ChPkt) (s : State),
    ((s.upTo t).ul.own.find? (fun o => decide (o.e = E ∧ o.p = p)) = some o) ∧
    (o.gone = false) ∧
    ((s.upTo t).tDep E p ≤ (s.upTo t).time_) ∧
    ((s.upTo t).active 0 = true) ∧
    ((s.upTo t).txWidth 0 ≠ 7) ∧
    ((s.upTo t).timeLocked = true) ∧
    ((s.upTo t).clk.refBlank = false) ∧
    ((s.upTo t).dl.stopped = false) ∧
    ((s.upTo t).ul.child.filter (fun q => decide (q.e = E ∧ q.p = p) && q.adm) = ch) ∧
    (ch ≠ []) ∧
    ((∀ b, b < 4 → (s.upTo t).o (0x9020 + b) 8 ≠ 1 ∧ (s.upTo t).o (0x9020 + b) 8 ≠ 2)) :=
  ⟨tMs, 0, 0, ⟨0, 0, 1, 1, 0, 0, 0, 5, 0, 0, 1, [(0, List.replicate 24 1)], 3, 6, 0, [], false, false⟩, [⟨1, 0, 0, [(0, List.replicate 24 2)], 16, 0, 4, 1, false, true⟩], { z [(0x6000, 5, 6), (0x6000, 7, 136), (0x1200, 0x0B, 2)] [] with
        ul.own := [⟨0, 0, 1, 1, 0, 0, 0, 5, 0, 0, 1, [(0, List.replicate 24 1)], 3, 6, 0, [], false, false⟩], ul.child := [⟨1, 0, 0, [(0, List.replicate 24 2)], 16, 0, 4, 1, false, true⟩] }, by decide +kernel⟩

theorem test_UplinkCombining_3 : ∃ (t : Tick) (port : Nat) (p : Pkt) (s : State),
    (port = 1 ∨ port = 2) ∧
    ((s.upTo t).chState port = 0) :=
  ⟨0, 1, ⟨5, Cls.u, 0, 9, 5, 0, false, false, false, false, false, []⟩, z [] [], by decide +kernel⟩

theorem test_UplinkCombining_4 : ∃ (t : Tick) (port : Nat) (p : Pkt) (s : State),
    (port = 1 ∨ port = 2) ∧
    ((s.upTo t).chState port ≠ 0) ∧
    ((s.upTo t).matchOwn p.stream (uPrefix p.payload) = none) :=
  ⟨0, 1, ⟨5, Cls.u, 0, 9, 5, 0, false, false, false, false, false, []⟩, z [(0x3036, 1, 1)] [], by decide +kernel⟩

theorem test_UplinkCombining_5 : ∃ (t : Tick) (port : Nat) (p : Pkt) (o : OwnPkt) (s : State),
    (port = 1 ∨ port = 2) ∧
    ((s.upTo t).chState port = 1) ∧
    (((s.upTo t).chst port).admitFrom = none) ∧
    ((s.upTo t).matchOwn p.stream (uPrefix p.payload) = some o) ∧
    ((uPrefix p.payload).first = o.prbFirst) ∧
    ((uPrefix p.payload).count = o.count) ∧
    ((uPrefix p.payload).mw ≤ 6) ∧
    (p.payload.length = uLen (uPrefix p.payload)) ∧
    ((s.upTo t).ul.child.any (fun q => decide (q.port = port ∧ q.e = o.e ∧ q.p = o.p)) = false) ∧
    ((uPrefix p.payload).height < (s.upTo t).at_ o.e 0x1221 0) ∧
    ((uPrefix p.payload).scale ≤ o.scale) ∧
    (o.cut = false) ∧
    ((s.upTo t).time_ ≤ (s.upTo t).tDep o.e o.p - ((tUs / 2 : Nat) : Int)) :=
  ⟨0, 1, ⟨5, Cls.u, 0, 9, 5, 0, false, false, false, false, false, bytesBE 4 (6 * 2 ^ 9) ++ bytesBE 4 (2 ^ 23 + 3) ++ bytesBE 4 1 ++ List.replicate 52 1⟩, ⟨gpsEpoch, 0, 1, 1, 0, 0, 0, 5, 0, 0, 1, [(0, List.replicate 24 1)], 3, 6, 3, [], false, false⟩, { z [(0x3036, 1, 1)] [(0x1221, 0, 1)] with
        timeBase := gpsEpoch, ul.own := [⟨gpsEpoch, 0, 1, 1, 0, 0, 0, 5, 0, 0, 1, [(0, List.replicate 24 1)], 3, 6, 3, [], false, false⟩] }, by decide +kernel⟩

theorem test_UplinkCombining_6 : ∃ (t : Tick) (E : Int) (p : Nat) (o : OwnPkt) (s : State),
    ((s.upTo t).ul.own.find? (fun o => decide (o.e = E ∧ o.p = p)) = some o) ∧
    (o.cut = false) ∧
    ((s.upTo t).tDep E p - ((tUs / 2 : Nat) : Int) ≤ (s.upTo t).time_) ∧
    ((∀ q, q = 1 ∨ q = 2 → (s.upTo t).chState q = 0 ∧ (s.upTo t).ul.child.any (fun z => decide (z.port = q)) = false)) :=
  ⟨tMs, 0, 0, ⟨0, 0, 1, 1, 0, 0, 0, 5, 0, 0, 1, [(0, List.replicate 24 1)], 3, 6, 0, [], false, false⟩, { z [] [] with
        ul.own := [⟨0, 0, 1, 1, 0, 0, 0, 5, 0, 0, 1, [(0, List.replicate 24 1)], 3, 6, 0, [], false, false⟩] }, by
    refine ⟨by decide +kernel, by decide +kernel, by decide +kernel, fun q h => ?_⟩; rcases h with rfl | rfl <;> decide +kernel⟩

theorem test_UplinkCombining_7 : ∃ (t : Tick) (E : Int) (p : Nat) (o : OwnPkt) (q : ChPkt) (s : State),
    ((s.upTo t).ul.own.find? (fun o => decide (o.e = E ∧ o.p = p)) = some o) ∧
    (o.cut = false) ∧
    ((s.upTo t).tDep E p - ((tUs / 2 : Nat) : Int) ≤ (s.upTo t).time_) ∧
    ((s.upTo t).chState 1 = 1) ∧
    (((s.upTo t).chst 1).admitFrom = none) ∧
    ((s.upTo t).chState 2 = 0) ∧
    ((s.upTo t).ul.child = [q]) ∧
    (q.port = 1) ∧
    (q.e = o.e) ∧
    (q.p = o.p) ∧
    (q.dead = false) ∧
    (q.adm = false) ∧
    (o.tally + q.tally ≤ 2 ^ 20) :=
  ⟨tMs, 0, 0, ⟨0, 0, 1, 1, 0, 0, 0, 5, 0, 0, 1, [(0, List.replicate 24 1)], 3, 6, 0, [], false, false⟩, ⟨1, 0, 0, [(0, List.replicate 24 2)], 16, 0, 4, 1, false, false⟩, { z [(0x3036, 1, 1)] [] with
        ul.own := [⟨0, 0, 1, 1, 0, 0, 0, 5, 0, 0, 1, [(0, List.replicate 24 1)], 3, 6, 0, [], false, false⟩], ul.child := [⟨1, 0, 0, [(0, List.replicate 24 2)], 16, 0, 4, 1, false, false⟩] }, by decide +kernel⟩

theorem test_RadioPathsAndFaults_1 : ∃ (t : Tick) (l k q p : Nat) (n T : Int) (s : State),
    (l < 4) ∧
    (k < 14) ∧
    (q < 12) ∧
    (p ∈ pathsOf q) ∧
    (T = (s.upTo t).tAir ((s.upTo t).radioScs n k) n k) ∧
    (txCode ((s.upTo t).patCode T n k) = true) ∧
    ((s.upTo t).settlePins.radioState l = 2) ∧
    ((s.upTo t).loReady l = true) ∧
    ((s.upTo t).a 0x2040 4 ≠ 1) ∧
    ((s.upTo t).dl.stopped = false) ∧
    ((s.upTo t).txLo T q = l) ∧
    ((s.upTo t).mayTx T p = true) ∧
    ((s.upTo t).benchMute T p = false) ∧
    ((s.upTo t).dozes T p = false) :=
  ⟨0, 0, 3, 2, 17, 0, (z [] []).tAir 1 0 3, { zz (z [] []) [(0x5022, 20, 1), (0x2106, 18, 2), (0x2400, 11, 3)] [(0x2000, 18, 1), (0x2020, 2, 1), (0x2020, 3, 1), (0x2020, 4, 2 ^ 1280 - 1)] with
        cal.step := 9, rf.levels := [(768, 2)] }, by decide +kernel⟩

theorem test_RadioPathsAndFaults_2 : ∃ (t : Tick) (l k q : Nat) (n T : Int) (s : State),
    (l < 4) ∧
    (k < 14) ∧
    (q < 12) ∧
    (T = (s.upTo t).tAir ((s.upTo t).radioScs n k) n k) ∧
    (txCode ((s.upTo t).patCode T n k) = true) ∧
    ((s.upTo t).dl.stopped = false) ∧
    ((s.upTo t).rf.denied = false) ∧
    ((s.upTo t).loReady l = false) ∧
    ((∀ x, x < 12 → ((s.upTo t).txLo T x = l ∧ (s.upTo t).tileTx T x = true ↔ x = q))) ∧
    ((∀ p, p ∈ pathsOf q → bit ((s.upTo t).block p) 4 = false)) ∧
    ((pathsOf q).any ((s.upTo t).txOn T) = true) :=
  ⟨0, 0, 3, 2, 0, (z [] []).tAir 1 0 3, { zz (z [] []) [(0x5022, 20, 1), (0x2106, 18, 2)] [(0x2000, 18, 1), (0x2020, 2, 1), (0x2020, 3, 1), (0x2020, 4, 2 ^ 1280 - 1)] with
        cal.step := 9, rf.levels := [(768, 2)] }, by decide +kernel⟩

theorem test_RadioPathsAndFaults_3 : ∃ (t : Tick) (l k q p : Nat) (n O : Int) (s : State),
    (l < 4) ∧
    (k < 14) ∧
    (q < 12) ∧
    (p ∈ pathsOf q) ∧
    (O = (s.upTo t).tAirEnd ((s.upTo t).radioScs n k) n k - (s.upTo t).txBoard) ∧
    ((s.upTo t).txLo (s.upTo t).time_ q = l) ∧
    (bit (s.upTo t).rf.txRun q = true) ∧
    ((s.upTo t).fdd = false) ∧
    ((s.upTo t).power.hand = none) ∧
    ((s.upTo t).rf.cx.use ≠ 2) ∧
    ((s.upTo t).napSlot ((s.upTo t).slotOf ((s.upTo t).a 0x2020 2) (O + (s.upTo t).txBoard)) = false) :=
  ⟨0, 0, 3, 2, 17, 0, (z [] [(0x2020, 2, 1)]).tAirEnd 1 0 3 - (z [] []).txBoard, { z [(0x2106, 18, 18)] [(0x2001, 18, 1), (0x2020, 2, 1)] with
        rf.txRun := 4 }, by decide +kernel⟩

theorem test_RadioPathsAndFaults_4 : ∃ (t : Tick) (l k q p : Nat) (n T : Int) (s : State),
    (l < 4) ∧
    (k < 14) ∧
    (q < 12) ∧
    (p ∈ pathsOf q) ∧
    (T = (s.upTo t).tAir ((s.upTo t).radioScs n k) n k) ∧
    (rxCode ((s.upTo t).patCode T n k) = true) ∧
    ((s.upTo t).dl.stopped = false) ∧
    ((s.upTo t).settlePins.radioState l = 2) ∧
    ((s.upTo t).rxLo T q = l) ∧
    ((s.upTo t).rxOn T p = true) :=
  ⟨0, 0, 3, 2, 17, 0, (z [] []).tAir 1 0 3, { zz (z [] []) [(0x5022, 20, 1)] [(0x2001, 18, 1), (0x2020, 2, 1), (0x2020, 3, 1), (0x2020, 4, 2 ^ 1280 - 1)] with
        cal.step := 9, rf.levels := [(768, 2)] }, by decide +kernel⟩

theorem test_RadioPathsAndFaults_5 : ∃ (t : Tick) (l k q p : Nat) (n O : Int) (s : State),
    (l < 4) ∧
    (k < 14) ∧
    (q < 12) ∧
    (p ∈ pathsOf q) ∧
    (O = (s.upTo t).tAirEnd ((s.upTo t).radioScs n k) n k + (s.upTo t).rxBoard) ∧
    ((s.upTo t).rxLo (s.upTo t).time_ q = l) ∧
    ((s.upTo t).settlePins.radioState l = 3) :=
  ⟨0, 0, 3, 2, 17, 0, (z [] [(0x2020, 2, 1)]).tAirEnd 1 0 3 + (z [] []).rxBoard, { z [] [(0x2020, 2, 1)] with
        rf.levels := [(768, 3)] }, by decide +kernel⟩

theorem test_RadioPathsAndFaults_6 : ∃ (t : Tick) (r : Req) (n v : Nat) (s : State),
    (n < 96) ∧
    (Reaches (s.upTo t) r 0x2002 (n + 1) (objBytes 0x2002 1 v) v) :=
  ⟨0, rq, 95, 3, { z [] [] with rf.atten := [(0, 95, 1, 7), (1, 95, 2, 7)] }, by
    (try and_intros) <;> first | decide +kernel | rfl | (constructor <;> decide +kernel)⟩

theorem test_RadioPathsAndFaults_7 : ∃ (t : Tick) (r : Req) (n v : Nat) (s : State),
    (n < 96) ∧
    (Reaches (s.upTo t) r 0x2003 (n + 1) (objBytes 0x2003 1 v) v) :=
  ⟨0, rl, 0, 3, { z [] [] with rf.atten := [(0, 0, 1, 7), (1, 0, 2, 7)] }, by
    (try and_intros) <;> first | decide +kernel | rfl | (constructor <;> decide +kernel)⟩

theorem test_RadioPathsAndFaults_9 : ∃ (t : Tick) (r : Req) (n : Nat) (s : State),
    (n < 96) ∧
    (Reaches (s.upTo t) r 0x2007 (n + 1) (objBytes 0x2007 1 1) 1) ∧
    ((s.upTo t).o 0x7212 (n + 1) = 0) ∧
    (bit ((s.upTo t).block n) 0 = true ∨ bit ((s.upTo t).block n) 3 = true) :=
  ⟨0, rq, 5, { z [(0x2106, 6, 31)] [] with alarms := [⟨Al.gbFault, 5, 0⟩, ⟨Al.rflTrip, 5, 0⟩, ⟨Al.rflTrip, 6, 0⟩] }, by
    (try and_intros) <;> first | decide +kernel | rfl | (constructor <;> decide +kernel)⟩

theorem test_RadioPathsAndFaults_10 : ∃ (t : Tick) (r : Req) (n : Nat) (s : State),
    (n < 96) ∧
    (Reaches (s.upTo t) r 0x2007 (n + 1) (objBytes 0x2007 1 1) 1) ∧
    ((s.upTo t).o 0x7212 (n + 1) ≠ 0) ∧
    (bit ((s.upTo t).block n) 0 = true) ∧
    ((s.upTo t).pin .driver n = 0) ∧
    ((s.upTo t).rf.edges = []) ∧
    ((s.upTo t).pin .txon n = 0) :=
  ⟨0, rq, 5, { z [(0x2106, 6, 1), (0x7212, 6, 1)] [] with alarms := [⟨Al.gbFault, 5, 0⟩] }, by
    (try and_intros) <;> first | decide +kernel | rfl | (constructor <;> decide +kernel)⟩

theorem test_Coexistence_1 : ∃ (t : Tick) (n : Nat) (s : State),
    ((s.upTo t).a 0x2040 1 = 1) ∧
    ((s.upTo t).rf.cx.req = false) ∧
    ((s.upTo t).rf.cx.gnt = false) ∧
    ((∀ x, (s.upTo t).rf.cx.lowSince = some x → x + tUs ≤ (s.upTo t).now)) ∧
    ((s.upTo t).injFits = true) :=
  ⟨tUs, 5, { z [(0x4411, 6, 32)] [(0x2040, 1, 1)] with rf.cx.lowSince := some 0 }, by decide +kernel⟩

theorem test_Coexistence_2 : ∃ (t : Tick) (s : State),
    ((s.upTo t).a 0x2040 1 = 1) ∧
    ((s.upTo t).a 0x2040 4 = 1) ∧
    ((s.upTo t).rf.cx.req = false) ∧
    ((s.upTo t).rf.cx.gnt = false) ∧
    ((∀ x, (s.upTo t).rf.cx.lowSince = some x → x + tUs ≤ (s.upTo t).now)) ∧
    ((s.upTo t).leadAt.any (fun L => decide (L ≤ (s.upTo t).time_)) = true) :=
  ⟨tUs, { z [] [(0x2040, 1, 1), (0x2040, 4, 1), (0x2040, 5, 65535), (0x2020, 3, 2), (0x2020, 4, 2 ^ 1216)] with
        rf.cx.lowSince := some 0, timeBase := gpsEpoch }, by decide +kernel⟩

theorem test_Coexistence_3 : ∃ (t : Tick) (n : Nat) (s : State),
    ((s.upTo t).a 0x2040 1 = 2) ∧
    ((s.upTo t).rf.cx.req = false) ∧
    ((s.upTo t).injFits = true) :=
  ⟨tUs, 95, { z [] [(0x2040, 1, 2)] with rf.cx.lowSince := some 0 }, by decide +kernel⟩

theorem test_Coexistence_4 : ∃ (t : Tick) (s : State),
    ((s.upTo t).a 0x2040 1 = 1) ∧
    ((s.upTo t).rf.cx.req = true) ∧
    ((s.upTo t).rf.cx.grantAt = none) :=
  ⟨4, { z [] [(0x2040, 1, 1)] with rf.cx.req := true, rf.cx.use := 2 }, by decide +kernel⟩

theorem test_Coexistence_5 : ∃ (t : Tick) (s : State),
    ((s.upTo t).a 0x2040 1 ≠ 2) ∧
    ((s.upTo t).rf.cx.req = false) :=
  ⟨4, { z [(0x2141, 6, 2 ^ 32 - 1)] [(0x2040, 1, 1)] with rf.cx.use := 2 }, by decide +kernel⟩

theorem test_Coexistence_6 : ∃ (t : Tick) (x : Tick) (s : State),
    ((s.upTo t).rf.cx.grantAt = some x) ∧
    ((s.upTo t).rf.cx.use = 1) ∧
    ((s.upTo t).rf.cx.inUse = false) ∧
    (x + (s.upTo t).a 0x2040 6 * tNs ≤ (s.upTo t).now) ∧
    ((s.upTo t).rxHalf = true) ∧
    ((s.upTo t).recipNow = true) ∧
    ((s.upTo t).fits ((s.upTo t).costOf .inj 0) (costOn rRf 4) = true) :=
  ⟨65535 * tNs, 0, { z [] [(0x2040, 1, 1), (0x2020, 3, 1), (0x2020, 4, 2 * 2 ^ 1248 * (2 ^ 28 - 1) / 3)] with
        rf.cx.req := true, rf.cx.use := 1, rf.cx.grantAt := some 0, timeBase := gpsEpoch, cal.step := 8 }, by decide +kernel⟩

theorem test_Coexistence_7 : ∃ (t : Tick) (s : State),
    ((s.upTo t).rf.cx.use = 1) ∧
    ((s.upTo t).rf.cx.inUse = true) :=
  ⟨0, { z [] [(0x2040, 1, 1)] with
        rf.cx.req := true, rf.cx.use := 1, rf.cx.grantAt := some 0, rf.cx.inUse := true, rf.tone := true, grants := [⟨.inj, 0, costOn rRf 4⟩], locks := [(9, ⟨1, none⟩)] }, by decide +kernel⟩

theorem test_Coexistence_8 : ∃ (t : Tick) (s : State),
    ((s.upTo t).a 0x2040 1 ≠ 2) ∧
    ((s.upTo t).rf.cx.req = true) ∧
    ((s.upTo t).rf.cx.use = 1) ∧
    ((s.upTo t).rf.cx.inUse = true) :=
  ⟨9, { z [] [(0x2040, 1, 1)] with
        rf.cx.req := true, rf.cx.use := 1, rf.cx.grantAt := some 0, rf.cx.inUse := true, rf.tone := true, grants := [⟨.inj, 0, costOn rRf 4⟩], locks := [(9, ⟨1, none⟩)] }, by decide +kernel⟩

theorem test_Coexistence_9 : ∃ (t : Tick) (s : State),
    ((s.upTo t).rf.cx.req = true) ∧
    ((s.upTo t).rf.cx.grantAt = none) ∧
    ((s.upTo t).rf.cx.since + (s.upTo t).a 0x2040 2 * tUs ≤ (s.upTo t).now) :=
  ⟨65535 * tUs, { z [] [(0x2040, 1, 1)] with rf.cx.req := true, rf.cx.use := 1 }, by decide +kernel⟩

theorem test_Coexistence_10 : ∃ (t : Tick) (x : Tick) (s : State),
    ((s.upTo t).rf.cx.grantAt = some x) ∧
    (x + (s.upTo t).a 0x2040 3 * tUs ≤ (s.upTo t).now) ∧
    ((s.upTo t).rf.cx.use ≠ 2) :=
  ⟨65535 * tUs, 0, { z [] [(0x2040, 1, 1)] with
        rf.cx.req := true, rf.cx.use := 1, rf.cx.grantAt := some 0, rf.cx.inUse := true, rf.tone := true, grants := [⟨.inj, 0, costOn rRf 4⟩], locks := [(9, ⟨1, none⟩)] }, by decide +kernel⟩

theorem test_Synthesisers_1 : ∃ (t : Tick) (l c : Nat) (s : State),
    (l < 4) ∧
    ((s.upTo t).loOn l = true) ∧
    (((s.upTo t).lo l).upAt = none) ∧
    ((s.upTo t).loLocked l = false) ∧
    (((s.upTo t).lo l).good = 3) ∧
    (((s.upTo t).lo l).divs.nExp ≤ c + 2) ∧
    (c ≤ ((s.upTo t).lo l).divs.nExp + 2) ∧
    ((s.upTo t).clk.hand = none) ∧
    ((∀ e, e ∈ (s.upTo t).rf.failed → e.lo ≠ l ∨ timeCycle e.at_ ≠ timeCycle (s.upTo t).time_)) :=
  ⟨0, 1, ((⟨2, 200, 0, 2⟩ : Divs).nExp + 2), { z [(0x2401, 11, 24)] [] with
        clk.lo := amod 4 Lo.off [] 1 (fun x => { x with divs := ⟨2, 200, 0, 2⟩, on := true, good := 3 }) }, by decide +kernel⟩

theorem test_Synthesisers_2 : ∃ (t : Tick) (l c : Nat) (s : State),
    (l < 4) ∧
    ((s.upTo t).loOn l = true) ∧
    (((s.upTo t).lo l).upAt = none) ∧
    ((s.upTo t).loLocked l = false) ∧
    (((s.upTo t).lo l).good < 3) ∧
    (((s.upTo t).lo l).divs.nExp ≤ c + 2) ∧
    (c ≤ ((s.upTo t).lo l).divs.nExp + 2) :=
  ⟨0, 1, ((⟨2, 200, 0, 2⟩ : Divs).nExp - 2), { z [(0x2401, 11, 24)] [] with
        clk.lo := amod 4 Lo.off [] 1 (fun x => { x with divs := ⟨2, 200, 0, 2⟩, on := true, good := 2 }) }, by decide +kernel⟩

theorem test_Synthesisers_3 : ∃ (t : Tick) (l c : Nat) (s : State),
    (l < 4) ∧
    ((s.upTo t).loOn l = true) ∧
    (((s.upTo t).lo l).upAt = none) ∧
    ((s.upTo t).loLocked l = false) ∧
    (((s.upTo t).lo l).divs.nExp + 2 < c ∨ c + 2 < ((s.upTo t).lo l).divs.nExp) :=
  ⟨0, 1, ((⟨2, 200, 0, 2⟩ : Divs).nExp - 3), { z [(0x2401, 11, 24)] [] with
        clk.lo := amod 4 Lo.off [] 1 (fun x => { x with divs := ⟨2, 200, 0, 2⟩, on := true, good := 2 }) }, by decide +kernel⟩

theorem test_Synthesisers_4 : ∃ (t : Tick) (l c : Nat) (s : State),
    (l < 4) ∧
    ((s.upTo t).loOn l = true) ∧
    (((s.upTo t).lo l).upAt = none) ∧
    ((s.upTo t).loLocked l = true) ∧
    (((s.upTo t).lo l).divs.nExp + 8 < c ∨ c + 8 < ((s.upTo t).lo l).divs.nExp) ∧
    (((s.upTo t).lo l).step = none) ∧
    (((s.upTo t).lo l).stepAt ≠ some (s.upTo t).time_) ∧
    ((s.upTo t).clk.hand = none) ∧
    ((∀ k, k < 12 → bit (s.upTo t).rf.txRun k = false)) ∧
    ((s.upTo t).radioState l ≠ 3) ∧
    ((s.upTo t).radioState l ≠ 5) :=
  ⟨5, 3, ((⟨2, 200, 0, 2⟩ : Divs).nExp + 9), { z [(0x2403, 11, 19), (0x2403, 13, 7)] [] with
        clk.lo := amod 4 Lo.off [] 3 (fun x => { x with divs := ⟨2, 200, 0, 2⟩, on := true, good := 4, lockedAt := some 0 }) }, by decide +kernel⟩

theorem test_Synthesisers_5 : ∃ (t : Tick) (l : Nat) (s : State),
    (l < 4) ∧
    ((s.upTo t).loOn l = true) ∧
    (((s.upTo t).lo l).upAt = none) ∧
    ((s.upTo t).loLocked l = true) ∧
    (((s.upTo t).lo l).step = none) ∧
    (((s.upTo t).lo l).stepAt ≠ some (s.upTo t).time_) ∧
    ((s.upTo t).clk.hand = none) ∧
    ((∀ k, k < 12 → bit (s.upTo t).rf.txRun k = false)) ∧
    ((s.upTo t).radioState l ≠ 3) ∧
    ((s.upTo t).radioState l ≠ 5) :=
  ⟨5, 0, { z [(0x2400, 11, 19), (0x2400, 13, 7)] [] with
        clk.lo := amod 4 Lo.off [] 0 (fun x => { x with on := true, good := 4, lockedAt := some 0 }) }, by decide +kernel⟩

theorem test_Synthesisers_6 : ∃ (t : Tick) (r : Req) (l : Nat) (s : State),
    (l < 4) ∧
    (Reaches (s.upTo t) r (loIdx l) 8 (objBytes (loIdx l) 8 1) 1) ∧
    (((s.upTo t).divBuf l).ok = true) ∧
    ((s.upTo t).divBuf l ≠ ((s.upTo t).lo l).divs) ∧
    ((s.upTo t).loOn l = false) :=
  ⟨0, rq, 2, z [(0x2402, 4, 2), (0x2402, 5, 70), (0x2402, 6, 1), (0x2402, 7, 2)] [], by
    (try and_intros) <;> first | decide +kernel | rfl | (constructor <;> decide +kernel)⟩

theorem test_Synthesisers_7 : ∃ (t : Tick) (r : Req) (l : Nat) (s : State),
    (l < 4) ∧
    (Reaches (s.upTo t) r (loIdx l) 8 (objBytes (loIdx l) 8 1) 1) ∧
    (((s.upTo t).divBuf l).ok = false) :=
  ⟨0, rq, 2, z [(0x2402, 4, 2), (0x2402, 5, 20), (0x2402, 6, 1), (0x2402, 7, 2)] [], by
    (try and_intros) <;> first | decide +kernel | rfl | (constructor <;> decide +kernel)⟩

theorem test_Synthesisers_8 : ∃ (t : Tick) (r : Req) (l v : Nat) (s : State),
    (l < 4) ∧
    (Reaches (s.upTo t) r (loIdx l) 0x0A (objBytes (loIdx l) 0x0A v) v) ∧
    ((s.upTo t).loReady l = true) :=
  ⟨0, rq, 2, 0xFFFF, z [(0x2402, 11, 3)] [], by
    (try and_intros) <;> first | decide +kernel | rfl | (constructor <;> decide +kernel)⟩

theorem test_Synthesisers_9 : ∃ (t : Tick) (r : Req) (l v : Nat) (s : State),
    (l < 4) ∧
    (Reaches (s.upTo t) r (loIdx l) 0x0A (objBytes (loIdx l) 0x0A v) v) ∧
    ((s.upTo t).loReady l = false) :=
  ⟨0, rq, 2, 0xFFFF, z [(0x2402, 11, 8)] [], by
    (try and_intros) <;> first | decide +kernel | rfl | (constructor <;> decide +kernel)⟩

theorem test_Synthesisers_10 : ∃ (t : Tick) (l : Nat) (x : Tick) (s : State),
    (l < 4) ∧
    (((s.upTo t).lo l).upAt = some x) ∧
    ((s.upTo t).clk.hand = none) ∧
    (x + (if (s.upTo t).o 0x2420 3 = 1 then 40 * tUs else 2 * tMs) ≤ (s.upTo t).now) :=
  ⟨2 * tMs, 2, 0, { z [] [] with clk.lo := amod 4 Lo.off [] 2 (fun x => { x with on := true, upAt := some 0 }) }, by decide +kernel⟩

theorem test_Synthesisers_11 : ∃ (t : Tick) (x y : Nat) (s : State),
    (x < 4) ∧
    (y < 4) ∧
    (x ≠ y) ∧
    ((s.upTo t).clk.hand = none) ∧
    ((s.upTo t).noSpare = false) ∧
    ((s.upTo t).a (loIdx x) 1 = 1) ∧
    ((s.upTo t).a (loIdx y) 1 = 2) ∧
    ((s.upTo t).fits ((s.upTo t).costOf .lo y) loCost = true) :=
  ⟨2, 0, 3, { z [(0x2400, 11, 3), (0x2403, 11, 3)] [(0x2400, 1, 1), (0x2403, 1, 2)] with
        clk.lo := amod 4 Lo.off [] 0 (fun x => { x with on := true, divs := ⟨2, 200, 0, 2⟩ }) }, by decide +kernel⟩

theorem test_Synthesisers_12 : ∃ (t : Tick) (x y : Nat) (s : State),
    (x < 4) ∧
    (y < 4) ∧
    (x ≠ y) ∧
    ((s.upTo t).clk.hand = none) ∧
    ((s.upTo t).noSpare = false) ∧
    ((s.upTo t).a (loIdx x) 1 = 1) ∧
    ((s.upTo t).a (loIdx y) 1 = 2) ∧
    ((s.upTo t).fits ((s.upTo t).costOf .lo y) loCost = false) :=
  ⟨0, 0, 3, z [(0x5000, 3, 11)] [(0x2400, 1, 1), (0x2403, 1, 2)], by decide +kernel⟩

theorem test_Synthesisers_13 : ∃ (t : Tick) (x y : Nat) (s : State),
    (x < 4) ∧
    (y < 4) ∧
    (x ≠ y) ∧
    ((s.upTo t).clk.hand = none) ∧
    ((s.upTo t).noSpare = true) :=
  ⟨0, 0, 3, z [] [(0x2410, 1, 0), (0x2410, 2, 1 * 17), (0x2410, 3, 2 * 17), (0x2410, 4, 3 * 17)], by decide +kernel⟩

theorem test_Synthesisers_14 : ∃ (t : Tick) (lead : Int) (h : Handover) (s : State),
    ((s.upTo t).clk.hand = some h) ∧
    (h.stage = 2) ∧
    (h.sp < 4) :=
  ⟨0, 5, ⟨0, 3, 2, false⟩, { z [] [] with clk.hand := some ⟨0, 3, 2, false⟩ }, by decide +kernel⟩

theorem test_ReferenceAndClockPlls_1 : ∃ (t : Tick) (f : Nat) (s : State),
    (f < 2 ^ 32) ∧
    ((s.upTo t).a 0x2420 1 = 0) ∧
    ((s.upTo t).o 0x2420 3 = 0 ∨ (s.upTo t).o 0x2420 3 = 3) ∧
    ((s.upTo t).clk.slewing = false) ∧
    (refOk f = false) :=
  ⟨0, 30716, z [] [], by decide +kernel⟩

theorem test_ReferenceAndClockPlls_2 : ∃ (t : Tick) (f : Nat) (s : State),
    (f < 2 ^ 32) ∧
    ((s.upTo t).a 0x2420 1 = 0) ∧
    ((s.upTo t).o 0x2420 3 = 0 ∨ (s.upTo t).o 0x2420 3 = 3) ∧
    ((s.upTo t).clk.slewing = false) ∧
    (refOk f = true) :=
  ⟨0, 30717, z [(0x2420, 3, 3)] [], by decide +kernel⟩

theorem test_ReferenceAndClockPlls_3 : ∃ (t : Tick) (s : State),
    ((s.upTo t).o 0x2420 3 = 1 ∨ (s.upTo t).clk.slewing = true) :=
  ⟨0, z [(0x2420, 3, 1)] [], by decide +kernel⟩

theorem test_ReferenceAndClockPlls_4 : ∃ (t : Tick) (s : State),
    ((s.upTo t).o 0x2420 3 = 3) ∧
    ((s.upTo t).clk.slewing = false) :=
  ⟨0, z [(0x2420, 3, 3), (0x2420, 2, 9)] [], by decide +kernel⟩

theorem test_ReferenceAndClockPlls_5 : ∃ (t : Tick) (s : State),
    ((s.upTo t).o 0x2420 3 = 2) :=
  ⟨0, z [(0x2420, 3, 2)] [], by decide +kernel⟩

theorem test_ReferenceAndClockPlls_6 : ∃ (t : Tick) (s : State),
    ((s.upTo t).clk.slewing = true) :=
  ⟨0, { z [(0x2420, 3, 2)] [] with clk.slewing := true, alarms := [⟨Al.refLost, 0, 0⟩] }, by decide +kernel⟩

theorem test_ReferenceAndClockPlls_7 : ∃ (t : Tick) (s : State),
    ((s.upTo t).pllLocked 3 = true) ∧
    ((s.upTo t).cpAbsent = none) :=
  ⟨5, z [(0x2420, 8, 0x3F)] [], by decide +kernel⟩

theorem test_ReferenceAndClockPlls_8 : ∃ (t : Tick) (s : State),
    ((s.upTo t).pllLocked 2 = true) ∧
    ((∀ p, p < 3 → (s.upTo t).portState p = 0)) :=
  ⟨5, z [(0x2420, 8, 0x3F)] [], by decide +kernel⟩

theorem test_ReferenceAndClockPlls_9 : ∃ (t : Tick) (s : State),
    ((s.upTo t).pllLocked 5 = true) :=
  ⟨5, { z [(0x2420, 8, 0x3F)] [] with clk.pllAt := [(5, some 3)] }, by decide +kernel⟩

theorem test_ReferenceAndClockPlls_10 : ∃ (t : Tick) (n : Nat) (s : State),
    (n = 0 ∨ n = 1) ∧
    ((s.upTo t).pllLocked n = true) ∧
    ((∀ k, k < 12 → bit (s.upTo t).rf.txRun k = false)) :=
  ⟨0, 1, { z [(0x2420, 8, 0x3F)] [] with clk.resume := true }, by decide +kernel⟩

theorem test_ReferenceAndClockPlls_11 : ∃ (t : Tick) (n : Nat) (s : State),
    (n = 0 ∨ n = 1) ∧
    ((s.upTo t).granted .pll n = true) ∧
    ((s.upTo t).pllLocked n = false) ∧
    ((s.upTo t).dl.stopped = true) :=
  ⟨0, 1, { z [(0x2420, 8, 0x3D)] [] with dl.stopped := true, grants := [⟨.pll, 1, pllCost 1⟩] }, by decide +kernel⟩

theorem test_ReferenceAndClockPlls_12 : ∃ (t : Tick) (s : State),
    ((∀ n, n < 6 → (s.upTo t).granted .pll n = true → (s.upTo t).pllLocked n = true ∧
      ∃ x, smGet none (s.upTo t).clk.pllAt n = some x ∧ x + tSec ≤ (s.upTo t).now)) :=
  ⟨tSec, { z [(0x2420, 8, 0x3F)] [] with
        grants := [⟨.pll, 1, pllCost 1⟩], clk.pllAt := [(1, some 0)], alarms := [⟨Al.clkUnlock, 0, 0⟩] }, by decide +kernel⟩

theorem test_ReferenceAndClockPlls_13 : ∃ (t : Tick) (l : Nat) (x : Tick) (s : State),
    (l < 4) ∧
    (((s.upTo t).lo l).lockedAt = some x) ∧
    ((s.upTo t).loLocked l = true) ∧
    (x + tSec ≤ (s.upTo t).now) :=
  ⟨tSec, 2, 0, { z [(0x2402, 11, 1)] [] with
        clk.lo := amod 4 Lo.off [] 2 (fun x => { x with on := true, lockedAt := some 0 }), alarms := [⟨Al.loUnlock, 2, 0⟩] }, by decide +kernel⟩

theorem test_PredistorterAdaptation_1 : ∃ (t : Tick) (c n : Nat) (s : State),
    (MemOk s) ∧
    ((s.upTo t).domOn Dom.dc = true) ∧
    ((s.upTo t).cpAbsent = none) ∧
    ((List.range ((s.upTo t).a 0x4000 5)).find? (fun c => !(s.upTo t).granted .dcCore c) = some c) ∧
    (((List.range 96).map (fun i => ((s.upTo t).dpd.next + i) % 96)).find? (s.upTo t).due = some n) ∧
    ((s.upTo t).fits ((s.upTo t).costOf .dcCore c) coreCost = true) :=
  ⟨0, 1, 5, { z [(0x5022, 15, 1)] [(0x4001, 6, 2), (0x4000, 5, 2)] with cal.step := 9, grants := [⟨.dcCore, 0, coreCost⟩] }, by
    (try and_intros) <;> first | decide +kernel | rfl | (constructor <;> decide +kernel)⟩

theorem test_PredistorterAdaptation_2 : ∃ (t : Tick) (s : State),
    ((s.upTo t).domOn Dom.dc = false) :=
  ⟨0, z [] [(0x4001, 6, 2)], by decide +kernel⟩

theorem test_PredistorterAdaptation_3 : ∃ (t : Tick) (x i : Nat) (x0 : Tick) (a : DpdAtt) (ref orx : List Nat) (s : State),
    (x < 8) ∧
    (i < 12) ∧
    (MemOk s) ∧
    (((s.upTo t).ox x).settled = some x0) ∧
    ((s.upTo t).holder x = i) ∧
    (((s.upTo t).dp (12 * x + i)).att = some a) ∧
    (ref.length = 4096) ∧
    (orx.length = 4096) ∧
    (x0 + (s.upTo t).capTicks ≤ (s.upTo t).now) ∧
    (orxClipped orx = false) ∧
    (belowLevel ref ((s.upTo t).ai 0x4000 7) = false) ∧
    ((s.upTo t).captureHurt (12 * x + i) x0 a = false) :=
  ⟨100 * tUs, 7, 11, 3, ⟨0, false, 0, 0, 0, 0⟩, List.replicate 4096 0x40004000, List.replicate 4096 0x00100010, { z [(0x2420, 6, 0), (0x4210, 8, 11)] [(0x4001, 96, 2)] with
        cal.step := 9, rf.levels := [(3 * 128 + 95, 1)], dpd.orx := amod 8 Orx.init [] 7 (fun o => { o with settled := some 3 }), dpd.paths := [(95, { DpdPath.init with att := some ⟨0, false, 0, 0, 0, 0⟩ })], mem := [(0x20170000, 3)] }, by
    (try and_intros) <;> first | decide +kernel | rfl | (constructor <;> decide +kernel)⟩

theorem test_PredistorterAdaptation_4 : ∃ (t : Tick) (x i : Nat) (x0 : Tick) (a : DpdAtt) (ref orx : List Nat) (s : State),
    (x < 8) ∧
    (i < 12) ∧
    (MemOk s) ∧
    (((s.upTo t).ox x).settled = some x0) ∧
    ((s.upTo t).holder x = i) ∧
    (((s.upTo t).dp (12 * x + i)).att = some a) ∧
    (ref.length = 4096) ∧
    (orx.length = 4096) ∧
    (x0 + (s.upTo t).capTicks ≤ (s.upTo t).now) ∧
    (orxClipped orx = true ∨ belowLevel ref ((s.upTo t).ai 0x4000 7) = true ∨ (s.upTo t).captureHurt (12 * x + i) x0 a = true) :=
  ⟨100 * tUs, 7, 11, 3, ⟨2, false, 0, 0, 0, 0⟩, List.replicate 4096 1, List.replicate 4096 0x00100010, { z [(0x2420, 6, 0), (0x4210, 8, 11)] [(0x4001, 96, 2)] with
        dpd.orx := amod 8 Orx.init [] 7 (fun o => { o with settled := some 3 }), dpd.paths := [(95, { DpdPath.init with att := some ⟨2, false, 0, 0, 0, 0⟩ })], grants := [⟨.dcCore, 2, coreCost⟩] }, by
    (try and_intros) <;> first | decide +kernel | rfl | (constructor <;> decide +kernel)⟩

theorem test_PredistorterAdaptation_5 : ∃ (t : Tick) (n : Nat) (nmse gain : Int) (chat : List (Int × Int)) (a : DpdAtt) (s : State),
    (n < 96) ∧
    (((s.upTo t).dp n).att = some a) ∧
    (a.captured = true) ∧
    (((s.upTo t).dp n).led = none) ∧
    ((s.upTo t).activeBank n ≠ 0xFF) ∧
    ((dpdUpdate ((s.upTo t).a 0x4003 (n + 1)) (bankCoefs ((s.upTo t).bank n ((s.upTo t).activeBank n % 8))) ((s.upTo t).a 0x4000 3)
      chat).2 = 0) :=
  ⟨0, 95, -700, 40000, [(100, -100)], ⟨2, true, 0, 0, 0, 0⟩, { z [(0x4104, 96, 1)] [(0x4003, 96, 0x9000 * 2 ^ 1008)] with
        dpd.paths := [(95, { DpdPath.init with att := some ⟨2, true, 0, 0, 0, 0⟩ })], grants := [⟨.dcCore, 2, coreCost⟩] }, by decide +kernel⟩

theorem test_PredistorterAdaptation_6 : ∃ (t : Tick) (n : Nat) (nmse gain : Int) (chat : List (Int × Int)) (a : DpdAtt) (l : Int) (s : State),
    (n < 96) ∧
    (((s.upTo t).dp n).att = some a) ∧
    (a.captured = true) ∧
    (((s.upTo t).dp n).led = some l) ∧
    (l + ((s.upTo t).a 0x4000 4 : Int) < clampI (-600) 32767 nmse) :=
  ⟨0, 95, -300, 40000, [], ⟨2, true, 0, 0, 0, 0⟩, -400, { z [(0x4104, 96, 1)] [] with
        dpd.paths := [(95, { DpdPath.init with led := some (-400), att := some ⟨2, true, 0, 0, 0, 0⟩ })], grants := [⟨.dcCore, 2, coreCost⟩] }, by decide +kernel⟩

theorem test_PredistorterAdaptation_7 : ∃ (t : Tick) (n : Nat) (s : State),
    (n < 96) ∧
    ((s.upTo t).dpdMode n = 2) ∧
    (((s.upTo t).dp n).mark + (s.upTo t).a 0x4000 1 * tMs ≤ (s.upTo t).now) ∧
    (((s.upTo t).dp n).att = none) :=
  ⟨3600 * tSec, 3, z [] [(0x4001, 4, 2)], by decide +kernel⟩

theorem test_PredistorterAdaptation_8 : ∃ (t : Tick) (n : Nat) (s : State),
    (n < 96) ∧
    ((s.upTo t).dpdMode n = 2) ∧
    ((s.upTo t).a 0x4000 2 < (s.upTo t).coefAge n) ∧
    (((s.upTo t).dp n).stale = false) :=
  ⟨3600 * tSec, 3, z [] [(0x4001, 4, 2)], by decide +kernel⟩

theorem test_PredistorterAdaptation_10 : ∃ (t : Tick) (core n : Nat) (a : DpdAtt) (s : State),
    (n < 96) ∧
    (((s.upTo t).dp n).att = some a) ∧
    (a.core = core) ∧
    ((∀ m, m < 96 → m ≠ n → ∀ b, ((s.upTo t).dp m).att = some b → b.core ≠ core)) ∧
    ((s.upTo t).holder (oxOf n) ≠ n % 12) ∧
    (MemOk s) :=
  ⟨0, 3, 13, ⟨3, false, 0, 0, 0, 0⟩, { z [(0x4210, 2, 15)] [] with
        dpd.paths := [(13, { DpdPath.init with att := some ⟨3, false, 0, 0, 0, 0⟩ })], grants := [⟨.dcCore, 3, coreCost⟩] }, by
    (try and_intros) <;> first | decide +kernel | rfl | (constructor <;> decide +kernel)⟩

theorem test_PredistorterAdaptation_11 : ∃ (t : Tick) (core : Nat) (s : State),
    ((∀ m, m < 96 → ∀ b, ((s.upTo t).dp m).att = some b → b.core ≠ core)) ∧
    (MemOk s) :=
  ⟨0, 9, { z [] [] with
        cal.made := [(3, 2, some 9), (4, 1, some 8), (5, 2, none)], grants := [⟨.dcCore, 9, coreCost⟩, ⟨.dcCore, 8, coreCost⟩] }, by
    (try and_intros) <;> first | decide +kernel | rfl | (constructor <;> decide +kernel)⟩

theorem test_ObservationArbiter_1 : ∃ (t : Tick) (x i code lo : Nat) (a : DpdAtt) (s : State),
    (x < 8) ∧
    (i < 12) ∧
    (((s.upTo t).dp (12 * x + i)).att = some a) ∧
    (a.captured = false) ∧
    ((s.upTo t).orxOn x = true) ∧
    ((s.upTo t).runUsable (12 * x + i) = true) ∧
    ((s.upTo t).holder x ≠ i) ∧
    (((s.upTo t).ox x).queue.any (fun q => q.who == i) = false) ∧
    ((∀ q, q ∈ ((s.upTo t).ox x).queue → q.who < 14)) :=
  ⟨5, 7, 3, 9, 1, ⟨2, false, 0, 0, 0, 0⟩, { z [(0x4210, 8, 15)] [(0x2020, 3, 1), (0x2020, 4, 0x5555555 * 2 ^ 1248)] with
        timeBase := gpsEpoch, grants := [⟨.orx, 7, orxCost⟩], rf.levels := [(3 * 128 + 87, 1)], dpd.paths := [(87, { DpdPath.init with att := some ⟨2, false, 0, 0, 0, 0⟩ })] }, by decide +kernel⟩

theorem test_ObservationArbiter_2 : ∃ (t : Tick) (x who code lo : Nat) (s : State),
    (x < 8) ∧
    (who = 12 ∨ who = 13) ∧
    (code < 15) ∧
    ((s.upTo t).orxOn x = true) ∧
    ((s.upTo t).holder x ≠ who) ∧
    (((s.upTo t).ox x).queue.any (fun q => q.who == who) = false) ∧
    ((∀ q, q ∈ ((s.upTo t).ox x).queue → q.who < 14)) :=
  ⟨5, 7, 13, 14, 5, { z [] [] with
        grants := [⟨.orx, 7, orxCost⟩], dpd.orx := amod 8 Orx.init [] 7 (fun o => { o with queue := [⟨3, 0, 3, 9, false, 0, none⟩] }) }, by decide +kernel⟩

theorem test_ObservationArbiter_3 : ∃ (t : Tick) (x : Nat) (r : OrxReq) (l : List OrxReq) (s : State),
    (x < 8) ∧
    ((s.upTo t).holder x = 15) ∧
    ((s.upTo t).orxOn x = true) ∧
    ((s.upTo t).grantOrder ((s.upTo t).ox x).queue = r :: l) ∧
    (((s.upTo t).ox x).freeAt ≤ (s.upTo t).now) ∧
    (r.who < 14) :=
  ⟨5, 7, ⟨12, 2, 14, 9, false, 0, some 1⟩, [⟨3, 0, 3, 9, false, 0, none⟩], { z [(0x4210, 8, 15)] [] with
        grants := [⟨.orx, 7, orxCost⟩], dpd.orx := amod 8 Orx.init [] 7 (fun o => { o with queue := [⟨3, 0, 3, 9, false, 0, none⟩, ⟨12, 2, 14, 9, false, 0, some 1⟩] }) }, by decide +kernel⟩

theorem test_ObservationArbiter_4 : ∃ (t : Tick) (x who : Nat) (s : State),
    (x < 8) ∧
    (who = 12 ∨ who = 13) ∧
    ((s.upTo t).holder x = who) ∧
    (((s.upTo t).ox x).settled = none) ∧
    (((s.upTo t).ox x).freeAt ≤ (s.upTo t).now) :=
  ⟨5, 2, 12, z [(0x4210, 3, 12)] [], by decide +kernel⟩

theorem test_ObservationArbiter_5 : ∃ (t : Tick) (x i : Nat) (a : DpdAtt) (s : State),
    (x < 8) ∧
    (i < 12) ∧
    ((s.upTo t).holder x = i) ∧
    (((s.upTo t).ox x).settled = none) ∧
    (((s.upTo t).ox x).freeAt ≤ (s.upTo t).now) ∧
    (((s.upTo t).dp (12 * x + i)).att = some a) :=
  ⟨5, 2, 11, ⟨3, false, 9, 9, 9, 0⟩, { z [(0x4210, 3, 11)] [] with
        dpd.paths := [(35, { DpdPath.init with att := some ⟨3, false, 9, 9, 9, 0⟩ })] }, by decide +kernel⟩

theorem test_ObservationArbiter_6 : ∃ (t : Tick) (x : Nat) (x0 : Tick) (s : State),
    (x < 8) ∧
    ((s.upTo t).holder x < 14) ∧
    (((s.upTo t).ox x).settled = some x0) :=
  ⟨tMs, 2, 9, { z [(0x4210, 3, 11), (0x4211, 3, 2 ^ 32 - 1)] [] with
        dpd.orx := amod 8 Orx.init [] 2 (fun o => { o with settled := some 9 }), locks := [(2, ⟨1, none⟩)] }, by decide +kernel⟩

theorem test_ObservationArbiter_7 : ∃ (t : Tick) (x who : Nat) (s : State),
    (x < 8) ∧
    ((s.upTo t).holder x = 15) ∧
    (((s.upTo t).ox x).limited = some (who, (s.upTo t).arbCycle (s.upTo t).now)) :=
  ⟨tMs, 2, 3, { z [(0x4210, 3, 15), (0x4213, 3, 1)] [] with
        dpd.orx := amod 8 Orx.init [] 2 (fun o => { o with limited := some (3, (z [] []).arbCycle tMs) }) }, by decide +kernel⟩

theorem test_ObservationArbiter_8 : ∃ (t : Tick) (x : Nat) (s : State),
    (x < 8) ∧
    ((s.upTo t).holder x < 14) ∧
    (((s.upTo t).ox x).settled = none) :=
  ⟨tMs, 2, { z [(0x4210, 3, 13)] [] with locks := [(2, ⟨1, none⟩)] }, by decide +kernel⟩

theorem test_ObservationArbiter_9 : ∃ (t : Tick) (x : Nat) (s : State),
    (x < 8) ∧
    ((s.upTo t).holder x < 12) ∧
    (((s.upTo t).ox x).at_ + ((s.upTo t).ox x).limit ≤ (s.upTo t).now) :=
  ⟨tMs, 2, { z [(0x4210, 3, 0)] [] with
        locks := [(2, ⟨1, none⟩)], dpd.orx := amod 8 Orx.init [] 2 (fun o => { o with settled := some 9, at_ := 4, limit := tMs - 4 }) }, by decide +kernel⟩

theorem test_ObservationArbiter_10 : ∃ (t : Tick) (x : Nat) (e : Tick) (s : State),
    (x < 8) ∧
    ((s.upTo t).holder x = 13) ∧
    (((s.upTo t).lock x).leaseEnd = some e) ∧
    (e < (s.upTo t).now) :=
  ⟨tMs, 2, tMs - 1, { z [(0x4210, 3, 13)] [] with locks := [(2, ⟨2, some (tMs - 1)⟩)] }, by decide +kernel⟩

theorem test_ObservationArbiter_11 : ∃ (t : Tick) (x : Nat) (s : State),
    (x < 8) ∧
    ((s.upTo t).holder x = 12 ∨ (s.upTo t).holder x = 13) ∧
    (((s.upTo t).ox x).long = false) ∧
    (((s.upTo t).ox x).at_ + (s.upTo t).a 0x4200 9 * tUs < (s.upTo t).now) :=
  ⟨tSec, 2, z [(0x4210, 3, 13)] [], by decide +kernel⟩

theorem test_Calibration_1 : ∃ (t : Tick) (d : Int) (s : State),
    (d.natAbs ≤ 200) :=
  ⟨0, -200, { z [(0x4400, 11, 2)] [] with alarms := [⟨Al.rextFault, 0, 0⟩] }, by decide +kernel⟩

theorem test_Calibration_2 : ∃ (t : Tick) (d : Int) (s : State),
    (200 < d.natAbs) ∧
    (-32768 ≤ d) ∧
    (d ≤ 32767) :=
  ⟨5, -201, z [(0x4400, 11, 1)] [], by decide +kernel⟩

theorem test_Calibration_3 : ∃ (t : Tick) (x : Tick) (m : List (Nat × Nat × List Int)) (s : State),
    ((s.upTo t).cal.step = 1) ∧
    ((s.upTo t).cal.stepAt = some x) ∧
    ((s.upTo t).power.brief = false) ∧
    (((s.upTo t).release .bench 0).fits noCost (costOn rCore 3) = true) ∧
    ((s.upTo t).raised Al.calStartFail 0 = true) :=
  ⟨5, 3, [], { z [] [] with
        cal.step := 1, cal.stepAt := some 3, cal.spent := 7, alarms := [⟨Al.calStartFail, 0, 0⟩], grants := [⟨.bench, 0, costOn rCore 3⟩] }, by decide +kernel⟩

theorem test_Calibration_4 : ∃ (t : Tick) (x : Tick) (n : Nat) (o g k o' g' k' : Int) (s : State),
    (n < 96) ∧
    ((s.upTo t).cal.step = 4) ∧
    ((s.upTo t).cal.stepAt = some x) ∧
    ((s.upTo t).power.brief = false) ∧
    ((∀ p, p < 96 → (s.upTo t).pathOn p = false)) ∧
    (o.natAbs ≤ 16) ∧
    (g.natAbs ≤ 300) ∧
    (k.natAbs ≤ 5) ∧
    (o'.natAbs ≤ 16) ∧
    (g'.natAbs ≤ 300) ∧
    (k'.natAbs ≤ 5) ∧
    (((s.upTo t).release .bench 0).fits noCost (costOn rCore 3) = true) :=
  ⟨5, 3, 95, 16, -300, 5, -16, 300, -5, { z [(0x2112, 96, 0x77), (0x4411, 96, 2)] [] with
        cal.step := 4, cal.stepAt := some 3, grants := [⟨.bench, 0, costOn rCore 3⟩], alarms := [⟨Al.calOverdue, 95, 0⟩] }, by decide +kernel⟩

theorem test_Calibration_5 : ∃ (t : Tick) (n c : Nat) (b : Bench) (s : State),
    (n < 96) ∧
    ((s.upTo t).cal.bench = some b) ∧
    (b.running = true) ∧
    (n ∈ b.paths) ∧
    (smGet 0 (s.upTo t).cal.prog (2 * n + 1) = 0) ∧
    ((s.upTo t).loReady ((s.upTo t).rxLo (s.upTo t).time_ (tileOf n)) = true) ∧
    ((List.range 24).find? (fun c => decide ((s.upTo t).a 0x4000 5 ≤ c) && !(s.upTo t).granted .dcCore c) = some c) ∧
    ((s.upTo t).domOn Dom.dc = true) ∧
    ((s.upTo t).fits ((s.upTo t).costOf .dcCore c) coreCost = true) ∧
    ((s.upTo t).assayRan b n 1 0 = true) ∧
    (MemOk s) :=
  ⟨500 * tUs, 3, 5, ⟨0, [3, 4], 0, 9, true, .rotation, false⟩, { z [(0x2400, 11, 2), (0x5022, 15, 1)] [(0x4000, 5, 4)] with
        cal.bench := some ⟨0, [3, 4], 0, 9, true, .rotation, false⟩, grants := [⟨.dcCore, 4, coreCost⟩] }, by
    (try and_intros) <;> first | decide +kernel | rfl | (constructor <;> decide +kernel)⟩

theorem test_Calibration_6 : ∃ (t : Tick) (n : Nat) (b : Bench) (s : State),
    (n < 96) ∧
    ((s.upTo t).cal.bench = some b) ∧
    (b.running = true) ∧
    (n ∈ b.paths) ∧
    (smGet 0 (s.upTo t).cal.prog (2 * n + 1) = 0) ∧
    ((s.upTo t).loReady ((s.upTo t).rxLo (s.upTo t).time_ (tileOf n)) = false) :=
  ⟨5, 3, ⟨0, [3, 4], 0, 9, true, .rotation, false⟩, { z [(0x2400, 11, 1)] [] with
        cal.bench := some ⟨0, [3, 4], 0, 9, true, .rotation, false⟩ }, by decide +kernel⟩

theorem test_Calibration_7 : ∃ (t : Tick) (n a c : Nat) (z : Int) (l : List Int) (s : State),
    (n < 96) ∧
    (a = 2 ∨ a = 3 ∨ a = 4) ∧
    ((s.upTo t).cal.made = [(n, a, some c)]) ∧
    ((s.upTo t).cpLost = false) ∧
    (z ≤ (if a = 2 then -600 else -500)) :=
  ⟨5, 3, 2, 5, -600, [7, 8], { zz { State.reset with
        cpAbsent := none } [(0x4410, 4, 4)] [] with cal.made := [(3, 2, some 5)], grants := [⟨.dcCore, 5, coreCost⟩], cal.ready := [⟨3, 2, []⟩, ⟨3, 3, []⟩] }, by decide +kernel⟩

theorem test_Calibration_8 : ∃ (t : Tick) (n a c : Nat) (z : Int) (l : List Int) (s : State),
    (n < 96) ∧
    (a = 2 ∨ a = 3 ∨ a = 4) ∧
    ((s.upTo t).cal.made = [(n, a, some c)]) ∧
    ((s.upTo t).cpLost = false) ∧
    ((if a = 2 then -600 else -500) < z) ∧
    (n ∉ (s.upTo t).cal.alarmed) :=
  ⟨5, 3, 2, 5, -599, [7, 8], { zz { State.reset with
        cpAbsent := none } [] [] with cal.made := [(3, 2, some 5)], grants := [⟨.dcCore, 5, coreCost⟩] }, by decide +kernel⟩

theorem test_Calibration_9 : ∃ (t : Tick) (k v : Nat) (l : List (Nat × Nat)) (s : State),
    ((s.upTo t).cal.storeQ = (k, v) :: l) :=
  ⟨0, 9, 7, [(1, 1)], { z [] [] with cal.storeQ := [(9, 7), (1, 1)] }, by decide +kernel⟩

theorem test_Calibration_10 : ∃ (t : Tick) (x : Tick) (s : State),
    ((s.upTo t).dl.chfSince = some x) ∧
    (x + 60 * tSec ≤ (s.upTo t).now) ∧
    ((s.upTo t).raised Al.chfPending 0 = false) :=
  ⟨60 * tSec, 0, { z [] [] with dl.chfSince := some 0 }, by decide +kernel⟩

theorem test_Calibration_11 : ∃ (t : Tick) (x : Tick) (s : State),
    ((s.upTo t).ul.chfSince = some x) ∧
    (x + 60 * tSec ≤ (s.upTo t).now) ∧
    ((s.upTo t).raised Al.ulChfPending 0 = false) :=
  ⟨60 * tSec, 0, { z [] [] with ul.chfSince := some 0 }, by decide +kernel⟩

theorem test_Calibration_12 : ∃ (t : Tick) (r : Req) (v : Nat) (s : State),
    (v < 96) ∧
    (Reaches (s.upTo t) r 0x4400 8 (objBytes 0x4400 8 v) v) ∧
    ((s.upTo t).a 0x4400 1 ≠ 0) ∧
    ((s.upTo t).pathOn v = true) :=
  ⟨0, rq, 95, z [] [(0x4400, 1, 1), (0x2001, 96, 1), (0x4400, 2, 2)], by
    (try and_intros) <;> first | decide +kernel | rfl | (constructor <;> decide +kernel)⟩

theorem test_Calibration_13 : ∃ (t : Tick) (r : Req) (v : Nat) (s : State),
    (Reaches (s.upTo t) r 0x4400 8 (objBytes 0x4400 8 v) v) ∧
    ((s.upTo t).a 0x4400 1 = 0 ∨ 95 < v ∨ (s.upTo t).pathOn v = false) :=
  ⟨0, rq, 95, z [] [(0x4400, 1, 1), (0x2001, 95, 1)], by
    (try and_intros) <;> first | decide +kernel | rfl | (constructor <;> decide +kernel)⟩

theorem test_Calibration_14 : ∃ (t : Tick) (n a : Nat) (x : Tick) (s : State),
    (n < 96) ∧
    (a < 6) ∧
    (smGet 0 (s.upTo t).cal.resAt (8 * n + a) = x + 1) ∧
    (x + (s.upTo t).a 0x4400 6 * tSec < (s.upTo t).now) ∧
    ((s.upTo t).o 0x4411 (n + 1) = 0) :=
  ⟨10 ^ 9 * tSec, 95, 5, 0, { z [] [] with cal.resAt := [(765, 1)] }, by decide +kernel⟩

theorem test_Ageing_1 : ∃ (t : Tick) (c : List (Nat × Nat)) (m : Nat) (s : State),
    (m < 36) ∧
    ((c.getD m (0, 0)).1 ≠ 0) ∧
    ((monDoms m).all (s.upTo t).domOn = true) :=
  ⟨0, List.replicate 36 (1000, 999), 35, { z [(0x5022, 17, 1), (0x5022, 18, 1), (0x4801, 1, 5), (0x6107, 9, 3)] [] with
        cal.ageHist := [(35, List.replicate 16 10000)] }, by decide +kernel⟩

theorem test_Ageing_3 : ∃ (t : Tick) (n : Nat) (x : Int × Nat) (s : State),
    (n < 96) ∧
    ((s.upTo t).dpdMode n = 2) ∧
    (smGet ((0, 0) : Int × Nat) (s.upTo t).cal.paSum n = x) ∧
    (x.2 ≠ 0) ∧
    ((daysOf (s.upTo t).cal.paDays n).length < 29) :=
  ⟨0, 95, (-7, 2), { z [(0x4802, 1, 5)] [(0x4001, 96, 2)] with
        cal.paSum := [(95, (-7, 2))], cal.paDays := [(95, [1, 2])], cal.paFirst := [(95, [1, 2])] }, by decide +kernel⟩

theorem test_AvsStepIsALedgerRequest_1 : ∃ (t : Tick) (s : State),
    ((s.upTo t).a 0x4800 1 ≠ 0) ∧
    ((s.upTo t).o 0x4800 2 < min 18 (avsWant ((s.upTo t).o 0x4800 4))) ∧
    ((∀ x, (s.upTo t).cal.avsAt = some x → x + 20 * tMs ≤ (s.upTo t).now)) ∧
    (bookedOf ((s.upTo t).base rCore) ((s.upTo t).factorAt ((s.upTo t).o 0x4800 2 + 1) rCore) ≤ (s.upTo t).cap rCore) :=
  ⟨20 * tMs, { z [(0x4800, 4, 44000), (0x4800, 2, 17)] [(0x4800, 1, 1)] with cal.avsAt := some 0 }, by decide +kernel⟩

theorem test_AvsStepIsALedgerRequest_2 : ∃ (t : Tick) (s : State),
    ((s.upTo t).a 0x4800 1 ≠ 0) ∧
    ((s.upTo t).o 0x4800 2 < min 18 (avsWant ((s.upTo t).o 0x4800 4))) ∧
    ((∀ x, (s.upTo t).cal.avsAt = some x → x + 20 * tMs ≤ (s.upTo t).now)) ∧
    ((s.upTo t).cap rCore < bookedOf ((s.upTo t).base rCore) ((s.upTo t).factorAt ((s.upTo t).o 0x4800 2 + 1) rCore)) :=
  ⟨20 * tMs, { z [(0x4800, 4, 44000), (0x4800, 2, 17), (0x5000, 1, 4000)] [(0x4800, 1, 1)] with
        grants := [⟨.block, 0, costOn rCore 4000⟩] }, by decide +kernel⟩

theorem test_PacketsPassAPort_1 : ∃ (t : Tick) (p : Nat) (l : List Nat) (stamp : Int) (k : Pkt) (s : State),
    (p < 3) ∧
    ((s.upTo t).active p = true) ∧
    ((s.upTo t).linkChecks p l true = (some k, s.upTo t)) ∧
    (k.cls = Cls.m) ∧
    (k.resp = false) ∧
    (k.dest = (s.upTo t).addr) ∧
    (k.dest ≠ 0) ∧
    (smGet 0 ((s.upTo t).port p).lastSeq (comboKey k) = 0) ∧
    (k.stream % 128 ≤ 95) ∧
    ((∀ m, m ∈ (s.upTo t).mq ++ (s.upTo t).inService → ¬ (m.req.kind = 2 ∧ m.req.id = k.src ∧ m.req.tag = k.stream % 128))) ∧
    ((s.upTo t).full p k = false) :=
  ⟨0, 1, wpkt ⟨5, Cls.m, 0, 9, 3, 0, false, false, false, false, true, []⟩, 0, ⟨5, Cls.m, 0, 9, 3, 0, false, false, false, false, true, []⟩, z [(0x6001, 5, 6), (0x1100, 2, 5)] [], by decide +kernel⟩

theorem test_PacketsPassAPort_2 : ∃ (t : Tick) (p : Nat) (e : EgItem) (s : State),
    (p < 3) ∧
    ((s.upTo t).active p = true) ∧
    (((s.upTo t).port p).busyUntil ≤ (s.upTo t).time_) ∧
    (((s.upTo t).port p).pendReplay = []) ∧
    (((s.upTo t).port p).egress = [e]) ∧
    (e.own = true) ∧
    (e.pkt.cls ≠ Cls.t) ∧
    ((s.upTo t).mayStart p e.pkt = true) :=
  ⟨9, 1, ⟨⟨5, Cls.m, 0, 9, 3, 0, false, false, false, false, false, [1, 2, 3, 4]⟩, true, none, 0, none⟩, (z [(0x6001, 5, 6)] []).modPort 1 (fun q => { q with
        egress := [⟨⟨5, Cls.m, 0, 9, 3, 0, false, false, false, false, false, [1, 2, 3, 4]⟩, true, none, 0, none⟩] }), by decide +kernel⟩

theorem test_PacketsPassAPort_3 : ∃ (t : Tick) (p : Nat) (l : List Nat) (eop : Bool) (stamp : Int) (s : State),
    (p < 3) ∧
    ((s.upTo t).active p = true) ∧
    (l.filter (fun b => decide (256 ≤ b)) ≠ []) :=
  ⟨0, 1, [1, 444, 2], true, 0, z [(0x6001, 5, 6)] [], by decide +kernel⟩

theorem test_PacketsPassAPort_4 : ∃ (t : Tick) (p : Nat) (k : Pkt) (m : MTag) (s : State),
    (k.cls = Cls.m) ∧
    (k.resp = true) ∧
    ((s.upTo t).mTags.find? (answers k) = some m) :=
  ⟨0, 1, ⟨5, Cls.m, 0, 9, 3, 0, false, false, true, false, true, [1]⟩, ⟨9, 3, 0, 0, 0, 1, 0, true⟩, { z [] [] with
        mTags := [⟨8, 3, 0, 0, 0, 1, 0, true⟩, ⟨9, 3, 0, 0, 0, 1, 0, true⟩] }, by decide +kernel⟩

theorem test_PacketsPassAPort_5 : ∃ (t : Tick) (p : Nat) (k : Pkt) (s : State),
    (k.cls = Cls.m) ∧
    (k.resp = true) ∧
    (p < 3) ∧
    ((s.upTo t).mTags.find? (answers k) = none) ∧
    ((s.upTo t).freedNow = []) :=
  ⟨0, 1, ⟨5, Cls.m, 0, 9, 3, 0, false, false, true, false, true, [1]⟩, z [] [], by decide +kernel⟩

theorem test_PacketsPassAPort_6 : ∃ (t : Tick) (p : Nat) (k : Pkt) (x : MTag × Nat) (s : State),
    (k.cls = Cls.m) ∧
    (k.resp = true) ∧
    (p < 3) ∧
    ((s.upTo t).mTags.find? (answers k) = none) ∧
    ((s.upTo t).freedNow.find? (fun x => answers k x.1) = some x) :=
  ⟨9, 1, ⟨5, Cls.m, 0, 9, 3, 0, false, false, true, false, true, [1]⟩, (⟨9, 3, 0, 0, 0, 1, 0, true⟩, 8), { z [] [] with
        hier := ⟨none, none, none, [(⟨9, 3, 0, 0, 0, 1, 0, true⟩, 8)]⟩ }, by decide +kernel⟩

theorem test_FlowControlFlushAndDiscard_1 : ∃ (t : Tick) (p c k : Nat) (s : State),
    (p < 3) ∧
    (fcIndex c = some k) ∧
    ((s.upTo t).active p = true) ∧
    ((smGet FcState.init ((s.upTo t).port p).tx k).held = false) :=
  ⟨0, 1, 2, 1, z [(0x6001, 5, 6)] [], by decide +kernel⟩

theorem test_FlowControlFlushAndDiscard_2 : ∃ (t : Tick) (p c k : Nat) (s : State),
    (p < 3) ∧
    (fcIndex c = some k) ∧
    ((s.upTo t).active p = true) ∧
    ((smGet FcState.init ((s.upTo t).port p).tx k).held = true) :=
  ⟨5, 1, 2, 1, (z [(0x6001, 5, 6)] []).modPort 1 (fun q => { q with tx := [(1, ⟨true, 0, 0, false⟩)] }), by decide +kernel⟩

theorem test_FlowControlFlushAndDiscard_3 : ∃ (t : Tick) (p c k : Nat) (s : State),
    (p < 3) ∧
    (fcIndex c = some k) :=
  ⟨5, 1, 2, 1, (z [(0x6001, 5, 6)] []).modPort 1 (fun q => { q with tx := [(1, ⟨true, 0, 0, false⟩)] }), by decide +kernel⟩

theorem test_FlowControlFlushAndDiscard_4 : ∃ (t : Tick) (p k : Nat) (s : State),
    (p < 3) ∧
    (k < 3) ∧
    ((s.upTo t).active p = true) ∧
    ((smGet FcState.init ((s.upTo t).port p).rx k).held = true) ∧
    ((smGet FcState.init ((s.upTo t).port p).rx k).last + 10 * tUs ≤ (s.upTo t).now) ∧
    (1024 * (s.upTo t).a (0x6200 + p) (2 * k + 2) < (s.upTo t).fcOcc p k) :=
  ⟨10 * tUs, 1, 1, ((z [(0x6001, 5, 6)] [(0x6201, 4, 0)]).modPort 1 (fun q => { q with
        rx := [(1, ⟨true, 0, 0, false⟩)] })).modPort 2 (fun q => { q with egress := [⟨⟨5, Cls.c, 0, 9, 7, 0, false, false, false, false, false, []⟩, false, none, 0, some 1⟩] }), by decide +kernel⟩

theorem test_FlowControlFlushAndDiscard_5 : ∃ (t : Tick) (p k : Nat) (s : State),
    (p < 3) ∧
    (k < 3) ∧
    ((s.upTo t).active p = true) ∧
    ((smGet FcState.init ((s.upTo t).port p).rx k).held = true) ∧
    ((s.upTo t).fcOcc p k ≤ 1024 * (s.upTo t).a (0x6200 + p) (2 * k + 2)) ∧
    ((s.upTo t).fcOcc p k < 1024 * (s.upTo t).a (0x6200 + p) (2 * k + 1)) :=
  ⟨10 * tUs, 1, 1, (z [(0x6001, 5, 6)] [(0x6201, 3, 40)]).modPort 1 (fun q => { q with
        rx := [(1, ⟨true, 0, 0, false⟩)] }), by decide +kernel⟩

theorem test_FlowControlFlushAndDiscard_6 : ∃ (t : Tick) (p k : Nat) (s : State),
    (p < 3) ∧
    (k < 3) ∧
    ((smGet FcState.init ((s.upTo t).port p).tx k).held = true) ∧
    ((smGet FcState.init ((s.upTo t).port p).tx k).last + 25 * tUs ≤ (s.upTo t).now) :=
  ⟨25 * tUs, 1, 1, (z [(0x6001, 5, 6)] []).modPort 1 (fun q => { q with tx := [(1, ⟨true, 0, 0, false⟩)] }), by decide +kernel⟩

theorem test_FlowControlFlushAndDiscard_7 : ∃ (t : Tick) (p k : Nat) (s : State),
    (p < 3) ∧
    (k < 3) ∧
    ((smGet FcState.init ((s.upTo t).port p).tx k).held = true) ∧
    ((smGet FcState.init ((s.upTo t).port p).tx k).stalled = false) ∧
    ((smGet FcState.init ((s.upTo t).port p).tx k).since + (s.upTo t).a (0x6200 + p) 7 * tUs < (s.upTo t).now) :=
  ⟨tSec, 1, 1, (z [(0x6001, 5, 6)] []).modPort 1 (fun q => { q with tx := [(1, ⟨true, 0, 0, false⟩)] }), by decide +kernel⟩

theorem test_FlowControlFlushAndDiscard_8 : ∃ (t : Tick) (p c stream : Nat) (s : State),
    (p < 3) ∧
    ((s.upTo t).active p = true) ∧
    (c % 8 = Cls.c ∨ c % 8 = Cls.d) :=
  ⟨0, 1, 2, 7, z [(0x6001, 5, 6)] [], by decide +kernel⟩

theorem test_FlowControlFlushAndDiscard_9 : ∃ (t : Tick) (p c stream : Nat) (s : State),
    (p < 3) ∧
    ((s.upTo t).active p = true) ∧
    (c % 8 = Cls.c ∨ c % 8 = Cls.d) ∧
    ((p = 0 → (s.upTo t).dl.syms = [] ∧ (s.upTo t).ul.sects = [])) :=
  ⟨0, 0, 2, 7, (z [(0x6000, 5, 6)] []).modPort 1 (fun q => { q with
        egress := [⟨⟨5, Cls.c, 0, 9, 7, 0, false, false, false, false, false, []⟩, false, none, 0, some 0⟩] }), by decide +kernel⟩

theorem test_FlowControlFlushAndDiscard_10 : ∃ (t : Tick) (p c stream : Nat) (s : State),
    (p < 3) ∧
    (((s.upTo t).port p).flush = [(c, stream)]) ∧
    ((p = 0 → (s.upTo t).dl.syms = [] ∧ (s.upTo t).ul.sects = [])) :=
  ⟨0, 0, 2, 7, (z [(0x6000, 5, 6)] []).modPort 0 (fun q => { q with flush := [(2, 7)] }), by decide +kernel⟩

theorem test_FlowControlFlushAndDiscard_11 : ∃ (t : Tick) (q : Nat) (s : State),
    (q < 3) :=
  ⟨9, 1, (z [(0x6000, 5, 6)] []).modPort 1 (fun q => { q with
        egress := [⟨⟨5, Cls.c, 0, 9, 7, 0, false, false, false, false, false, []⟩, false, some 0, 0, some 0⟩] }), by decide +kernel⟩

theorem test_PortTraining_1 : ∃ (t : Tick) (p : Nat) (s : State),
    (p < 3) ∧
    ((s.upTo t).mayDetect p = true) ∧
    ((s.upTo t).allLos p = true) :=
  ⟨0, 1, { z [(0x5022, 17, 1)] [(0x6001, 1, 1), (0x1100, 1, 2)] with
        lanes := (List.range 8).map (fun x => (8 + x, { Lane.init with los := true })) }, by decide +kernel⟩

theorem test_PortTraining_2 : ∃ (t : Tick) (p : Nat) (s : State),
    (p < 3) ∧
    ((s.upTo t).mayDetect p = true) ∧
    ((s.upTo t).allLos p = false) ∧
    (((s.upTo t).ask .portBase p (costAdd portDigital portAnalogue) (portDom p)).1 = true) ∧
    ((s.upTo t).detectLanes p ≠ 0) :=
  ⟨0, 1, z [(0x5022, 17, 1)] [(0x6001, 1, 1), (0x1100, 1, 2)], by decide +kernel⟩

theorem test_PortTraining_3 : ∃ (t : Tick) (p x res : Nat) (s : State),
    (p < 3) ∧
    (x < 8) ∧
    (((s.upTo t).lane p x).training = true) ∧
    ((s.upTo t).portState p = 1) ∧
    ((s.upTo t).laneSt p x ≠ 6) ∧
    (res = 1 ∨ res = 2) :=
  ⟨0, 1, 2, 2, (z [(0x6001, 5, 1), (0x6100, 11, 2), (0x6101, 11, 3)] []).modLane 1 2 (fun l => { l with
        training := true }), by decide +kernel⟩

theorem test_PortTraining_4 : ∃ (t : Tick) (p : Nat) (s : State),
    (p < 3) ∧
    ((s.upTo t).portState p = 2) :=
  ⟨9, 1, (z [(0x6001, 5, 2)] []).modPort 1 (fun q => { q with trained := 5 }), by decide +kernel⟩

theorem test_PortTraining_5 : ∃ (t : Tick) (p x skew : Nat) (m : List Nat) (s : State),
    (p < 3) ∧
    ((s.upTo t).portState p = 3) ∧
    (m.getD 0 0 % 256 = 1) ∧
    (((s.upTo t).lmgTake p m).1 = true) ∧
    (skew ≤ 20000) ∧
    ((lanesOf ((s.upTo t).port p).trained).all (fun y => (withBit ((s.upTo t).port p).ts1 x true).testBit y) = true) :=
  ⟨9, 1, 0, 5, lmg 1 0 3 8 1 0 |>.drop 1, (z [(0x6001, 5, 3)] [(0x6001, 2, 4), (0x6001, 3, 8)]).modPort 1 (fun q => { q with
        trained := 5, ts1 := 4, peerLanes := 4 }), by decide +kernel⟩

theorem test_PortTraining_6 : ∃ (t : Tick) (p x : Nat) (m : List Nat) (s : State),
    (p < 3) ∧
    ((s.upTo t).portState p = 4) ∧
    (m.getD 0 0 % 256 = 2) ∧
    (((s.upTo t).lmgTake p m).1 = true) ∧
    (m.getD 2 0 = ((s.upTo t).port p).agreedRate) ∧
    (m.getD 3 0 = ((s.upTo t).port p).agreedWidth) ∧
    (m.getD 1 0 = x) ∧
    (((s.upTo t).port p).agreedLanes.testBit x = true) ∧
    (((s.upTo t).port p).ts2 < 15) :=
  ⟨9, 1, 0, lmg 2 0 3 2 1 0 |>.drop 1, (z [(0x6001, 5, 4)] []).modPort 1 (fun q => { q with
        agreedRate := 3, agreedWidth := 2, agreedLanes := 5 }), by decide +kernel⟩

theorem test_PortTraining_7 : ∃ (t : Tick) (p : Nat) (s : State),
    (p < 3) ∧
    ((s.upTo t).portState p = 5) ∧
    (16 ≤ ((s.upTo t).port p).ts2) ∧
    ((lanesOf ((s.upTo t).port p).agreedLanes).all (fun x => ((s.upTo t).port p).rateTrained.testBit x) = true) :=
  ⟨9, 1, (z [(0x6001, 5, 5)] []).modPort 1 (fun q => { q with ts2 := 17, agreedLanes := 5, rateTrained := 5 }), by decide +kernel⟩

theorem test_PortTraining_8 : ∃ (t : Tick) (p : Nat) (s : State),
    (p < 3) ∧
    (1 ≤ (s.upTo t).portState p) ∧
    ((s.upTo t).portState p ≤ 5) ∧
    (((s.upTo t).port p).since + 2 * tMs ≤ (s.upTo t).now) :=
  ⟨2 * tMs, 1, { z [(0x6001, 5, 5), (0x6100, 9, 3)] [] with
        grants := [⟨.portBase, 1, portAnalogue⟩, ⟨.lane, 8, laneAnalogue 0⟩] }, by decide +kernel⟩

theorem test_LaneDropRestoreAndEpochMarkers_1 : ∃ (t : Tick) (p x reason : Nat) (s : State),
    (p < 3) ∧
    ((s.upTo t).active p = true) ∧
    (((s.upTo t).o (0x6000 + p) 8 % 256).testBit x = true) ∧
    (((s.upTo t).port p).dropRx = none) ∧
    (((s.upTo t).port p).lostRx = none) ∧
    ((s.upTo t).a (0x6000 + p) 4 ≠ 0) ∧
    ((s.upTo t).rxWidth p = 8) :=
  ⟨9, 1, 2, 1, z [(0x6001, 5, 6), (0x6001, 8, 65535), (0x6001, 7, 136), (0x6001, 10, 77777)] [(0x6001, 4, 1)], by decide +kernel⟩

theorem test_LaneDropRestoreAndEpochMarkers_2 : ∃ (t : Tick) (p : Nat) (m : List Nat) (s : State),
    (p < 3) ∧
    ((s.upTo t).active p = true) ∧
    (m.getD 0 0 % 256 = 0x10) ∧
    (((s.upTo t).lmgTake p m).1 = true) ∧
    (((s.upTo t).port p).dropTx = none) ∧
    (((s.upTo t).port p).lostTx = none) ∧
    ((s.upTo t).txWidth p = 8) :=
  ⟨9, 1, lmg 16 2 1 0 3 7 |>.drop 1, z [(0x6001, 5, 6), (0x6001, 8, 65535), (0x6001, 7, 136), (0x6001, 10, 77777)] [(0x6001, 4, 1)], by decide +kernel⟩

theorem test_LaneDropRestoreAndEpochMarkers_3 : ∃ (t : Tick) (p : Nat) (m : List Nat) (v : Switch) (s : State),
    (p < 3) ∧
    (m.getD 0 0 % 256 = 0x11) ∧
    (((s.upTo t).lmgTake p m).1 = true) ∧
    (((s.upTo t).port p).dropRx = some v) ∧
    (v.drop = true) ∧
    (v.lane = m.getD 1 0) :=
  ⟨9, 1, lmg 17 2 1 0 3 7 |>.drop 1, ⟨2, none, 1, true, 5, 0⟩, (z [(0x6001, 5, 6)] []).modPort 1 (fun q => { q with
        dropRx := some ⟨2, none, 1, true, 5, 0⟩ }), by decide +kernel⟩

theorem test_LaneDropRestoreAndEpochMarkers_4 : ∃ (t : Tick) (p : Nat) (m : List Nat) (s : State),
    (p < 3) ∧
    ((s.upTo t).active p = true) ∧
    (m.getD 0 0 % 256 = 0x12) ∧
    (((s.upTo t).lmgTake p m).1 = true) ∧
    (((s.upTo t).port p).dropTx = none) ∧
    (((s.upTo t).port p).lostTx = some (m.getD 1 0)) ∧
    (((s.upTo t).laneAsk p (m.getD 1 0) ((s.upTo t).o (0x6000 + p) 6)).1 = true) :=
  ⟨9, 1, lmg 18 2 0 0 0 0 |>.drop 1, (z [(0x6001, 5, 6), (0x6001, 6, 3)] []).modPort 1 (fun q => { q with
        lostTx := some 2 }), by decide +kernel⟩

theorem test_LaneDropRestoreAndEpochMarkers_5 : ∃ (t : Tick) (p : Nat) (m : List Nat) (v : Switch) (s : State),
    (p < 3) ∧
    (m.getD 0 0 % 256 = 0x13) ∧
    (((s.upTo t).lmgTake p m).1 = true) ∧
    (((s.upTo t).port p).dropRx = some v) ∧
    (v.drop = false) ∧
    (v.lane = m.getD 1 0) :=
  ⟨9, 1, lmg 19 2 1 0 3 7 |>.drop 1, ⟨2, none, 1, false, 5, 0⟩, (z [(0x6001, 5, 6)] []).modPort 1 (fun q => { q with
        dropRx := some ⟨2, none, 1, false, 5, 0⟩ }), by decide +kernel⟩

theorem test_LaneDropRestoreAndEpochMarkers_6 : ∃ (t : Tick) (p : Nat) (v : Switch) (s : State),
    (p < 3) ∧
    (((s.upTo t).port p).dropRx = some v) ∧
    (v.epm = none) ∧
    (v.reqAt + 10 * tUs ≤ (s.upTo t).now) :=
  ⟨10 * tUs, 1, ⟨2, none, 1, false, 5, 0⟩, (z [(0x6001, 5, 6)] []).modPort 1 (fun q => { q with
        dropRx := some ⟨2, none, 1, false, 5, 0⟩ }), by decide +kernel⟩

theorem test_LaneDropRestoreAndEpochMarkers_7 : ∃ (t : Tick) (p x : Nat) (c : Tick) (s : State),
    (p < 3) ∧
    ((s.upTo t).active p = true) ∧
    (((s.upTo t).port p).lostRx = some x) ∧
    (((s.upTo t).lane p x).clean = some c) ∧
    (c + tSec ≤ (s.upTo t).now) ∧
    (((s.upTo t).port p).dropRx = none) ∧
    (((s.upTo t).laneAsk p x ((s.upTo t).o (0x6000 + p) 6)).1 = true) :=
  ⟨tSec, 1, 2, 0, ((z [(0x6001, 5, 6), (0x6001, 6, 3)] []).modPort 1 (fun q => { q with
        lostRx := some 2 })).modLane 1 2 (fun l => { l with clean := some 0 }), by decide +kernel⟩

theorem test_LaneDropRestoreAndEpochMarkers_8 : ∃ (t : Tick) (s : State),
    ((∀ p, p < 3 → ((s.upTo t).port p).ready = false ∧ ((s.upTo t).port p).dropTx = none ∧
    ((s.upTo t).port p).lostTx = none)) ∧
    ((s.upTo t).ownTrim = false) ∧
    ((s.upTo t).clears = []) :=
  ⟨5 * tMs, z [(0x6000, 5, 6), (0x6002, 5, 6)] [], by decide +kernel⟩

theorem test_LaneDropRestoreAndEpochMarkers_9 : ∃ (t : Tick) (p n : Nat) (s : State),
    (p = 1 ∨ p = 2) ∧
    (n < 2 ^ 32) ∧
    ((s.upTo t).active p = true) ∧
    (((s.upTo t).port p).ready = false) ∧
    (((s.upTo t).port p).dropRx = none) ∧
    (((s.upTo t).port p).epmSeen = true) ∧
    (n = ((s.upTo t).o (0x6000 + p) 0x0A + 1) % 2 ^ 32) :=
  ⟨0, 2, 78, (z [(0x6002, 5, 6), (0x6002, 10, 77)] []).modPort 2 (fun q => { q with epmSeen := true }), by decide +kernel⟩

theorem test_LaneDropRestoreAndEpochMarkers_10 : ∃ (t : Tick) (p n : Nat) (s : State),
    (p = 1 ∨ p = 2) ∧
    (n < 2 ^ 32) ∧
    ((s.upTo t).active p = true) ∧
    (((s.upTo t).port p).ready = false) ∧
    (((s.upTo t).port p).dropRx = none) ∧
    (((s.upTo t).port p).epmSeen = true) ∧
    (n ≠ ((s.upTo t).o (0x6000 + p) 0x0A + 1) % 2 ^ 32) :=
  ⟨0, 2, 80, (z [(0x6002, 5, 6), (0x6002, 10, 77)] []).modPort 2 (fun q => { q with epmSeen := true }), by decide +kernel⟩

theorem test_Lanes_1 : ∃ (t : Tick) (errs : List Nat) (s : State),
    ((∀ e, e ∈ errs → e = 0)) ∧
    ((∀ i, i < 24 → listSum ((s.upTo t).lane (i / 8) (i % 8)).errWin < min ((s.upTo t).a 0x6111 1) ((s.upTo t).a 0x6111 2))) ∧
    ((∀ i, i < 24 → listSum ((s.upTo t).lane (i / 8) (i % 8)).errWin < 65536)) :=
  ⟨0, [], (z [(0x6102, 10, 3)] []).modLane 1 1 (fun l => { l with errWin := [1, 2] }), by decide +kernel⟩

theorem test_Lanes_2 : ∃ (t : Tick) (i : Nat) (on : Bool) (s : State),
    (i < 24) ∧
    ((s.upTo t).detecting (i / 8) = false) :=
  ⟨0, 9, true, z [] [], by decide +kernel⟩

theorem test_Lanes_3 : ∃ (t : Tick) (i : Nat) (s : State),
    (i < 24) ∧
    (((s.upTo t).lane (i / 8) (i % 8)).los = false) ∧
    ((s.upTo t).detecting (i / 8) = true) ∧
    ((s.upTo t).active (i / 8) = false) ∧
    (((s.upTo t).port (i / 8)).dropRx = none) :=
  ⟨0, 9, z [] [(0x6001, 1, 1)], by decide +kernel⟩

theorem test_Lanes_4 : ∃ (t : Tick) (i : Nat) (s : State),
    (i < 24) ∧
    ((s.upTo t).active (i / 8) = false) :=
  ⟨0, 9, (z [] []).modLane 1 1 (fun l => { l with locked := true }), by decide +kernel⟩

theorem test_Lanes_5 : ∃ (t : Tick) (p : Nat) (s : State),
    (p < 3) ∧
    ((s.upTo t).mayDetect p = true) ∧
    ((s.upTo t).allLos p = true) ∧
    (((s.upTo t).port p).deep = false) ∧
    ((∀ h, (s.upTo t).power.hand = some h → h.started = false ∨ h.dormant = false)) :=
  ⟨0, 1, { z [(0x5022, 17, 1)] [(0x6001, 1, 1), (0x1100, 1, 2)] with
        lanes := (List.range 8).map (fun x => (8 + x, { Lane.init with los := true })) }, by decide +kernel⟩

theorem test_Lanes_6 : ∃ (t : Tick) (p : Nat) (x : Tick) (s : State),
    (p < 3) ∧
    (((s.upTo t).port p).deepWake = some x) ∧
    (x + 80 * tUs ≤ (s.upTo t).now) ∧
    (bit ((s.upTo t).o 0x2420 8) 7 = false) ∧
    (((s.upTo t).ask .portBase p (costAdd portDigital portAnalogue) (portDom p)).1 = true) ∧
    ((s.upTo t).detectLanes p ≠ 0) :=
  ⟨80 * tUs, 1, 0, (z [(0x5022, 17, 5)] [(0x6001, 1, 1), (0x1100, 1, 2)]).modPort 1 (fun q => { q with
        deep := true, deepWake := some 0 }), by decide +kernel⟩

theorem test_Lanes_7 : ∃ (t : Tick) (r : Req) (i v : Nat) (s : State),
    (i < 24) ∧
    (Reaches (s.upTo t) r 0x6120 (i + 1) (objBytes 0x6120 1 v) v) ∧
    ((s.upTo t).a (0x6000 + i / 8) 1 = 0) ∧
    (((s.upTo t).port (i / 8)).deep = false) ∧
    (bits v 29 3 ≠ 0) ∧
    (bits v 29 3 ≤ 4) ∧
    (bits v 26 3 ≤ 4) ∧
    (bits v 24 2 ≠ 3) :=
  ⟨0, rq, 9, 2 ^ 29 + 2 ^ 22, z [] [], by
    (try and_intros) <;> first | decide +kernel | rfl | (constructor <;> decide +kernel)⟩

theorem test_Lanes_8 : ∃ (t : Tick) (r : Req) (i v : Nat) (s : State),
    (i < 24) ∧
    (Reaches (s.upTo t) r 0x6120 (i + 1) (objBytes 0x6120 1 v) v) ∧
    ((s.upTo t).a (0x6000 + i / 8) 1 ≠ 0) :=
  ⟨0, rq, 9, 2 ^ 29 + 2 ^ 22, z [] [(0x6001, 1, 1)], by
    (try and_intros) <;> first | decide +kernel | rfl | (constructor <;> decide +kernel)⟩

theorem test_Lanes_9 : ∃ (t : Tick) (r : Req) (i v : Nat) (s : State),
    (i < 24) ∧
    (Reaches (s.upTo t) r 0x6120 (i + 1) (objBytes 0x6120 1 v) v) ∧
    ((s.upTo t).a (0x6000 + i / 8) 1 = 0) ∧
    (((s.upTo t).port (i / 8)).deep = false) ∧
    (4 < bits v 29 3 ∨ 4 < bits v 26 3 ∨ bits v 24 2 = 3) :=
  ⟨0, rq, 9, 5 * 2 ^ 29, z [] [(0x6001, 1, 0)], by
    (try and_intros) <;> first | decide +kernel | rfl | (constructor <;> decide +kernel)⟩

theorem test_Lanes_10 : ∃ (t : Tick) (r : Req) (i v : Nat) (s : State),
    (i < 24) ∧
    (Reaches (s.upTo t) r 0x6124 (i + 1) (objBytes 0x6124 1 v) v) :=
  ⟨0, rq, 9, 7, z [] [], by
    (try and_intros) <;> first | decide +kernel | rfl | (constructor <;> decide +kernel)⟩

theorem test_Lanes_11 : ∃ (t : Tick) (r : Req) (v : Nat) (s : State),
    (Reaches (s.upTo t) r 0x6110 1 (objBytes 0x6110 1 v) v) ∧
    ((List.range 32).any (presetBad v) = false) :=
  ⟨0, rq, 0, z [(0x6107, 3, 5)] [], by
    (try and_intros) <;> first | decide +kernel | rfl | (constructor <;> decide +kernel)⟩

theorem test_Lanes_12 : ∃ (t : Tick) (i n errs : Nat) (s : State),
    (i < 24) ∧
    ((s.upTo t).laneSt (i / 8) (i % 8) = 6) ∧
    (bit ((s.upTo t).o 0x6120 (i + 1)) 22 = true) ∧
    (((s.upTo t).lane (i / 8) (i % 8)).sync = true) :=
  ⟨0, 9, 70, 3, (z [(0x6100, 10, 6), (0x6120, 10, 2 ^ 22)] []).modLane 1 1 (fun l => { l with sync := true }), by decide +kernel⟩

theorem test_Lanes_13 : ∃ (t : Tick) (i n errs : Nat) (s : State),
    (i < 24) ∧
    ((s.upTo t).laneSt (i / 8) (i % 8) = 6) ∧
    (bit ((s.upTo t).o 0x6120 (i + 1)) 22 = true) ∧
    (((s.upTo t).lane (i / 8) (i % 8)).sync = false) :=
  ⟨0, 9, 70, 3, z [(0x6100, 10, 6), (0x6120, 10, 2 ^ 22)] [], by decide +kernel⟩

theorem test_PulsesCapturesAlarms_1 : ∃ (t : Tick) (n : Nat) (s : State),
    (n < 4) ∧
    ((s.upTo t).a (0x1230 + n) 1 ≠ 0) ∧
    ((smGet Tpo.init (s.upTo t).time.tpo n).done = false) ∧
    ((smGet Tpo.init (s.upTo t).time.tpo n).trailing = false) ∧
    ((s.upTo t).tpoLead n (smGet Tpo.init (s.upTo t).time.tpo n).k ≤ (s.upTo t).time_) ∧
    ((smGet Tpo.init (s.upTo t).time.tpo n).from_ ≤ (s.upTo t).tpoLead n (smGet Tpo.init (s.upTo t).time.tpo n).k) ∧
    (((s.upTo t).a (0x1230 + n) 6 = 1 → (s.upTo t).timeLocked = true)) :=
  ⟨0, 1, z [] [(0x1231, 1, 1), (0x1231, 3, 2000), (0x1231, 4, 100), (0x1231, 6, 0)], by decide +kernel⟩

theorem test_PulsesCapturesAlarms_2 : ∃ (t : Tick) (n : Nat) (s : State),
    (n < 4) ∧
    ((s.upTo t).a (0x1230 + n) 1 ≠ 0) ∧
    ((smGet Tpo.init (s.upTo t).time.tpo n).done = false) ∧
    ((smGet Tpo.init (s.upTo t).time.tpo n).trailing = true) ∧
    ((s.upTo t).tpoLead n (smGet Tpo.init (s.upTo t).time.tpo n).k + ((s.upTo t).a (0x1230 + n) 4 * (tNs / 2) : Nat) ≤
      (s.upTo t).time_) :=
  ⟨tMs, 1, { z [] [(0x1231, 1, 2), (0x1231, 3, 2000), (0x1231, 4, 100)] with
        time.tpo := [(1, ⟨true, 0, true, 0, false⟩)] }, by decide +kernel⟩

theorem test_PulsesCapturesAlarms_3 : ∃ (t : Tick) (n : Nat) (falling : Bool) (s : State),
    (n < 2) ∧
    (bit ((s.upTo t).a (0x1238 + n) 1) (if falling then 1 else 0) = true) ∧
    (((s.upTo t).tci n).q.length < 16) ∧
    ((∀ x, ((s.upTo t).tci n).lastAt = some x → x + tUs ≤ (s.upTo t).now)) :=
  ⟨5000, 1, true, z [] [(0x1239, 1, 2)], by decide +kernel⟩

theorem test_PulsesCapturesAlarms_4 : ∃ (t : Tick) (r : Req) (n : Nat) (x : Int × Nat) (l : List (Int × Nat)) (s : State),
    (n < 2) ∧
    ((s.upTo t).cpLost = false) ∧
    ((s.upTo t).cpAbsent = none) ∧
    ((s.upTo t).recovery = false) ∧
    (((s.upTo t).tci n).q = x :: l) ∧
    (l.length < 16) ∧
    (x.2 ≤ 1) :=
  ⟨0, rq, 1, (98304, 1), [], { z [(0x1239, 3, 1)] [] with time.tci := [(1, ⟨[(98304, 1)], none, none⟩)] }, by decide +kernel⟩

theorem test_PulsesCapturesAlarms_5 : ∃ (t : Tick) (r : Req) (n v : Nat) (s : State),
    (n < 4) ∧
    (Reaches (s.upTo t) r 0x123C (n + 1) (objBytes 0x123C 1 v) v) ∧
    ((s.upTo t).time_ < ofTime96 v) :=
  ⟨0, rq, 3, 2 ^ 48, z [] [], by
    (try and_intros) <;> first | decide +kernel | rfl | (constructor <;> decide +kernel)⟩

theorem test_PulsesCapturesAlarms_6 : ∃ (t : Tick) (n : Nat) (T : Int) (s : State),
    (n < 4) ∧
    (smGet none (s.upTo t).time.alarms n = some T) ∧
    (T ≤ (s.upTo t).time_) ∧
    (bit ((s.upTo t).o 0x5020 6) 2 = false) :=
  ⟨tSec, 3, 7, { z [(0x9001, 3, 0x14), (0x9002, 3, 0x14), (0x9002, 0x0B, 255)] [] with
        time.alarms := [(3, some 7)] }, by decide +kernel⟩

theorem test_TimeMessages_1 : ∃ (t : Tick) (p : Nat) (s : State),
    (p = 1 ∨ p = 2) ∧
    ((s.upTo t).active p = true) ∧
    (smGet 0 (s.upTo t).time.sent p ≠ (((s.upTo t).time_ - if p = 2 then ((syncPeriod / 2 : Nat) : Int) else 0) / (syncPeriod : Int)).toNat + 1) :=
  ⟨tSec, 2, z [(0x6002, 5, 6)] [], by decide +kernel⟩

theorem test_TimeMessages_2 : ∃ (t : Tick) (e : Exchange) (s : State),
    ((s.upTo t).time.exch = some e) ∧
    (e.reqSeq = none) ∧
    (e.at_ + 2 * tMs ≤ (s.upTo t).now) ∧
    ((s.upTo t).active 0 = true) ∧
    ((s.upTo t).ownSource = false) :=
  ⟨2 * tMs, ⟨7, true, some 5, 9, none, none, 0⟩, { z [(0x6000, 5, 6)] [] with
        time.exch := some ⟨7, true, some 5, 9, none, none, 0⟩ }, by decide +kernel⟩

theorem test_TimeMessages_3 : ∃ (t : Tick) (p : Nat) (l : List Nat) (stamp : Int) (s : State),
    (p = 1 ∨ p = 2) ∧
    ((s.upTo t).active p = true) ∧
    (PtpGood (s.upTo t) p l delayReqT) :=
  ⟨0, 2, (z [] []).ptpMsg 0 delayReqT 3 0 0 801 (List.replicate 10 0), 77, z [(0x6002, 5, 6)] [], by
    (try and_intros) <;> first | decide +kernel | rfl | (constructor <;> decide +kernel)⟩

theorem test_TimeMessages_4 : ∃ (t : Tick) (s : State),
    ((s.upTo t).active 1 = true) ∧
    ((s.upTo t).active 2 = false) ∧
    (smGet 0 (s.upTo t).time.sent 9 ≠ ((s.upTo t).time_ / (tSec : Int)).toNat + 1) :=
  ⟨tSec, z [(0x6001, 5, 6)] [], by decide +kernel⟩

theorem test_TimeMessages_5 : ∃ (t : Tick) (l : List Nat) (stamp : Int) (s : State),
    (PtpGood (s.upTo t) 0 l syncT) ∧
    ((s.upTo t).time.lastSyncSeq ≠ some (ptpOf l).seq) ∧
    ((s.upTo t).time.exch = none) :=
  ⟨0, (z [] []).ptpMsg 0 syncT 3 0 0 1 (List.replicate 10 0), 77, z [(0x1200, 0x0B, 2)] [], by
    (try and_intros) <;> first | decide +kernel | rfl | (constructor <;> decide +kernel)⟩

theorem test_TimeMessages_6 : ∃ (t : Tick) (l : List Nat) (e : Exchange) (s : State),
    (PtpGood (s.upTo t) 0 l followUpT) ∧
    ((s.upTo t).time.exch = some e) ∧
    (e.seq = (ptpOf l).seq) ∧
    (e.t1 = none) ∧
    ((s.upTo t).now ≤ e.at_ + tMs) :=
  ⟨0, (z [] []).ptpMsg 0 followUpT 3 0 0 0 (List.replicate 10 1), ⟨3, true, none, 9, none, none, 0⟩, { z [] [] with
        time.exch := some ⟨3, true, none, 9, none, none, 0⟩ }, by
    (try and_intros) <;> first | decide +kernel | rfl | (constructor <;> decide +kernel)⟩

theorem test_TimeMessages_7 : ∃ (t : Tick) (l : List Nat) (e : Exchange) (t1 t3 : Int) (s : State),
    (PtpGood (s.upTo t) 0 l delayRespT) ∧
    ((s.upTo t).time.exch = some e) ∧
    (e.reqSeq = some (ptpOf l).seq) ∧
    ((ptpOf l).rest.take 10 = portIdentity 0) ∧
    ((s.upTo t).now ≤ e.at_ + 5 * tMs) ∧
    (e.t1 = some t1) ∧
    (e.t3 = some t3) ∧
    (e.ok = false) :=
  ⟨0, (z [] []).ptpMsg 0 delayRespT 8 0 (-5) 0 (List.replicate 10 1 ++ portIdentity 0), ⟨3, false, some 100, 900, some 2000, some 8, 0⟩, 100, 2000, { z [] [] with
        time.exch := some ⟨3, false, some 100, 900, some 2000, some 8, 0⟩ }, by
    (try and_intros) <;> first | decide +kernel | rfl | (constructor <;> decide +kernel)⟩

theorem test_TimeMessages_8 : ∃ (t : Tick) (l : List Nat) (e : Exchange) (t1 t3 : Int) (s : State),
    (PtpGood (s.upTo t) 0 l delayRespT) ∧
    ((s.upTo t).time.exch = some e) ∧
    (e.reqSeq = some (ptpOf l).seq) ∧
    ((ptpOf l).rest.take 10 = portIdentity 0) ∧
    ((s.upTo t).now ≤ e.at_ + 5 * tMs) ∧
    (e.t1 = some t1) ∧
    (e.t3 = some t3) ∧
    (e.ok = true) ∧
    ((s.upTo t).tooDeep = false) ∧
    ((s.upTo t).timeState = 0) :=
  ⟨3 * tMs, (z [] []).ptpMsg 0 delayRespT 8 0 0 0 (bytesBE 6 0 ++ bytesBE 4 2000000 ++ portIdentity 0), ⟨3, true, some 100000000, 65536000000, some 131072000000, some 8, 0⟩, 100000000, 131072000000, { z [] [] with
        time.exch := some ⟨3, true, some 100000000, 65536000000, some 131072000000, some 8, 0⟩ }, by
    (try and_intros) <;> first | decide +kernel | rfl | (constructor <;> decide +kernel)⟩

theorem test_TimeMessages_9 : ∃ (t : Tick) (l : List Nat) (s : State),
    (PtpGood (s.upTo t) 0 l announceT) ∧
    ((s.upTo t).role ≠ 2) ∧
    (ofBytesBE (((ptpOf l).rest.drop 17).take 2) < 48) :=
  ⟨0, (z [] []).ptpMsg 0 announceT 8 4 0 0 (List.replicate 10 0 ++ bytesBE 2 37 ++ List.replicate 15 0 ++ bytesBE 2 47 ++ [0]), z [] [], by
    (try and_intros) <;> first | decide +kernel | rfl | (constructor <;> decide +kernel)⟩

theorem test_TimeLockIsLost_1 : ∃ (t : Tick) (e : Exchange) (s : State),
    ((s.upTo t).time.exch = some e) ∧
    (e.at_ + 5 * tMs < (s.upTo t).now) ∧
    ((s.upTo t).timeState ≠ 2) :=
  ⟨5 * tMs + 1, ⟨3, true, some 1, 9, none, none, 0⟩, { z [] [] with
        time.exch := some ⟨3, true, some 1, 9, none, none, 0⟩ }, by decide +kernel⟩

theorem test_TimeLockIsLost_2 : ∃ (t : Tick) (e : Exchange) (s : State),
    ((s.upTo t).time.exch = some e) ∧
    (e.at_ + 5 * tMs < (s.upTo t).now) ∧
    ((s.upTo t).timeState = 2) ∧
    ((s.upTo t).a 0x1200 8 ≤ (s.upTo t).time.missed + 1) :=
  ⟨5 * tMs + 1, ⟨3, true, some 1, 9, none, none, 0⟩, { z [(0x1200, 0x0B, 2)] [(0x1200, 8, 1)] with
        time.exch := some ⟨3, true, some 1, 9, none, none, 0⟩ }, by decide +kernel⟩

theorem test_TimeLockIsLost_3 : ∃ (t x : Tick) (s : State),
    ((s.upTo t).ownSource = false) ∧
    ((s.upTo t).time.lastSync = some x) ∧
    (x + (s.upTo t).a 0x1200 8 * (tSec / 128) ≤ (s.upTo t).now) ∧
    ((s.upTo t).timeState = 2) :=
  ⟨tSec, 0, { z [(0x1200, 0x0B, 2)] [] with time.lastSync := some 0 }, by decide +kernel⟩

theorem test_TimeLockIsLost_4 : ∃ (t x : Tick) (s : State),
    ((s.upTo t).ppsRoot = true) ∧
    ((s.upTo t).time.lastPpsAt = some x) ∧
    (x + 1100 * tMs < (s.upTo t).now) ∧
    ((s.upTo t).timeState = 2) :=
  ⟨1100 * tMs + 1, 0, { z [(0x1200, 0x0B, 2), (0x1203, 3, 7)] [(0x1100, 1, 2), (0x1200, 1, 0)] with
        time.lastPpsAt := some 0 }, by decide +kernel⟩

theorem test_TimeLockIsLost_5 : ∃ (t x : Tick) (s : State),
    ((s.upTo t).time.holdover = some x) ∧
    ((s.upTo t).timeState = 3) ∧
    ((s.upTo t).a 0x1200 9 ≠ 0xFFFFFFFF) ∧
    (x + (s.upTo t).a 0x1200 9 * tSec + 2 * tNs ≤ (s.upTo t).now) :=
  ⟨3600 * tSec + 2 * tNs, 0, { z [(0x1200, 0x0B, 3)] [(0x1200, 9, 3600)] with time.holdover := some 0 }, by decide +kernel⟩

theorem test_RootTime_1 : ∃ (t : Tick) (rising : Bool) (ten : Option Int) (n : Nat) (s : State),
    ((s.upTo t).ppsRoot = true) ∧
    (rising ≠ decide ((s.upTo t).a 0x1203 1 = 1)) ∧
    ((s.upTo t).time.tod = some n) ∧
    (((s.upTo t).time.todPrev = none ∨ (s.upTo t).time.todPrev = some (n - 1) ∧ 0 < n)) ∧
    ((s.upTo t).timeState = 0) :=
  ⟨tMs, true, none, 7, { z [] [(0x1100, 1, 2), (0x1200, 1, 0)] with time.tod := some 7, time.todPrev := some 6 }, by decide +kernel⟩

theorem test_RootTime_2 : ∃ (t x : Tick) (l : List Nat) (s : State),
    ((s.upTo t).ppsRoot = true) ∧
    (l.take 2 = [0xA5, 0x5A]) ∧
    (l.length = 12) ∧
    ((s.upTo t).time.lastPpsAt = some x) ∧
    (x + 10 * tMs ≤ (s.upTo t).now) ∧
    ((s.upTo t).now ≤ x + 990 * tMs) ∧
    (((l.drop 2).take 9).foldl (fun a b => a ^^^ b) 0 = l.getD 11 0) ∧
    (bit (l.getD 10 0) 0 = true) :=
  ⟨10 * tMs, 0, [0xA5, 0x5A, 0, 0, 0, 0, 1, 2, 0, 37, 1, 39], { z [] [(0x1100, 1, 2), (0x1200, 1, 0)] with
        time.lastPpsAt := some 0 }, by decide +kernel⟩

theorem test_RootTime_3 : ∃ (t : Tick) (r : Req) (v : Nat) (s : State),
    (Reaches (s.upTo t) r 0x1200 0x0A (objBytes 0x1200 0x0A v) v) ∧
    ((s.upTo t).role = 2) ∧
    ((s.upTo t).a 0x1200 1 = 2) :=
  ⟨0, rq, 2 ^ 50, z [] [(0x1100, 1, 2), (0x1200, 1, 2)], by
    (try and_intros) <;> first | decide +kernel | rfl | (constructor <;> decide +kernel)⟩

theorem test_RootTime_4 : ∃ (t x : Tick) (s : State),
    ((s.upTo t).time.stepAt = some x) ∧
    (x ≤ (s.upTo t).now) ∧
    ((s.upTo t).timeState = 1) ∧
    ((s.upTo t).role = 2) ∧
    ((s.upTo t).a 0x1200 1 = 2) ∧
    ((s.upTo t).pllLocked 4 = true) ∧
    ((s.upTo t).power.settling = false) :=
  ⟨125 * tMs, 125 * tMs, { z [(0x1200, 0x0B, 1), (0x2420, 8, 16)] [(0x1100, 1, 2), (0x1200, 1, 2)] with
        time.stepAt := some (125 * tMs) }, by decide +kernel⟩

theorem test_TreeAddressesAndTraffic_1 : ∃ (t : Tick) (p tag : Nat) (s : State),
    (p = 1 ∨ p = 2) ∧
    ((s.upTo t).role ≠ 0) ∧
    ((s.upTo t).active p = true) ∧
    ((s.upTo t).o (0x1100 + p) 2 = 0) ∧
    (((s.upTo t).port p).addrAt = none) ∧
    ((s.upTo t).tooDeepAuto = false) ∧
    ((s.upTo t).childAddr p ≠ 0) ∧
    ((s.upTo t).freeTag = some tag) :=
  ⟨0, 1, 64, z [(0x6001, 5, 6), (0x1100, 2, 5)] [(0x1100, 1, 1), (0x1101, 1, 77)], by decide +kernel⟩

theorem test_TreeAddressesAndTraffic_2 : ∃ (t : Tick) (r : Req) (one : Bool) (v : Nat) (s : State),
    (Reaches (s.upTo t) r 0x1100 2 (objBytes 0x1100 2 v) v) ∧
    ((s.upTo t).recovery = false) ∧
    ((one = true → r.kind = 2 ∧ r.port = 0 ∧ (s.upTo t).addr = 0)) ∧
    ((one = false → (s.upTo t).hier.assigned ≠ some (s.upTo t).now)) :=
  ⟨0, rr, true, 9, z [(0x6000, 5, 6)] [], by
    (try and_intros) <;> first | decide +kernel | rfl | (constructor <;> decide +kernel)⟩

theorem test_TreeAddressesAndTraffic_3 : ∃ (t : Tick) (r : Req) (v : Nat) (s : State),
    (Reaches (s.upTo t) r 0x1100 2 (objBytes 0x1100 2 v) v) ∧
    ((s.upTo t).addr ≠ 0) :=
  ⟨0, rl, 9, z [(0x6000, 5, 6), (0x1100, 2, 8)] [], by
    (try and_intros) <;> first | decide +kernel | rfl | (constructor <;> decide +kernel)⟩

theorem test_TreeAddressesAndTraffic_4 : ∃ (t : Tick) (r : Req) (v : Nat) (s : State),
    (Reaches (s.upTo t) r 0x1100 2 (objBytes 0x1100 2 v) v) ∧
    ((s.upTo t).hier.assigned = some (s.upTo t).now) :=
  ⟨5, rl, 9, { z [] [] with hier.assigned := some 5 }, by
    (try and_intros) <;> first | decide +kernel | rfl | (constructor <;> decide +kernel)⟩

theorem test_TreeAddressesAndTraffic_5 : ∃ (t : Tick) (p : Nat) (x : Tick) (s : State),
    (p < 3) ∧
    (((s.upTo t).port p).mismatchGone = some x) ∧
    (x + tSec ≤ (s.upTo t).now) :=
  ⟨tSec, 1, 0, { (z [] []).modPort 1 (fun q => { q with
        mismatchGone := some 0 }) with alarms := [⟨Al.childAddrMismatch, 1, 0⟩, ⟨Al.childAddrMismatch, 2, 0⟩] }, by decide +kernel⟩

theorem test_TreeAddressesAndTraffic_6 : ∃ (t : Tick) (s : State),
    ((s.upTo t).classAUp = true) ∧
    ((s.upTo t).cpLost = false) ∧
    ((s.upTo t).hier.at_ = none) ∧
    ((s.upTo t).hier.sent = none) :=
  ⟨9, z [(0x6000, 5, 6)] [], by decide +kernel⟩

theorem test_TreeAddressesAndTraffic_7 : ∃ (t : Tick) (p : Nat) (l : List Nat) (s : State),
    (p = 1 ∨ p = 2) ∧
    (l.length = 16) ∧
    (bits (payWord l 0) 30 2 = 2) ∧
    ((∀ b, b ∈ l → b < 256)) :=
  ⟨0, 2, bytesBE 4 (2 ^ 31) ++ bytesBE 4 (2 ^ 26 + 3) ++ bytesBE 8 77, z [] [], by decide +kernel⟩

theorem test_TreeAddressesAndTraffic_8 : ∃ (t : Tick) (p code : Nat) (l : List Nat) (s : State),
    (p = 1 ∨ p = 2) ∧
    (l.length = 16) ∧
    (bits (payWord l 0) 30 2 < 2) ∧
    ((s.upTo t).role ≠ 2) ∧
    ((s.upTo t).a 0x1100 9 ≠ 0) ∧
    ((s.upTo t).active 0 = true) ∧
    (((s.upTo t).port p).recordsAt = (s.upTo t).time_ / (tMs : Int)) ∧
    (((s.upTo t).port p).recordsMs < (s.upTo t).a 0x1100 0x0A) :=
  ⟨0, 2, 0x1001, bytesBE 4 7 ++ List.replicate 12 0, z [(0x6000, 5, 6)] [(0x1100, 9, 1), (0x1100, 10, 4)], by decide +kernel⟩

theorem test_TreeAddressesAndTraffic_9 : ∃ (t : Tick) (p code : Nat) (l : List Nat) (s : State),
    (p = 1 ∨ p = 2) ∧
    (l.length = 16) ∧
    (bits (payWord l 0) 30 2 < 2) ∧
    ((s.upTo t).role ≠ 2) ∧
    ((s.upTo t).a 0x1100 9 ≠ 0) ∧
    (((s.upTo t).port p).recordsAt = (s.upTo t).time_ / (tMs : Int)) ∧
    ((s.upTo t).a 0x1100 0x0A ≤ ((s.upTo t).port p).recordsMs) :=
  ⟨0, 2, 0x1001, bytesBE 4 7 ++ List.replicate 12 0, (z [] [(0x1100, 9, 1), (0x1100, 10, 4)]).modPort 2 (fun q => { q with
        recordsMs := 4 }), by decide +kernel⟩

theorem test_TreeAddressesAndTraffic_10 : ∃ (t : Tick) (p code : Nat) (l : List Nat) (s : State),
    (p = 1 ∨ p = 2) ∧
    (l.length = 16) ∧
    (bits (payWord l 0) 30 2 < 2) ∧
    ((s.upTo t).role = 2) ∧
    ((s.upTo t).o 0x6000 9 ≠ 3) :=
  ⟨0, 2, 0x1001, bytesBE 4 7 ++ List.replicate 12 0, z [] [(0x1100, 1, 2)], by decide +kernel⟩

theorem test_TreeAddressesAndTraffic_11 : ∃ (t : Tick) (p : Nat) (m : MReq) (l : List MReq) (s : State),
    (p = 1 ∨ p = 2) ∧
    (((s.upTo t).port p).proxyQ = m :: l) ∧
    (((s.upTo t).port p).proxies.length < 96) ∧
    ((s.upTo t).active p = true) :=
  ⟨0, 2, ⟨rr, 1, 7, 0, [], 0, false⟩, [], (z [(0x6002, 5, 6)] [(0x1102, 1, 6)]).modPort 2 (fun q => { q with
        proxyQ := [⟨rr, 1, 7, 0, [], 0, false⟩] }), by decide +kernel⟩

theorem test_TreeAddressesAndTraffic_12 : ∃ (t : Tick) (p src tag : Nat) (x : ProxyRec) (s : State),
    (p = 1 ∨ p = 2) ∧
    (((s.upTo t).port p).proxies.find? (fun r => decide (r.req.id = src ∧ r.req.tag = tag)) = some x) ∧
    (x.at_ + (s.upTo t).a 0x6220 1 * tMs ≤ (s.upTo t).now) :=
  ⟨tSec, 2, 9, 3, ⟨rr, 2 ^ 28, 7, 0⟩, (z [(0x6000, 5, 6)] []).modPort 2 (fun q => { q with
        proxies := [⟨rr, 2 ^ 28, 7, 0⟩] }), by decide +kernel⟩

theorem test_ObjectReads_1 : ∃ (t : Tick) (r : Req) (i sub : Nat) (s : State),
    (Served (s.upTo t) r) ∧
    (((s.upTo t).renew r).judgeR r i sub = 0) ∧
    ((i, sub) ∉ ownReads) ∧
    (hasActual i = false ∨ sub = 0) :=
  ⟨0, rr, 0x1000, 1, z [(0x6000, 5, 6)] [], by
    (try and_intros) <;> first | decide +kernel | rfl | (constructor <;> decide +kernel)⟩

theorem test_ObjectReads_2 : ∃ (t : Tick) (r : Req) (i sub : Nat) (s : State),
    (Served (s.upTo t) r) ∧
    (((s.upTo t).renew r).judgeR r i sub = 0) ∧
    (hasActual i = true) ∧
    (sub ≠ 0) ∧
    (((s.upTo t).renew r).view i sub ≠ ((s.upTo t).renew r).actual i sub) :=
  ⟨0, rr, 0x2003, 1, z [(0x6000, 5, 6), (0x2003, 1, 3)] [], by
    (try and_intros) <;> first | decide +kernel | rfl | (constructor <;> decide +kernel)⟩

theorem test_ObjectReads_3 : ∃ (t : Tick) (r : Req) (i sub e : Nat) (s : State),
    (Served (s.upTo t) r) ∧
    (((s.upTo t).renew r).judgeR r i sub = e) ∧
    (e ≠ 0) :=
  ⟨0, rr, 0x1F00, 7, 0x13, z [(0x6000, 5, 6)] [], by
    (try and_intros) <;> first | decide +kernel | rfl | (constructor <;> decide +kernel)⟩

theorem test_ObjectReads_4 : ∃ (t : Tick) (r : Req) (i sub : Nat) (s : State),
    ((s.upTo t).cpLost = true) :=
  ⟨0, rl, 0x1F00, 7, { z [(0x6000, 5, 6)] [] with cpLost := true }, by decide +kernel⟩

theorem test_ObjectReads_5 : ∃ (t : Tick) (r : Req) (i sub : Nat) (s : State),
    ((s.upTo t).cpLost = false) ∧
    ((s.upTo t).cpAbsent.isSome = true) :=
  ⟨5, rl, 0x1F00, 7, { z [] [] with cpAbsent := some 1 }, by decide +kernel⟩

theorem test_ObjectReads_6 : ∃ (t : Tick) (r : Req) (e : LogEntry) (s : State),
    (Served (s.upTo t) r) ∧
    ((s.upTo t).unread ≠ 0) ∧
    ((s.upTo t).log[(s.upTo t).log.length - (s.upTo t).unread]? = some e) :=
  ⟨0, rl, ⟨3, 1, 0, 0, 0, 0⟩, { z [(0xA000, 3, 7), (0xA000, 4, 6)] [] with log := [⟨3, 1, 0, 0, 0, 0⟩] }, by
    (try and_intros) <;> first | decide +kernel | rfl | (constructor <;> decide +kernel)⟩

theorem test_ObjectReads_7 : ∃ (t : Tick) (r : Req) (s : State),
    (Served (s.upTo t) r) ∧
    ((s.upTo t).unread = 0) :=
  ⟨0, rr, z [(0x6000, 5, 6)] [], by
    (try and_intros) <;> first | decide +kernel | rfl | (constructor <;> decide +kernel)⟩

theorem test_ObjectWrites_1 : ∃ (t : Tick) (r : Req) (i sub v : Nat) (s : State),
    ((i, sub) ∈ plainObjects) ∧
    (Reaches (s.upTo t) r i sub (objBytes i sub v) v) :=
  ⟨0, rq, 0xA000, 2, 100, z [] [], by
    (try and_intros) <;> first | decide +kernel | rfl | (constructor <;> decide +kernel)⟩

theorem test_ObjectWrites_2 : ∃ (t : Tick) (r : Req) (b v : Nat) (s : State),
    (b < 4) ∧
    (Reaches (s.upTo t) r (0x9020 + b) 2 (objBytes (0x9020 + b) 2 v) v) ∧
    (v < 96) :=
  ⟨0, rq, 3, 95, z [] [], by
    (try and_intros) <;> first | decide +kernel | rfl | (constructor <;> decide +kernel)⟩

theorem test_ObjectWrites_3 : ∃ (t : Tick) (r : Req) (b v : Nat) (s : State),
    (b < 4) ∧
    (Reaches (s.upTo t) r (0x9020 + b) 2 (objBytes (0x9020 + b) 2 v) v) ∧
    (96 ≤ v) ∧
    (v < 127) :=
  ⟨0, rq, 3, 126, z [] [], by
    (try and_intros) <;> first | decide +kernel | rfl | (constructor <;> decide +kernel)⟩

theorem test_ObjectWrites_4 : ∃ (t : Tick) (r : Req) (i sub e v : Nat) (data : List Nat) (s : State),
    (¬ (i = 0x5070 ∧ sub = 3)) ∧
    (Served (s.upTo t) r) ∧
    (((s.upTo t).renew r).judgeW r i sub data = (e, v)) ∧
    (e ≠ 0) :=
  ⟨0, rl, 0x1100, 9, 0x15, 0, [1, 2], z [] [], by
    (try and_intros) <;> first | decide +kernel | rfl | (constructor <;> decide +kernel)⟩

theorem test_ObjectWrites_5 : ∃ (t : Tick) (r : Req) (i sub v : Nat) (s : State),
    ((i, sub) ∈ plainObjects) ∧
    ((s.upTo t).cpLost = false) ∧
    ((s.upTo t).cpAbsent.isSome = true) :=
  ⟨5, rl, 0xA000, 2, 7, { z [] [] with cpAbsent := some 1 }, by decide +kernel⟩

theorem test_ObjectWrites_6 : ∃ (t : Tick) (r : Req) (s : State),
    (Reaches (s.upTo t) r 0xA000 7 (objBytes 0xA000 7 1) 1) :=
  ⟨0, rl, { z [(0xA000, 3, 7), (0xA000, 4, 6), (0xA000, 6, 6)] [] with log := [⟨3, 1, 0, 0, 0, 0⟩] }, by
    (try and_intros) <;> first | decide +kernel | rfl | (constructor <;> decide +kernel)⟩

theorem test_ObjectWrites_7 : ∃ (t : Tick) (r : Req) (s : State),
    (Reaches (s.upTo t) r 0x5005 0x17 (objBytes 0x5005 0x17 1) 1) :=
  ⟨0, rl, z [(0x5005, 22, 7)] [], by
    (try and_intros) <;> first | decide +kernel | rfl | (constructor <;> decide +kernel)⟩

theorem test_ObjectWrites_8 : ∃ (t : Tick) (r : Req) (i sub : Nat) (s : State),
    (i ∈ [0x1100, 0x1204, 0x2130, 0x2141, 0x2430, 0x3031, 0x3035, 0x3036, 0x3037, 0x3300, 0x4110, 0x4216, 0x4300, 0x4420, 0x6010,
      0x6011, 0x6012, 0x6111]) ∧
    (clearSub i = some sub) ∧
    (Reaches (s.upTo t) r i sub (objBytes i sub 1) 1) ∧
    (i ∉ (s.upTo t).clears) :=
  ⟨0, rl, 0x6011, 0x13, z [] [], by
    (try and_intros) <;> first | decide +kernel | rfl | (constructor <;> decide +kernel)⟩

theorem test_ObjectWrites_9 : ∃ (t : Tick) (r : Req) (v : Nat) (s : State),
    (Reaches (s.upTo t) r 0x1020 1 (objBytes 0x1020 1 v) v) ∧
    ((s.upTo t).o 0x1020 2 < v) :=
  ⟨0, rl, 76, { z [] [] with alarms := [⟨Al.cfgMismatch, 0x1020, 0⟩] }, by
    (try and_intros) <;> first | decide +kernel | rfl | (constructor <;> decide +kernel)⟩

theorem test_ObjectWrites_10 : ∃ (t : Tick) (r : Req) (v : Nat) (s : State),
    (Reaches (s.upTo t) r 0x1020 1 (objBytes 0x1020 1 v) v) ∧
    (v ≤ (s.upTo t).o 0x1020 2) :=
  ⟨0, rl, 10, z [(0x1020, 2, 50)] [], by
    (try and_intros) <;> first | decide +kernel | rfl | (constructor <;> decide +kernel)⟩

theorem test_StagingAndCommit_1 : ∃ (t : Tick) (r : Req) (i sub v : Nat) (s : State),
    (isStaged i sub = true) ∧
    (Reaches (s.upTo t) r i sub (objBytes i sub v) v) ∧
    (¬ ((i = 0x1101 ∨ i = 0x1102) ∧ 6 ≤ sub)) ∧
    (i ≠ 0x4003) ∧
    ((s.upTo t).stage = none) :=
  ⟨0, rl, 0x6001, 1, 1, z [] [], by
    (try and_intros) <;> first | decide +kernel | rfl | (constructor <;> decide +kernel)⟩

theorem test_StagingAndCommit_2 : ∃ (t : Tick) (r : Req) (i sub v : Nat) (g : StageSet) (s : State),
    (isStaged i sub = true) ∧
    (Reaches (s.upTo t) r i sub (objBytes i sub v) v) ∧
    (¬ ((i = 0x1101 ∨ i = 0x1102) ∧ 6 ≤ sub)) ∧
    (i ≠ 0x4003) ∧
    ((s.upTo t).stage = some g) ∧
    (g.owner = reqWord r) :=
  ⟨0, rl, 0x6001, 1, 1, ⟨reqWord rl, [(1, 2)], 9⟩, { z [] [] with stage := some ⟨reqWord rl, [(1, 2)], 9⟩ }, by
    (try and_intros) <;> first | decide +kernel | rfl | (constructor <;> decide +kernel)⟩

theorem test_StagingAndCommit_3 : ∃ (t : Tick) (r : Req) (i sub v : Nat) (g : StageSet) (s : State),
    (isStaged i sub = true) ∧
    (Reaches (s.upTo t) r i sub (objBytes i sub v) v) ∧
    (¬ ((i = 0x1101 ∨ i = 0x1102) ∧ 6 ≤ sub)) ∧
    (i ≠ 0x4003) ∧
    ((s.upTo t).stage = some g) ∧
    (g.owner ≠ reqWord r) :=
  ⟨0, rq, 0x6001, 1, 1, ⟨reqWord rl, [(1, 2)], 9⟩, { z [] [] with stage := some ⟨reqWord rl, [(1, 2)], 9⟩ }, by
    (try and_intros) <;> first | decide +kernel | rfl | (constructor <;> decide +kernel)⟩

theorem test_StagingAndCommit_4 : ∃ (t : Tick) (r : Req) (g : StageSet) (s : State),
    (Reaches (s.upTo t) r 0x1F00 7 (objBytes 0x1F00 7 1) 1) ∧
    ((s.upTo t).stage = some g) ∧
    (g.owner = reqWord r) :=
  ⟨0, rl, ⟨reqWord rl, [(1, 2)], 9⟩, { z [] [] with stage := some ⟨reqWord rl, [(1, 2)], 9⟩ }, by
    (try and_intros) <;> first | decide +kernel | rfl | (constructor <;> decide +kernel)⟩

theorem test_StagingAndCommit_5 : ∃ (t : Tick) (r : Req) (v : Nat) (g : StageSet) (s : State),
    (Reaches (s.upTo t) r 0x1F00 1 (objBytes 0x1F00 1 v) v) ∧
    ((s.upTo t).stage = some g) ∧
    (g.owner = reqWord r) ∧
    (g.vals ≠ []) ∧
    ((s.upTo t).commits.length < 8) :=
  ⟨0, rl, 2048, ⟨reqWord rl, [(key 0x6001 2, 2)], 9⟩, { z [(0x5022, 17, 1)] [] with
        stage := some ⟨reqWord rl, [(key 0x6001 2, 2)], 9⟩ }, by
    (try and_intros) <;> first | decide +kernel | rfl | (constructor <;> decide +kernel)⟩

theorem test_StagingAndCommit_6 : ∃ (t : Tick) (r : Req) (v : Nat) (g : StageSet) (s : State),
    (Reaches (s.upTo t) r 0x1F00 1 (objBytes 0x1F00 1 v) v) ∧
    ((s.upTo t).stage = some g) ∧
    (g.owner = reqWord r) ∧
    (g.vals ≠ []) ∧
    (8 ≤ (s.upTo t).commits.length) :=
  ⟨0, rl, 2048, ⟨reqWord rl, [(key 0x6001 2, 2)], 9⟩, { z [(0x5022, 17, 1)] [] with
        stage := some ⟨reqWord rl, [(key 0x6001 2, 2)], 9⟩, commits := List.replicate 8 ⟨0, 0, []⟩ }, by
    (try and_intros) <;> first | decide +kernel | rfl | (constructor <;> decide +kernel)⟩

theorem test_StagingAndCommit_7 : ∃ (t : Tick) (g : StageSet) (s : State),
    ((s.upTo t).stage = some g) ∧
    (g.leaseEnd < (s.upTo t).now) :=
  ⟨10, ⟨reqWord rl, [(1, 2)], 9⟩, { z [] [] with stage := some ⟨reqWord rl, [(1, 2)], 9⟩ }, by decide +kernel⟩

theorem test_LeasesAndHolds_1 : ∃ (t : Tick) (x : Tick) (s : State),
    (((s.upTo t).lock 26).leaseEnd = some x) ∧
    (((s.upTo t).lock 26).owner ≠ 0) ∧
    (x < (s.upTo t).now) :=
  ⟨10, 9, (z [(0x8023, 2, 3)] []).setLock 26 ⟨7, some 9⟩, by decide +kernel⟩

theorem test_LeasesAndHolds_2 : ∃ (t : Tick) (n : Nat) (x : Tick) (s : State),
    (n < 16) ∧
    (((s.upTo t).lock (10 + n)).leaseEnd = some x) ∧
    (((s.upTo t).lock (10 + n)).owner ≠ 0) ∧
    (x < (s.upTo t).now) ∧
    ((s.upTo t).chanBusy n = false) :=
  ⟨10, 15, 9, (z [(0x9010, 1, 3)] []).setLock 25 ⟨7, some 9⟩, by decide +kernel⟩

theorem test_LeasesAndHolds_3 : ∃ (t : Tick) (code detail : Nat) (a : AlarmInst) (s : State),
    ((s.upTo t).alarms.find? (fun a => decide (a.code = code ∧ a.detail = detail)) = some a) ∧
    (code ∉ condAlarms) ∧
    (a.since + (s.upTo t).o 0xA000 2 * tSec ≤ (s.upTo t).now) :=
  ⟨tSec * 1000, Al.dmaLease, 3, ⟨Al.dmaLease, 3, 0⟩, { z [] [] with
        alarms := [⟨Al.dmaLease, 3, 0⟩, ⟨Al.dmaLease, 4, 0⟩] }, by decide +kernel⟩

theorem test_LocalHostPort_1 : ∃ (t : Tick) (sclk : Bool) (s : State),
    ((s.upTo t).power.dormant = false) ∧
    ((s.upTo t).power.wakeStep = 0) ∧
    ((s.upTo t).power.hand = none) :=
  ⟨0, true, z [] [], by decide +kernel⟩

theorem test_LocalHostPort_2 : ∃ (t : Tick) (prio tag node : Nat) (pay : List Nat) (s : State),
    ((s.upTo t).lhpTakes = true) ∧
    (prio < 4) ∧
    (tag < 64) ∧
    (node < 2 ^ 18) ∧
    (pay.length % 4 = 0) ∧
    (8 ≤ pay.length) ∧
    (pay.length ≤ 8192) ∧
    ((s.upTo t).lhpTagUsed tag = false) ∧
    ((s.upTo t).lhpInBytes + (12 + pay.length) ≤ lhpSize) :=
  ⟨0, 1, 7, 300, [1, 2, 3, 4, 5, 6, 7, 8], z0 [(0x5022, 19, 1)] [], by decide +kernel⟩

theorem test_LocalHostPort_3 : ∃ (t : Tick) (s : State),
    ((s.upTo t).lhpTakes = true) :=
  ⟨0, z0 [(0x5022, 19, 1)] [], by decide +kernel⟩

theorem test_StatusAndMemoryWindows_1 : ∃ (t : Tick) (s : State),
    ((s.upTo t).start.held = 0) ∧
    ((∀ x, (s.upTo t).swp.hwAt = some x → x + 100 * tUs ≤ (s.upTo t).now)) :=
  ⟨0, z0 [] [], by decide +kernel⟩

theorem test_StatusAndMemoryWindows_2 : ∃ (t : Tick) (s : State),
    ((s.upTo t).start.held = 0) ∧
    ((s.upTo t).cpAbsent = none) ∧
    ((∀ x, (s.upTo t).swp.cpAt = some x → x + (s.upTo t).o 0x1021 2 * tUs ≤ (s.upTo t).now)) :=
  ⟨0, z0 [(0x1021, 1, 2 ^ 5000)] [], by decide +kernel⟩

theorem test_StatusAndMemoryWindows_3 : ∃ (t : Tick) (r : Req) (addr count : Nat) (g : Region) (s : State),
    (Served (s.upTo t) r) ∧
    (((s.upTo t).renew r).judgeMem ⟨r, 3, addr, count, [], (s.upTo t).now, false⟩ = (0, some g)) ∧
    ((s.upTo t).domOn g.dom = true) ∧
    ((s.upTo t).portHeld g = false) ∧
    ((s.upTo t).eccHit addr count = false) ∧
    (g.row ≠ 5) :=
  ⟨0, rl, 0x50000000, 8, ⟨9, 0x50000000, 0x5000FFFF, Dom.cp, 0, some 1⟩, { z [(0x5022, 19, 1)] [] with mem := [(0x50000001, 7)] }, by
    (try and_intros) <;> first | decide +kernel | rfl | (constructor <;> decide +kernel)⟩

theorem test_StatusAndMemoryWindows_4 : ∃ (t : Tick) (r : Req) (addr count : Nat) (g : Region) (s : State),
    (Served (s.upTo t) r) ∧
    (((s.upTo t).renew r).judgeMem ⟨r, 3, addr, count, [], (s.upTo t).now, false⟩ = (0, some g)) ∧
    ((s.upTo t).domOn g.dom = true) ∧
    ((s.upTo t).portHeld g = false) ∧
    ((s.upTo t).eccHit addr count = true) :=
  ⟨0, rl, 0x50000000, 8, ⟨9, 0x50000000, 0x5000FFFF, Dom.cp, 0, some 1⟩, { z [(0x5022, 19, 1)] [] with
        dma.uncorr := [0x50000004] }, by
    (try and_intros) <;> first | decide +kernel | rfl | (constructor <;> decide +kernel)⟩

theorem test_StatusAndMemoryWindows_5 : ∃ (t : Tick) (r : Req) (addr : Nat) (data : List Nat) (g : Region) (s : State),
    (Served (s.upTo t) r) ∧
    (((s.upTo t).renew r).judgeMem ⟨r, 4, addr, data.length, data, (s.upTo t).now, false⟩ = (0, some g)) ∧
    (8 ≤ g.row) ∧
    ((s.upTo t).domOn g.dom = true) ∧
    ((∀ b, b ∈ data → b < 256)) :=
  ⟨0, rl, 0x50000004, [1, 2, 3, 4], ⟨9, 0x50000000, 0x5000FFFF, Dom.cp, 0, some 1⟩, { z [(0x5022, 19, 1)] [] with
        mem := [(0x50000001, 7)], dma.uncorr := [0x50000004] }, by
    (try and_intros) <;> first | decide +kernel | rfl | (constructor <;> decide +kernel)⟩

theorem test_StatusAndMemoryWindows_6 : ∃ (t : Tick) (r : Req) (addr e : Nat) (data : List Nat) (s : State),
    (Served (s.upTo t) r) ∧
    (((s.upTo t).renew r).judgeMem ⟨r, 4, addr, data.length, data, (s.upTo t).now, false⟩ = (e, none)) :=
  ⟨0, rl, 0x20000004, 0x12, [1, 2, 3, 4], z [(0x5022, 19, 1)] [], by
    (try and_intros) <;> first | decide +kernel | rfl | (constructor <;> decide +kernel)⟩

theorem test_StatusAndMemoryWindows_7 : ∃ (t : Tick) (addr : Nat) (g : Region) (s : State),
    (regionOf (addr - addr % 4) 4 = some g) ∧
    ((s.upTo t).domOn g.dom = true) ∧
    (g.row ≠ 8) :=
  ⟨0, 0x50000006, ⟨9, 0x50000000, 0x5000FFFF, Dom.cp, 0, some 1⟩, z [(0x5022, 19, 1)] [], by decide +kernel⟩

theorem test_StatusAndMemoryWindows_8 : ∃ (t : Tick) (addr : Nat) (g : Region) (s : State),
    (regionOf (addr - addr % 4) 4 = some g) ∧
    ((s.upTo t).domOn g.dom = true) ∧
    (g.row ≠ 8) ∧
    (addr - addr % 4 ∉ (s.upTo t).dma.uncorr) :=
  ⟨0, 0x50000006, ⟨9, 0x50000000, 0x5000FFFF, Dom.cp, 0, some 1⟩, z [(0x5022, 19, 1)] [], by decide +kernel⟩

theorem test_StatusAndMemoryWindows_9 : ∃ (t : Tick) (d : Nat) (s : State),
    (d < 22) ∧
    ((s.upTo t).domState d = 0) ∧
    ((s.upTo t).power.dormant = false) ∧
    ((s.upTo t).start.vidGoal = none) ∧
    (((s.upTo t).ask .dom d (domCost d) d).1 = true) :=
  ⟨0, 12, z [] [], by decide +kernel⟩

theorem test_StatusAndMemoryWindows_10 : ∃ (t : Tick) (m : MReq) (s : State),
    (Served (s.upTo t) m.req) ∧
    ((s.upTo t).nextM = some m) ∧
    ((s.upTo t).nextLhp = none) ∧
    (m.op = 1) ∧
    (((s.upTo t).renew m.req).judgeR m.req (m.w1 / 65536) (m.w1 / 256 % 256) = 0) ∧
    ((m.w1 / 65536, m.w1 / 256 % 256) ∉ ownReads) ∧
    (hasActual (m.w1 / 65536) = false) :=
  ⟨0, ⟨rr, 1, 0x10000100, 0, [], 0, false⟩, { z [(0x6000, 5, 6)] [] with mq := [⟨rr, 1, 0x10000100, 0, [], 0, false⟩] }, by
    (try and_intros) <;> first | decide +kernel | rfl | (constructor <;> decide +kernel)⟩

theorem test_ChannelCommands_1 : ∃ (t : Tick) (r : Req) (n : Nat) (s : State),
    (n < 16) ∧
    (Reaches (s.upTo t) r (chIdx9 n) 1 [1] 1) ∧
    ((s.upTo t).hkOwns n = false) ∧
    (((s.upTo t).lock (10 + n)).owner = 0 ∨ ((s.upTo t).lock (10 + n)).owner = reqWord r) :=
  ⟨5, rq, 15, z [] [], by
    (try and_intros) <;> first | decide +kernel | rfl | (constructor <;> decide +kernel)⟩

theorem test_ChannelCommands_2 : ∃ (t : Tick) (r : Req) (n : Nat) (s : State),
    (n < 16) ∧
    (Reaches (s.upTo t) r (chIdx9 n) 1 [1] 1) ∧
    ((s.upTo t).hkOwns n = true ∨ ((s.upTo t).lock (10 + n)).owner ≠ 0 ∧ ((s.upTo t).lock (10 + n)).owner ≠ reqWord r) :=
  ⟨0, rq, 15, z [(0x5022, 20, 1)] [], by
    (try and_intros) <;> first | decide +kernel | rfl | (constructor <;> decide +kernel)⟩

theorem test_ChannelCommands_3 : ∃ (t : Tick) (r : Req) (n : Nat) (s : State),
    (n < 16) ∧
    (Reaches (s.upTo t) r (chIdx9 n) 1 [0] 0) ∧
    (reqWord r ≠ 0) ∧
    (((s.upTo t).lock (10 + n)).owner = reqWord r) ∧
    ((s.upTo t).chanBusy n = false) :=
  ⟨0, rq, 3, { z [(0x9004, 1, 1)] [] with locks := [(13, ⟨reqWord rq, none⟩)] }, by
    (try and_intros) <;> first | decide +kernel | rfl | (constructor <;> decide +kernel)⟩

theorem test_ChannelCommands_4 : ∃ (t : Tick) (r : Req) (n v : Nat) (s : State),
    (n < 15) ∧
    (Reaches (s.upTo t) r (chIdx9 n) 6 (objBytes 0x9001 6 v) v) ∧
    (isDesc v = true) ∧
    (reqWord r ≠ 0) ∧
    (((s.upTo t).lock (10 + n)).owner = reqWord r) ∧
    ((s.upTo t).chanBusy n = false) ∧
    ((s.upTo t).fits ((s.upTo t).costOf .dmaChan n) (costOn rCore 1) = true) :=
  ⟨5, rq, 14, 0x5000FFE0, { z [(0x900F, 13, 7)] [] with locks := [(24, ⟨reqWord rq, none⟩)] }, by
    (try and_intros) <;> first | decide +kernel | rfl | (constructor <;> decide +kernel)⟩

theorem test_ChannelCommands_5 : ∃ (t : Tick) (r : Req) (n v : Nat) (s : State),
    (n < 16) ∧
    (Reaches (s.upTo t) r (chIdx9 n) 6 (objBytes 0x9001 6 v) v) ∧
    (isDesc v = true) ∧
    (((s.upTo t).lock (10 + n)).owner ≠ reqWord r) :=
  ⟨5, rq, 14, 0x5000FFE0, { z [(0x900F, 13, 7)] [] with locks := [(24, ⟨7, none⟩)] }, by
    (try and_intros) <;> first | decide +kernel | rfl | (constructor <;> decide +kernel)⟩

theorem test_ChannelCommands_6 : ∃ (t : Tick) (r : Req) (n : Nat) (s : State),
    (n < 16) ∧
    (Reaches (s.upTo t) r (chIdx9 n) 7 (objBytes 0x9001 7 1) 1) ∧
    (reqWord r ≠ 0) ∧
    (((s.upTo t).lock (10 + n)).owner = reqWord r) ∧
    ((s.upTo t).chanBusy n = true) :=
  ⟨5, rq, 3, { z [(0x9004, 9, 3), (0x9005, 3, 0x19), (0x9005, 11, 254), (0x9006, 3, 0x19), (0x9006, 11, 255)] [] with
        locks := [(13, ⟨reqWord rq, none⟩)] }, by
    (try and_intros) <;> first | decide +kernel | rfl | (constructor <;> decide +kernel)⟩

theorem test_ChannelCommands_7 : ∃ (t : Tick) (r : Req) (n : Nat) (x : DmaRun) (s : State),
    (n < 16) ∧
    (MemOk s) ∧
    (Reaches (s.upTo t) r (chIdx9 n) 8 (objBytes 0x9001 8 1) 1) ∧
    (reqWord r ≠ 0) ∧
    (((s.upTo t).lock (10 + n)).owner = reqWord r) ∧
    ((s.upTo t).o (chIdx9 n) 9 = 3) ∧
    (((s.upTo t).ch n).run = some x) ∧
    (((s.upTo t).ch n).held = false) ∧
    (x.done < 2 ^ 24) ∧
    (x.next < 2 ^ 32) :=
  ⟨5, rq, 3, ⟨0, 0x10000000, 0x50000400, 512, 256, false⟩, { z [(0x9004, 9, 3), (0x9004, 10, 0x50000020)] [] with
        locks := [(13, ⟨reqWord rq, none⟩)], dma.ch := amod 16 Chan.init [] 3 (fun c => { c with run := some ⟨0, 0x10000000, 0x50000400, 512, 256, false⟩ }), grants := [⟨.dmaChan, 3, costOn rCore 1⟩], mem := [(0x50000020, 1), (0x50000037, 5)] }, by
    (try and_intros) <;> first | decide +kernel | rfl | (constructor <;> decide +kernel)⟩

theorem test_ChannelCommands_8 : ∃ (t : Tick) (r : Req) (n v : Nat) (s : State),
    (n < 16) ∧
    (Reaches (s.upTo t) r (chIdx9 n) 3 (objBytes 0x9001 3 v) v) ∧
    (v ≤ 0x1E) ∧
    (reqWord r ≠ 0) ∧
    (((s.upTo t).lock (10 + n)).owner = reqWord r) :=
  ⟨5, rq, 3, 0x1E, { z [(0x9004, 11, 4)] [] with locks := [(13, ⟨reqWord rq, none⟩)] }, by
    (try and_intros) <;> first | decide +kernel | rfl | (constructor <;> decide +kernel)⟩

theorem test_DescriptorsBurstsAndCaptures_1 : ∃ (t : Tick) (n : Nat) (s : State),
    (DescReady (s.upTo t) n 0) :=
  ⟨0, 15, { (z [(0x5022, 19, 1), (0x5022, 13, 1), (0x9010, 9, 3), (0x9010, 10, 0x50000020)] []).wrBytes 0x50000020 (bytesLE 4 0x08000000 ++ bytesLE 4 0x50000400 ++ bytesLE 4 0x50000404 ++ bytesLE 4 512) with
        dma.ch := amod 16 Chan.init [] 15 (fun c => { c with fetch := true, req := rq }) }, by
    (try and_intros) <;> first | decide +kernel | rfl | (constructor <;> decide +kernel)⟩

theorem test_DescriptorsBurstsAndCaptures_2 : ∃ (t : Tick) (n : Nat) (s : State),
    (DescReady (s.upTo t) n 1) :=
  ⟨0, 0, { (z [(0x5022, 19, 1), (0x9001, 9, 3), (0x9001, 10, 0x50000020)] []).wrBytes 0x50000020 (bytesLE 4 0x18000000 ++ bytesLE 4 0x12345678 ++ bytesLE 4 0x50000404 ++ bytesLE 4 512) with
        dma.ch := amod 16 Chan.init [] 0 (fun c => { c with fetch := true, req := rq }) }, by
    (try and_intros) <;> first | decide +kernel | rfl | (constructor <;> decide +kernel)⟩

theorem test_DescriptorsBurstsAndCaptures_3 : ∃ (t : Tick) (n : Nat) (s : State),
    (DescReady (s.upTo t) n 2) :=
  ⟨0, 0, { (z [(0x5022, 19, 1), (0x9001, 9, 3), (0x9001, 10, 0x50000020)] []).wrBytes 0x50000020 (bytesLE 4 0x28000000 ++ bytesLE 4 0x30000000 ++ bytesLE 4 0x50000404 ++ bytesLE 4 512) with
        dma.ch := amod 16 Chan.init [] 0 (fun c => { c with fetch := true, req := rq }) }, by
    (try and_intros) <;> first | decide +kernel | rfl | (constructor <;> decide +kernel)⟩

theorem test_DescriptorsBurstsAndCaptures_4 : ∃ (t : Tick) (n : Nat) (x : DmaRun) (s : State),
    (n < 16) ∧
    (MemOk s) ∧
    ((∀ m, m < 16 → m ≠ n → ((s.upTo t).ch m).run = none)) ∧
    (((s.upTo t).ch n).run = some x) ∧
    (x.op = 1) ∧
    (x.down = false) ∧
    (x.src < 2 ^ 32) ∧
    (x.done + 256 < x.len) ∧
    (0x50000000 ≤ x.dst) ∧
    (x.dst + x.len ≤ 0x50010000) ∧
    ((s.upTo t).o (chIdx9 n) 9 = 3) ∧
    (((s.upTo t).ch n).held = false) ∧
    (((s.upTo t).ch n).stop = false) ∧
    ((s.upTo t).power.stalls = []) ∧
    ((s.upTo t).domOn Dom.cp = true) :=
  ⟨0, 2, ⟨1, 0x12345678, 0x50000400, 1024, 256, false⟩, { z [(0x5022, 19, 1), (0x9003, 9, 3)] [] with
        dma.ch := amod 16 Chan.init [] 2 (fun c => { c with run := some ⟨1, 0x12345678, 0x50000400, 1024, 256, false⟩ }), mem := [(0x500004FF, 1), (0x50000600, 5)] }, by
    (try and_intros) <;> first | decide +kernel | rfl | (constructor <;> decide +kernel)⟩

theorem test_DescriptorsBurstsAndCaptures_5 : ∃ (t : Tick) (n : Nat) (s : State),
    (n < 16) ∧
    ((s.upTo t).o (chIdx9 n) 3 = 0x18) ∧
    (((s.upTo t).ch n).trigAt + (((s.upTo t).ch n).fired + 1) * (s.upTo t).o (chIdx9 n) 4 * tUs ≤ (s.upTo t).now) :=
  ⟨10 * tUs, 2, z [(0x9003, 3, 0x18), (0x9003, 4, 10), (0x9003, 11, 254)] [], by decide +kernel⟩

theorem test_DescriptorsBurstsAndCaptures_6 : ∃ (t : Tick) (r : Req) (b : Nat) (s : State),
    (b < 4) ∧
    (MemOk s) ∧
    (Reaches (s.upTo t) r (capIdx b) 7 (objBytes 0x9020 7 1) 1) ∧
    ((s.upTo t).capState b ≠ 2) :=
  ⟨0, rq, 3, { z [(0x9023, 1, 5), (0x9023, 2, 6), (0x9023, 6, 7), (0x9023, 8, 3)] [] with mem := [(0x200C0002, 0x41)] }, by
    (try and_intros) <;> first | decide +kernel | rfl | (constructor <;> decide +kernel)⟩

theorem test_DescriptorsBurstsAndCaptures_7 : ∃ (t : Tick) (r : Req) (b : Nat) (s : State),
    (b < 4) ∧
    (Reaches (s.upTo t) r (capIdx b) 7 (objBytes 0x9020 7 1) 1) ∧
    ((s.upTo t).capState b = 2) ∧
    (((s.upTo t).capb b).units < ((s.upTo t).capb b).len) ∧
    (((s.upTo t).capb b).trunc = false) ∧
    ((((s.upTo t).capb b).point = 2 → ((s.upTo t).capb b).units = 0 → (s.upTo t).time_ < (s.upTo t).capEnd b)) :=
  ⟨0, rq, 3, { z [(0x9023, 8, 2)] [] with dma.cap := amod 4 CapBuf.init [] 3 (fun c => { c with point := 1, len := 2 }) }, by
    (try and_intros) <;> first | decide +kernel | rfl | (constructor <;> decide +kernel)⟩

theorem test_DescriptorsBurstsAndCaptures_8 : ∃ (t : Tick) (b : Nat) (q : Bool) (s : State),
    (b < 4) ∧
    (MemOk s) ∧
    ((s.upTo t).o (capIdx b) 8 = 2) ∧
    (((s.upTo t).capb b).trunc = q) ∧
    ((q = true ∨ ((s.upTo t).capb b).units = ((s.upTo t).capb b).len)) ∧
    (0 < ((s.upTo t).capb b).units) :=
  ⟨0, 3, false, { z [(0x9023, 8, 2), (0x9004, 3, 0x1E)] [] with
        mem := [(0x200C0000, 9), (0x200C000C, 1)], dma.cap := amod 4 CapBuf.init [] 3 (fun c => { c with point := 1, units := 2, len := 2, seq := 65535 }) }, by
    (try and_intros) <;> first | decide +kernel | rfl | (constructor <;> decide +kernel)⟩

theorem test_DescriptorsBurstsAndCaptures_9 : ∃ (t : Tick) (b : Nat) (s : State),
    (b < 4) ∧
    (MemOk s) ∧
    ((s.upTo t).capState b = 2) ∧
    (((s.upTo t).capb b).point = 2) ∧
    (((s.upTo t).capb b).units = 0) ∧
    (0 < ((s.upTo t).capb b).len) ∧
    (((s.upTo t).capb b).len ≤ capMax / 4) ∧
    (((s.upTo t).capb b).trunc = false) ∧
    ((s.upTo t).capEnd b ≤ (s.upTo t).time_) :=
  ⟨tSec, 3, { z [(0x9023, 8, 2), (0x9004, 3, 0x1E)] [] with
        mem := [(0x200C0000, 9), (0x200C000C, 1)], dma.cap := amod 4 CapBuf.init [] 3 (fun c => { c with point := 2, len := 2, seq := 65535 }) }, by
    (try and_intros) <;> first | decide +kernel | rfl | (constructor <;> decide +kernel)⟩

theorem test_LedgerAndCaps_1 : ∃ (t : Tick) (q : LedReq) (s : State),
    (q.release = false) ∧
    (q.dom < 22) ∧
    (q.cost.length = 8) ∧
    ((s.upTo t).fits ((s.upTo t).costOf .block q.n) q.cost = true) :=
  ⟨0, ⟨3, 2, 7, [1,0,0,0,0,0,0,2], false⟩, { State.reset with grants := [] }, by decide +kernel⟩

theorem test_LedgerAndCaps_2 : ∃ (t : Tick) (q : LedReq) (s : State),
    (q.release = false) ∧
    (q.dom < 22) ∧
    (q.cost.length = 8) ∧
    ((s.upTo t).fits ((s.upTo t).costOf .block q.n) q.cost = false) :=
  ⟨0, ⟨3, 2, 7, [5000,0,0,0,0,0,0,2], false⟩, { State.reset with grants := [] }, by decide +kernel⟩

theorem test_LedgerAndCaps_3 : ∃ (t : Tick) (q x : LedReq) (s : State),
    (q.release = false) ∧
    (x.release = true) ∧
    (2 ≤ q.cls) ∧
    (q.n ≠ x.n) ∧
    (q.cost.length = 8) ∧
    (((s.upTo t).release .block x.n).fits ((s.upTo t).costOf .block q.n) q.cost = true) :=
  ⟨0, ⟨3, 2, 7, [100,0,0,0,0,0,0,0], false⟩, ⟨0, 2, 8, [], true⟩, { State.reset with
        grants := [⟨.block, 8, costOn rCore ((State.reset.cap 0) - 50)⟩] }, by decide +kernel⟩

theorem test_LedgerAndCaps_4 : ∃ (t : Tick) (r : Req) (rail v : Nat) (s : State),
    (rail < 8) ∧
    (Reaches (s.upTo t) r (0x5000) (rail + 1) (objBytes 0x5000 1 v) v) ∧
    (v ≤ ceilOf rail) ∧
    ((s.upTo t).booked rail ≤ v) ∧
    ((∀ x, x < 8 → (s.upTo t).raised Al.ledgerOver x = false ∧ (s.upTo t).booked x ≤ (s.upTo t).cap x)) :=
  ⟨0, rq, 0, 4180, { z [(0x5000, 1, 4000)] [] with grants := [⟨.block, 8, costOn rCore 4000⟩] }, by
    (try and_intros) <;> first | decide +kernel | rfl | (constructor <;> decide +kernel)⟩

theorem test_LedgerAndCaps_5 : ∃ (t : Tick) (r : Req) (rail v : Nat) (s : State),
    (rail < 8) ∧
    (Reaches (s.upTo t) r (0x5000) (rail + 1) (objBytes 0x5000 1 v) v) ∧
    (v ≤ ceilOf rail) ∧
    (v < (s.upTo t).booked rail) :=
  ⟨0, rq, 0, 3999, { z [(0x5000, 1, 4000)] [] with grants := [⟨.block, 8, costOn rCore 4000⟩] }, by
    (try and_intros) <;> first | decide +kernel | rfl | (constructor <;> decide +kernel)⟩

theorem test_PowerHandshake_1 : ∃ (t : Tick) (r : Req) (d : Nat) (s : State),
    (d < 20) ∧
    (d ≠ 18) ∧
    (Reaches (s.upTo t) r 0x5021 (d + 1) [0] 0) ∧
    ((s.upTo t).powerBusy = false) ∧
    ((s.upTo t).domState d = 1) ∧
    ((s.upTo t).refuses d = none) ∧
    ((s.upTo t).delays d = true) :=
  ⟨0, rq, 15, { (z [(0x5022, 16, 1)] []) with ports := amod 3 Port.init [] 0 (fun q => { q with busyUntil := 5 }) }, by
    (try and_intros) <;> first | decide +kernel | rfl | (constructor <;> decide +kernel)⟩

theorem test_PowerHandshake_2 : ∃ (t : Tick) (r : Req) (d : Nat) (s : State),
    (d < 20) ∧
    (d ≠ 18) ∧
    (Reaches (s.upTo t) r 0x5021 (d + 1) [0] 0) ∧
    ((s.upTo t).powerBusy = false) ∧
    ((s.upTo t).domState d = 1) ∧
    ((s.upTo t).refuses d = none) ∧
    ((s.upTo t).delays d = false) :=
  ⟨0, rq, 12, z [(0x5022, 13, 1)] [], by
    (try and_intros) <;> first | decide +kernel | rfl | (constructor <;> decide +kernel)⟩

theorem test_PowerHandshake_3 : ∃ (t : Tick) (r : Req) (d : Nat) (s : State),
    (d < 22) ∧
    (Reaches (s.upTo t) r 0x5021 (d + 1) [1] 1) ∧
    ((s.upTo t).powerBusy = false) ∧
    ((s.upTo t).domState d = 0) ∧
    ((s.upTo t).power.dormant = false) ∧
    ((s.upTo t).start.vidGoal = none) ∧
    ((s.upTo t).fits ((s.upTo t).costOf .dom d) (domCost d) = true) :=
  ⟨0, rr, 3, { (z [(0x5020, 3, 0x70), (0x5020, 4, 9), (0x5020, 5, 8)] []) with grants := [] }, by
    (try and_intros) <;> first | decide +kernel | rfl | (constructor <;> decide +kernel)⟩

theorem test_PowerHandshake_4 : ∃ (t : Tick) (r : Req) (s : State),
    (Reaches (s.upTo t) r 0x5020 1 (objBytes 0x5020 1 1) 1) ∧
    ((s.upTo t).powerBusy = false) ∧
    ((∀ d, d < 22 → (s.upTo t).domState d ≠ 4 ∧ (s.upTo t).refuses d = none)) ∧
    ((s.upTo t).o 0x5020 6 % 16 ≠ 0) ∧
    ((s.upTo t).power.fired ≠ some (s.upTo t).now) ∧
    ((dormantOrder.filter (s.upTo t).forDormant).any (s.upTo t).delays = true) :=
  ⟨0, rq, { (z [(0x5020, 6, 8), (0x5022, 16, 1), (0x5022, 3, 1)] []) with
        ports := amod 3 Port.init [] 0 (fun q => { q with busyUntil := 5 }) }, by
    (try and_intros) <;> first | decide +kernel | rfl | (constructor <;> decide +kernel)⟩

theorem test_PowerHandshake_5 : ∃ (t : Tick) (r : Req) (s : State),
    (Reaches (s.upTo t) r 0x5020 1 (objBytes 0x5020 1 1) 1) ∧
    ((s.upTo t).powerBusy = false) ∧
    ((∀ d, d < 22 → (s.upTo t).domState d ≠ 4)) ∧
    ((s.upTo t).o 0x5020 6 % 16 ≠ 0) ∧
    ((s.upTo t).power.fired = some (s.upTo t).now) :=
  ⟨7, rq, { z [(0x5020, 6, 8)] [] with power.fired := some 7 }, by
    (try and_intros) <;> first | decide +kernel | rfl | (constructor <;> decide +kernel)⟩

theorem test_PowerHandshake_6 : ∃ (t : Tick) (d e : Nat) (h : Handshake) (s : State),
    (d < 22) ∧
    ((s.upTo t).power.hand = some h) ∧
    (d ∈ h.waiting) ∧
    (e ∈ h.waiting) ∧
    (e ≠ d) ∧
    ((s.upTo t).refuses d = none) ∧
    ((s.upTo t).delays d = false) :=
  ⟨0, 12, 15, ⟨true, [12, 15], [12, 15], 0, [], false⟩, { z [] [] with
        power.hand := some ⟨true, [12, 15], [12, 15], 0, [], false⟩ }, by decide +kernel⟩

theorem test_PowerHandshake_7 : ∃ (t : Tick) (d f : Nat) (l : List Nat) (h : Handshake) (s : State),
    (d < 22) ∧
    (f < 22) ∧
    ((s.upTo t).power.hand = some h) ∧
    (h.waiting = [d]) ∧
    (h.doms = f :: l) ∧
    (h.dormant = false) ∧
    ((s.upTo t).refuses d = none) ∧
    ((s.upTo t).delays d = false) :=
  ⟨0, 12, 3, [12], ⟨false, [3, 12], [12], 0, [], false⟩, { z [] [] with
        power.hand := some ⟨false, [3, 12], [12], 0, [], false⟩ }, by decide +kernel⟩

theorem test_PowerHandshake_8 : ∃ (t : Tick) (d : Nat) (h : Handshake) (s : State),
    (d < 22) ∧
    ((s.upTo t).power.hand = some h) ∧
    (d ∈ h.waiting) ∧
    (h.since + maxDelay d ≤ (s.upTo t).now) ∧
    ((s.upTo t).power.stalls = []) :=
  ⟨200 * tUs, 12, ⟨false, [12, 16], [12], 0, [], false⟩, { (z [(0x5022, 13, 2), (0x5022, 17, 2)] []).modPort 1 (fun q => { q with
        deep := true }) with power.hand := some ⟨false, [12, 16], [12], 0, [], false⟩ }, by decide +kernel⟩

theorem test_DomainsGoAndCome_1 : ∃ (t : Tick) (d e : Nat) (l : List Nat) (h : Handshake) (s : State),
    (d < 12) ∧
    (e < 22) ∧
    (e ≠ d) ∧
    ((s.upTo t).power.hand = some h) ∧
    (h.started = true) ∧
    (h.acting = d :: e :: l) :=
  ⟨0, 3, 12, [], ⟨false, [3, 12], [], 0, [3, 12], true⟩, { z [(0x5022, 4, 3), (0x5022, 13, 2)] [] with
        power.hand := some ⟨false, [3, 12], [], 0, [3, 12], true⟩, grants := [⟨.dom, 3, costOn rCore 7⟩] }, by decide +kernel⟩

theorem test_DomainsGoAndCome_2 : ∃ (t : Tick) (h : Handshake) (s : State),
    (MemOk s) ∧
    ((s.upTo t).power.hand = some h) ∧
    (h.started = true) ∧
    (h.acting = [Dom.dc]) ∧
    (h.dormant = false) ∧
    ((s.upTo t).power.stalls = []) :=
  ⟨0, ⟨false, [14], [], 0, [14], true⟩, { z [(0x5022, 15, 3)] [] with
        power.hand := some ⟨false, [14], [], 0, [14], true⟩, grants := [⟨.dom, 14, costOn rCore 6⟩], mem := [(0x3fffffff, 9), (0x40000000, 1), (0x40300000, 2)] }, by
    (try and_intros) <;> first | decide +kernel | rfl | (constructor <;> decide +kernel)⟩

theorem test_DomainsGoAndCome_3 : ∃ (t : Tick) (d : Nat) (x : Tick) (l : List Nat) (s : State),
    (d < 12) ∧
    ((s.upTo t).domState d = 4) ∧
    ((s.upTo t).power.wakeStep = 0) ∧
    (smFind (s.upTo t).power.waking d = some x) ∧
    (x + domReady d ≤ (s.upTo t).now) ∧
    ((∀ y, y ∈ (s.upTo t).power.stalls → y.dom ≠ d)) :=
  ⟨20 * tUs, 3, 0, [3], { z [(0x5022, 4, 4)] [] with power.waking := [(3, 0)] }, by decide +kernel⟩

theorem test_DomainsGoAndCome_4 : ∃ (t : Tick) (x : Tick) (l : List Nat) (s : State),
    ((s.upTo t).domState Dom.bf = 4) ∧
    ((s.upTo t).power.wakeStep = 0) ∧
    (smFind (s.upTo t).power.waking Dom.bf = some x) ∧
    (x + domReady Dom.bf ≤ (s.upTo t).now) ∧
    ((∀ y, y ∈ (s.upTo t).power.stalls → y.dom ≠ Dom.bf)) ∧
    ((∀ b, b < 8 → b ∈ l → b ∉ (s.upTo t).power.signed)) :=
  ⟨200 * tUs, 0, [3], { z [(0x5022, 13, 4)] [] with power.waking := [(12, 0)], power.signed := [2, 9] }, by decide +kernel⟩

theorem test_DomainsGoAndCome_5 : ∃ (t : Tick) (b : Nat) (x : Tick) (s : State),
    (b < 8) ∧
    (MemOk s) ∧
    ((s.upTo t).domState Dom.bf = 4) ∧
    ((s.upTo t).power.wakeStep = 0) ∧
    (smFind (s.upTo t).power.waking Dom.bf = some x) ∧
    (x + domReady Dom.bf ≤ (s.upTo t).now) ∧
    ((∀ y, y ∈ (s.upTo t).power.stalls → y.dom ≠ Dom.bf)) ∧
    (b ∈ (s.upTo t).power.signed) :=
  ⟨200 * tUs, 6, 0, { z [(0x5022, 13, 4), (0x3101, 6, 15)] [] with
        power.waking := [(12, 0)], power.signed := [2, 6, 9], mem := [(wtBase 1 + 2 * bankBytes - 1, 3), (wtBase 1 + 2 * bankBytes, 5), (wtBase 1 + 3 * bankBytes - 1, 3), (wtBase 1 + 3 * bankBytes, 3)] }, by
    (try and_intros) <;> first | decide +kernel | rfl | (constructor <;> decide +kernel)⟩

theorem test_DomainsGoAndCome_6 : ∃ (t : Tick) (x : Tick) (l : List Nat) (s : State),
    (MemOk s) ∧
    ((s.upTo t).domState Dom.dc = 4) ∧
    ((s.upTo t).power.wakeStep = 0) ∧
    (smFind (s.upTo t).power.waking Dom.dc = some x) ∧
    (x + domReady Dom.dc ≤ (s.upTo t).now) ∧
    ((∀ y, y ∈ (s.upTo t).power.stalls → y.dom ≠ Dom.dc)) :=
  ⟨50 * tUs, 0, [], { z [(0x5022, 15, 4)] [] with power.waking := [(14, 0)] }, by
    (try and_intros) <;> first | decide +kernel | rfl | (constructor <;> decide +kernel)⟩

theorem test_DomainsGoAndCome_7 : ∃ (t : Tick) (d : Nat) (x : Stall) (s : State),
    (d < 22) ∧
    ((s.upTo t).power.stalls = [x]) ∧
    (x.dom = d) ∧
    (x.mem = none) ∧
    (x.chan = none) ∧
    (x.since + 10 * tMs ≤ (s.upTo t).now) ∧
    ((s.upTo t).power.pend.any (fun y => y.1 == d) = true) :=
  ⟨10 * tMs, 3, ⟨3, 0, none, none⟩, { z [] [] with power.stalls := [⟨3, 0, none, none⟩], power.pend := [(3, 0)] }, by decide +kernel⟩

theorem test_DomainsGoAndCome_8 : ∃ (t : Tick) (d : Nat) (x : Stall) (m : MReq) (s : State),
    (d < 22) ∧
    ((s.upTo t).power.stalls = [x]) ∧
    (x.dom = d) ∧
    (x.mem = some m) ∧
    (m.req.kind = 3) ∧
    (m.req.bcast = false) ∧
    (x.since + 10 * tMs ≤ (s.upTo t).now) ∧
    ((s.upTo t).power.pend.any (fun y => y.1 == d) = true) :=
  ⟨10 * tMs, 3, ⟨3, 0, some ⟨rl, 3, 0, 5, [], 0, false⟩, none⟩, ⟨rl, 3, 0, 5, [], 0, false⟩, { z [] [] with
        power.stalls := [⟨3, 0, some ⟨rl, 3, 0, 5, [], 0, false⟩, none⟩], power.pend := [(3, 0)] }, by decide +kernel⟩

theorem test_WakeSourcesAndNaps_1 : ∃ (t : Tick) (h : Handshake) (s : State),
    (bit ((s.upTo t).o 0x5020 6) 3 = true) ∧
    ((s.upTo t).power.hand = some h) ∧
    (h.dormant = true) ∧
    (h.started = false ∨ h.acting = h.doms) ∧
    ((s.upTo t).power.stalls = []) :=
  ⟨0, ⟨true, [12, 16], [12], 0, [], false⟩, { (z [(0x5020, 6, 8), (0x5022, 13, 2), (0x5022, 17, 2)] []).modPort 1 (fun q => { q with
        deep := true }) with power.hand := some ⟨true, [12, 16], [12], 0, [], false⟩ }, by decide +kernel⟩

theorem test_WakeSourcesAndNaps_2 : ∃ (t : Tick) (s : State),
    (bit ((s.upTo t).o 0x5020 6) 3 = true) ∧
    ((s.upTo t).power.hand = none) ∧
    ((s.upTo t).power.dormant = true) :=
  ⟨77, { z [(0x5020, 6, 8)] [] with power.dormant := true, grants := [] }, by decide +kernel⟩

theorem test_WakeSourcesAndNaps_3 : ∃ (t : Tick) (s : State),
    (bit ((s.upTo t).o 0x5020 6) 3 = true) ∧
    ((s.upTo t).power.hand = none) ∧
    ((s.upTo t).power.dormant = false) ∧
    ((s.upTo t).power.wakeStep = 1 ∨ (s.upTo t).power.wakeStep = 2) :=
  ⟨0, { z [(0x5020, 6, 8), (0x5020, 8, 1)] [] with power.wakeStep := 2 }, by decide +kernel⟩

theorem test_WakeSourcesAndNaps_4 : ∃ (t : Tick) (p kind : Nat) (s : State),
    (p < 3) ∧
    (((s.upTo t).port p).deep = true) ∧
    (((s.upTo t).port p).deepWake = none) ∧
    ((s.upTo t).a 0x6112 (p + 1) ≠ 0) ∧
    (((s.upTo t).a 0x6112 (p + 1) = 1 → kind = 0)) ∧
    ((s.upTo t).power.dormant = false) ∧
    ((s.upTo t).power.hand = none) ∧
    (bit ((s.upTo t).o 0x5020 6) 0 = false) :=
  ⟨7, 2, 0, (z [(0x5020, 6, 8)] [(0x6112, 3, 1)]).modPort 2 (fun q => { q with deep := true }), by decide +kernel⟩

theorem test_WakeSourcesAndNaps_5 : ∃ (t : Tick) (s : State),
    ((s.upTo t).napSlot ((s.upTo t).radioSlot (s.upTo t).time_) = true) ∧
    ((s.upTo t).power.napping = false) ∧
    ((s.upTo t).slotStart ((s.upTo t).a 0x2020 2) ((s.upTo t).radioSlot (s.upTo t).time_) - (s.upTo t).txBoard + ns 500 ≤
      (s.upTo t).time_) :=
  ⟨0, { z [] [(0x5040, 6, 2 ^ 40 - 1)] with timeBase := gpsEpoch + ns 600 }, by decide +kernel⟩

theorem test_WakeSourcesAndNaps_6 : ∃ (t : Tick) (s : State),
    ((s.upTo t).power.napping = true) ∧
    ((s.upTo t).napSlot ((s.upTo t).radioSlot ((s.upTo t).time_ + ns 25000 + (s.upTo t).txBoard)) = false) :=
  ⟨0, { z [] [] with power.napping := true, timeBase := gpsEpoch }, by decide +kernel⟩

theorem test_Conversions_1 : ∃ (t : Tick) (s : State),
    ((s.upTo t).domOn Dom.hk = true) ∧
    ((s.upTo t).clk.hkStopped = false) ∧
    (247 ≤ (s.upTo t).hk.pos) ∧
    ((s.upTo t).hk.roundAt ≠ some ((s.upTo t).time_ / ((10 * tMs : Nat) : Int))) :=
  ⟨10 * tMs, { z [(0x5022, 20, 1), (0x7101, 1, 5)] [] with hk.pos := 247, hk.roundAt := some 0 }, by decide +kernel⟩

theorem test_Conversions_2 : ∃ (t : Tick) (s : State),
    ((s.upTo t).clk.hkStopped = true) :=
  ⟨0, { z [(0x5022, 20, 1)] [] with clk.hkStopped := true }, by decide +kernel⟩

theorem test_Conversions_3 : ∃ (t : Tick) (code c i : Nat) (x : Tick) (s : State),
    (MemOk s) ∧
    (code < 4096) ∧
    ((s.upTo t).domOn Dom.hk = true) ∧
    ((s.upTo t).clk.hkStopped = false) ∧
    ((s.upTo t).hk.shot = false) ∧
    ((s.upTo t).hk.pos < 246) ∧
    (hkList.getD (s.upTo t).hk.pos (0, 0) = (c, i)) ∧
    ((s.upTo t).hk.refAt = some x) ∧
    (x + 2 * tMs + tUs ≤ (s.upTo t).now) ∧
    ((s.upTo t).hk.unread < 4096) ∧
    ((s.upTo t).o 0x9000 4 < 4096) ∧
    (sensorOf c = none) :=
  ⟨3 * tMs, 0xABC, 8, 0, 0, { z [(0x5022, 20, 1), (0x9000, 4, 4095), (0x9000, 7, 16), (0x9004, 3, 0x1A)] [] with
        hk.pos := 8, hk.refAt := some 0, mem := [(0x30007FF7, 3), (0x30007FFF, 3)] }, by
    (try and_intros) <;> first | decide +kernel | rfl | (constructor <;> decide +kernel)⟩

theorem test_Conversions_4 : ∃ (t : Tick) (code c i : Nat) (s : State),
    (MemOk s) ∧
    (code < 4096) ∧
    ((s.upTo t).domOn Dom.hk = true) ∧
    ((s.upTo t).clk.hkStopped = false) ∧
    ((s.upTo t).hk.shot = false) ∧
    ((s.upTo t).hk.pos < 246) ∧
    (hkList.getD (s.upTo t).hk.pos (0, 0) = (c, i)) ∧
    ((s.upTo t).hk.refAt = none) ∧
    ((s.upTo t).hk.unread < 4096) ∧
    ((s.upTo t).o 0x9000 4 < 4096) ∧
    (sensorOf c = none) :=
  ⟨0, 0xABC, 24, 23, { z [(0x5022, 20, 1), (0x9000, 4, 1), (0x9000, 7, 1), (0x9004, 3, 0x1A)] [] with
        hk.pos := 47, hk.refAt := none }, by
    (try and_intros) <;> first | decide +kernel | rfl | (constructor <;> decide +kernel)⟩

theorem test_Conversions_5 : ∃ (t : Tick) (x : Tick) (s : State),
    ((s.upTo t).hk.refAt = some x) ∧
    (x + 2 * tMs ≤ (s.upTo t).now) :=
  ⟨2 * tMs, 0, { z [] [] with hk.refAt := some 0 }, by decide +kernel⟩

theorem test_Conversions_6 : ∃ (t : Tick) (r : Req) (v : Nat) (s : State),
    (Reaches (s.upTo t) r 0x7000 2 (objBytes 0x7000 2 v) v) ∧
    (bits v 0 5 < subsOf (bits v 8 6)) ∧
    ((s.upTo t).hk.oneshot = none) :=
  ⟨0, rq, 24 * 256 + 23, { z [] [] with hk.pos := 247 }, by
    (try and_intros) <;> first | decide +kernel | rfl | (constructor <;> decide +kernel)⟩

theorem test_Conversions_7 : ∃ (t : Tick) (r : Req) (v : Nat) (s : State),
    (Reaches (s.upTo t) r 0x7000 2 (objBytes 0x7000 2 v) v) ∧
    (bits v 0 5 < subsOf (bits v 8 6)) ∧
    ((s.upTo t).hk.oneshot ≠ none) :=
  ⟨0, rq, 24 * 256 + 23, { z [] [] with hk.oneshot := some 0 }, by
    (try and_intros) <;> first | decide +kernel | rfl | (constructor <;> decide +kernel)⟩

theorem test_RoundJudgement_1 : ∃ (t : Tick) (s : State),
    (247 ≤ (s.upTo t).hk.pos) ∧
    ((s.upTo t).hk.roundAt ≠ none) ∧
    ((s.upTo t).hk.judged = false) ∧
    ((s.upTo t).hk.bad = false) ∧
    ((s.upTo t).cpAbsent = none) ∧
    ((s.upTo t).domOn Dom.hk = true) :=
  ⟨0, { z [(0x5022, 20, 1)] [] with
        hk.pos := 247, hk.roundAt := some 0, hk.judged := false, hk.bad := false, hk.codes := (List.range 30).foldl (fun m n => smInsert m (32 * chanOf n) (1024 + 16 * 85 + 1)) (smInsert [] 0 1844) }, by decide +kernel⟩

theorem test_RoundJudgement_2 : ∃ (t : Tick) (s : State),
    ((s.upTo t).hk.bad = true ∨ (s.upTo t).hk.judged = true) :=
  ⟨0, { z [(0x5022, 20, 1)] [] with hk.judged := true }, by decide +kernel⟩

theorem test_Protection_1 : ∃ (t : Tick) (n : Nat) (s : State),
    (n < 96) ∧
    ((s.upTo t).txOn (s.upTo t).time_ n = true) ∧
    ((s.upTo t).domOn Dom.hk = true) ∧
    ((s.upTo t).pin .driver n ≠ 0) ∧
    ((s.upTo t).raised Al.rflTrip n = false) :=
  ⟨9, 95, { z [(0x5022, 20, 1)] [(0x2000, 96, 1)] with rf.levels := [(95, 1), (3 * 128 + 95, 1)] }, by decide +kernel⟩

theorem test_Protection_2 : ∃ (t : Tick) (n : Nat) (x : Tick) (s : State),
    (n < 96) ∧
    ((s.upTo t).tripsOf n = [x]) ∧
    ((s.upTo t).a 0x7014 4 = 1) ∧
    (bit ((s.upTo t).block n) 3 = true) ∧
    (x + (s.upTo t).a 0x7014 5 * tMs ≤ (s.upTo t).now) :=
  ⟨5 * tSec, 95, 0, { z [(0x2106, 96, 31)] [(0x7014, 4, 1), (0x7014, 5, 100)] with
        hk.trips := [(95, 0)], alarms := [⟨Al.rflTrip, 95, 0⟩] }, by decide +kernel⟩

theorem test_Protection_3 : ∃ (t : Tick) (n : Nat) (s : State),
    (n < 96) ∧
    (bit ((s.upTo t).block n) 0 = false) ∧
    ((s.upTo t).pin .driver n = 0) ∧
    ((s.upTo t).pin .txon n = 0) ∧
    ((s.upTo t).rf.edges = []) :=
  ⟨0, 95, z [] [], by decide +kernel⟩

theorem test_Protection_4 : ∃ (t : Tick) (n : Nat) (s : State),
    (n < 96) :=
  ⟨0, 0, z [(0x7212, 1, 31)] [], by decide +kernel⟩

theorem test_Protection_5 : ∃ (t : Tick) (x n : Nat) (s : State),
    (x < 8) ∧
    (((List.range 12).map (fun i => 12 * x + (smGet 0 (s.upTo t).hk.turn x + i) % 12)).find? (fun n => (s.upTo t).pin .driver n == 1) = some n) ∧
    ((s.upTo t).orxOn x = true) ∧
    ((s.upTo t).domOn Dom.hk = true) ∧
    (smGet 0 (s.upTo t).hk.vswrAt x + (s.upTo t).a 0x7014 6 * tSec ≤ (s.upTo t).now) ∧
    ((s.upTo t).holder x ≠ 13) ∧
    ((∀ q, q ∈ ((s.upTo t).ox x).queue → q.who < 13)) :=
  ⟨100000 * tSec, 7, 84, { z [(0x5022, 20, 1)] [] with
        grants := [⟨.orx, 7, orxCost⟩], rf.levels := [(3 * 128 + 84, 1)], hk.turn := [(7, 5)] }, by decide +kernel⟩

theorem test_Protection_6 : ∃ (t : Tick) (x n c : Nat) (x0 : Tick) (p : Int) (s : State),
    (x < 8) ∧
    ((s.upTo t).holder x = 13) ∧
    (((s.upTo t).ox x).settled = some x0) ∧
    (n = 12 * x + ((s.upTo t).ox x).sel) ∧
    ((s.upTo t).hkCode (24 + n / 24) (n % 24) = some c) :=
  ⟨9, 7, 95, 2000, 3, 400, { z [(0x4210, 8, 13)] [] with
        dpd.orx := amod 8 Orx.init [] 7 (fun o => { o with settled := some 3, sel := 11 }), hk.codes := [(32 * 27 + 23, 2001)] }, by decide +kernel⟩

theorem test_AuxChannels_1 : ∃ (t : Tick) (r : Req) (x v c : Nat) (s : State),
    (x < 32) ∧
    (v < 2 ^ 16) ∧
    (Reaches (s.upTo t) r 0x7201 (x + 1) (objBytes 0x7201 1 v) v) ∧
    (smGet AuxOut.init (s.upTo t).hk.aux x = ⟨some c, none⟩) :=
  ⟨0, rq, 31, 0xFFF, 0xEFF, { z [] [(0x7200, 32, 3)] with hk.aux := amod 32 AuxOut.init [] 31 (fun _ => ⟨some 0xEFF, none⟩) }, by
    (try and_intros) <;> first | decide +kernel | rfl | (constructor <;> decide +kernel)⟩

theorem test_AuxChannels_2 : ∃ (t : Tick) (x v c e : Nat) (s : State),
    (x < 32) ∧
    (smGet AuxOut.init (s.upTo t).hk.aux x = ⟨some c, some (v, e)⟩) ∧
    (e ≤ (s.upTo t).now) :=
  ⟨5, 31, 7, 9, 5, { z [] [] with hk.aux := amod 32 AuxOut.init [] 31 (fun _ => ⟨some 9, some (7, 5)⟩) }, by decide +kernel⟩

theorem test_AuxChannels_3 : ∃ (t : Tick) (x c : Nat) (s : State),
    (x < 32) ∧
    ((s.upTo t).a 0x7200 (x + 1) % 8 = 4 ∨ (s.upTo t).a 0x7200 (x + 1) % 8 = 5) ∧
    ((smGet AuxOut.init (s.upTo t).hk.aux x).out = some c) :=
  ⟨0, 31, 9, { z [(0x7202, 1, 1)] [(0x7200, 32, 4)] with
        hk.aux := amod 32 AuxOut.init [] 31 (fun _ => ⟨some 9, none⟩) }, by decide +kernel⟩

theorem test_AuxChannels_4 : ∃ (t : Tick) (x : Nat) (s : State),
    (x < 32) :=
  ⟨0, 31, { z [(0x7202, 1, 2 ^ 32 - 1)] [] with alarms := [⟨Al.auxCompliance, 31, 0⟩] }, by decide +kernel⟩

theorem test_Firmware_1 : ∃ (t : Tick) (r : Req) (s : State),
    (Reaches (s.upTo t) r 0x8000 3 (objBytes 0x8000 3 1) 1) ∧
    ((s.upTo t).o 0x8000 2 ≠ 1) ∧
    ((s.upTo t).swapPending = false) ∧
    ((s.upTo t).o 0x8000 1 ≠ 1) ∧
    ((s.upTo t).fits ((s.upTo t).costOf .fwVerify 0) secCost = true) :=
  ⟨5, rq, z [(0x8000, 1, 0)] [], by
    (try and_intros) <;> first | decide +kernel | rfl | (constructor <;> decide +kernel)⟩

theorem test_Firmware_2 : ∃ (t : Tick) (r : Req) (s : State),
    (Reaches (s.upTo t) r 0x8000 3 (objBytes 0x8000 3 1) 1) ∧
    ((s.upTo t).o 0x8000 2 = 1 ∨ (s.upTo t).swapPending = true ∨ (s.upTo t).o 0x8000 1 = 1) :=
  ⟨0, rq, z [(0x8000, 1, 1)] [], by
    (try and_intros) <;> first | decide +kernel | rfl | (constructor <;> decide +kernel)⟩

theorem test_Firmware_3 : ∃ (t : Tick) (x : Nat × Nat) (s : State),
    ((s.upTo t).granted .fwVerify 0 = true) ∧
    ((s.upTo t).sec.verify = some x) ∧
    ((s.upTo t).recovery = false) :=
  ⟨5, (3, 1), { z [(0x8000, 1, 0)] [] with sec.verify := some (3, 1), grants := [⟨.fwVerify, 0, secCost⟩] }, by decide +kernel⟩

theorem test_Firmware_4 : ∃ (t : Tick) (r : Req) (s : State),
    (Reaches (s.upTo t) r 0x8000 6 (objBytes 0x8000 6 1) 1) ∧
    ((s.upTo t).o 0x8000 1 = 1) ∧
    ((s.upTo t).sec.blow = []) ∧
    ((s.upTo t).sec.run.svn ≤ (s.upTo t).o 0x8000 0x0A) ∧
    ((∀ j, j < 4 → bit (s.upTo t).sec.run.revoke j = true → bit ((s.upTo t).o 0x8000 0x0D) j = true)) :=
  ⟨0, rq, { z [(0x8000, 1, 1), (0x8000, 10, 3), (0x8000, 13, 3)] [] with sec.run := ⟨1, 2, 3, 4, 1⟩, sec.trialAt := some 0 }, by
    (try and_intros) <;> first | decide +kernel | rfl | (constructor <;> decide +kernel)⟩

theorem test_Firmware_5 : ∃ (t : Tick) (x : Tick) (k : Nat) (s : State),
    ((s.upTo t).sec.trialAt = some x) ∧
    ((s.upTo t).o 0x8000 7 ≠ 0) ∧
    (x + (s.upTo t).o 0x8000 7 * tSec ≤ (s.upTo t).now) ∧
    ((s.upTo t).o 0x8000 1 = 1) ∧
    ((s.upTo t).sec.blow = []) ∧
    ((s.upTo t).sec.blowAt = none) ∧
    ((s.upTo t).sec.run.svn = (s.upTo t).o 0x8000 0x0A + (k + 1)) ∧
    ((s.upTo t).sec.run.revoke = 0) ∧
    ((s.upTo t).fits ((s.upTo t).costOf .otp 0) blowCost = true) :=
  ⟨100 * tSec, 0, 1, { z [(0x8000, 1, 1), (0x8000, 7, 100), (0x8000, 10, 3)] [] with
        sec.run := ⟨1, 5, 3, 4, 0⟩, sec.trialAt := some 0 }, by decide +kernel⟩

theorem test_Firmware_6 : ∃ (t : Tick) (x : Tick) (s : State),
    ((s.upTo t).sec.blowAt = some x) ∧
    ((s.upTo t).sec.blow = [0]) ∧
    (x + tMs ≤ (s.upTo t).now) ∧
    ((s.upTo t).o 0x8000 0x0A < 63) :=
  ⟨tMs, 0, { z [(0x8000, 1, 1), (0x8000, 10, 62)] [] with
        sec.blow := [0], sec.blowAt := some 0, grants := [⟨.otp, 0, blowCost⟩] }, by decide +kernel⟩

theorem test_Firmware_7 : ∃ (t : Tick) (x : Tick) (f : Nat) (l : List Nat) (s : State),
    ((s.upTo t).sec.blowAt = some x) ∧
    ((s.upTo t).sec.blow = f :: l) ∧
    (x + tMs ≤ (s.upTo t).now) ∧
    (3 ≤ (s.upTo t).sec.tries) :=
  ⟨tMs, 0, 0, [2], { z [(0x8000, 1, 1)] [] with
        sec.blow := [0, 2], sec.blowAt := some 0, sec.tries := 3, grants := [⟨.otp, 0, blowCost⟩] }, by decide +kernel⟩

theorem test_Firmware_8 : ∃ (t : Tick) (s : State),
    ((s.upTo t).cpRuns = true) ∧
    ((s.upTo t).o 0x8000 1 ≠ 1) ∧
    ((s.upTo t).stage = none) ∧
    ((∀ n, n < 28 → ownKind ((s.upTo t).lock n).owner ≠ 1)) :=
  ⟨7, z [(0x5022, 19, 1)] [], by decide +kernel⟩

theorem test_Firmware_9 : ∃ (t : Tick) (i : Image) (s : State),
    ((s.upTo t).cpRuns = true) ∧
    ((s.upTo t).o 0x8000 1 = 1) ∧
    ((s.upTo t).stage = none) ∧
    ((s.upTo t).sec.inact = some i) ∧
    ((s.upTo t).o 0x8000 0x0A ≤ i.svn) ∧
    ((s.upTo t).o 0x1000 5 ≤ 1) ∧
    ((∀ n, n < 28 → ownKind ((s.upTo t).lock n).owner ≠ 1)) :=
  ⟨7, ⟨9, 8, 7, 6, 5⟩, { z [(0x5022, 19, 1), (0x8000, 1, 1), (0x1000, 5, 1), (0x8000, 10, 8)] [] with
        sec.inact := some ⟨9, 8, 7, 6, 5⟩, sec.run := ⟨1, 2, 3, 4, 5⟩, sec.trialAt := some 0 }, by decide +kernel⟩

theorem test_SessionsCredentialsAndReports_1 : ∃ (t : Tick) (r : Req) (s : State),
    (Served (s.upTo t) r) ∧
    (((s.upTo t).renew r).judgeR r 0x8020 1 = 0) :=
  ⟨0, rq, z [] [], by
    (try and_intros) <;> first | decide +kernel | rfl | (constructor <;> decide +kernel)⟩

theorem test_SessionsCredentialsAndReports_2 : ∃ (t : Tick) (v o : Nat) (x : Tick) (s : State),
    ((s.upTo t).sec.chal = some (v, o, x)) ∧
    (x + 60 * tSec ≤ (s.upTo t).now) :=
  ⟨60 * tSec, 3, 4, 0, { z [] [] with sec.chal := some (3, 4, 0) }, by decide +kernel⟩

theorem test_SessionsCredentialsAndReports_3 : ∃ (t : Tick) (r : Req) (v : Nat) (s : State),
    (Reaches (s.upTo t) r 0x8020 2 (objBytes 0x8020 2 v) v) :=
  ⟨0, rq, 5, z [] [], by
    (try and_intros) <;> first | decide +kernel | rfl | (constructor <;> decide +kernel)⟩

theorem test_SessionsCredentialsAndReports_4 : ∃ (t : Tick) (r : Req) (v : Nat) (s : State),
    (Reaches (s.upTo t) r 0x8020 3 (objBytes 0x8020 3 v) v) :=
  ⟨0, rq, 5, z [] [], by
    (try and_intros) <;> first | decide +kernel | rfl | (constructor <;> decide +kernel)⟩

theorem test_SessionsCredentialsAndReports_5 : ∃ (t : Tick) (r : Req) (c : Nat) (x : Tick) (s : State),
    (Reaches (s.upTo t) r 0x8020 4 (objBytes 0x8020 4 0xFF) 0xFF) ∧
    ((s.upTo t).sec.lockout = none) ∧
    (((s.upTo t).lock 26).owner = 0) ∧
    ((s.upTo t).sec.chal = some (c, reqWord r, x)) ∧
    ((s.upTo t).now < x + 60 * tSec) ∧
    ((s.upTo t).sec.fails = []) ∧
    ((s.upTo t).fits ((s.upTo t).costOf .session 0) secCost = true) :=
  ⟨tSec, rq, 9, 0, { z [] [] with sec.chal := some (9, reqWord rq, 0) }, by
    (try and_intros) <;> first | decide +kernel | rfl | (constructor <;> decide +kernel)⟩

theorem test_SessionsCredentialsAndReports_6 : ∃ (t : Tick) (r : Req) (slot : Nat) (s : State),
    (slot < 256) ∧
    (Reaches (s.upTo t) r 0x8020 4 (objBytes 0x8020 4 slot) slot) ∧
    ((s.upTo t).sec.lockout ≠ none) ∧
    (((s.upTo t).lock 26).owner = 0) :=
  ⟨0, rq, 0xFF, { z [] [] with sec.chal := some (9, reqWord rq, 0), sec.lockout := some 0 }, by
    (try and_intros) <;> first | decide +kernel | rfl | (constructor <;> decide +kernel)⟩

theorem test_SessionsCredentialsAndReports_7 : ∃ (t : Tick) (r : Req) (s : State),
    (Reaches (s.upTo t) r 0x8020 5 (objBytes 0x8020 5 1) 1) ∧
    (reqWord r ≠ 0) ∧
    (((s.upTo t).lock 26).owner = reqWord r) :=
  ⟨0, rq, { z [(0x8023, 2, 3)] [] with locks := [(26, ⟨reqWord rq, some 5⟩)] }, by
    (try and_intros) <;> first | decide +kernel | rfl | (constructor <;> decide +kernel)⟩

theorem test_SessionsCredentialsAndReports_8 : ∃ (t : Tick) (r : Req) (s : State),
    (Reaches (s.upTo t) r 0x8020 5 (objBytes 0x8020 5 1) 1) ∧
    (((s.upTo t).lock 26).owner ≠ reqWord r) :=
  ⟨0, rq, { z [(0x8023, 2, 3)] [] with locks := [(26, ⟨7, some 5⟩)] }, by
    (try and_intros) <;> first | decide +kernel | rfl | (constructor <;> decide +kernel)⟩

theorem test_SessionsCredentialsAndReports_9 : ∃ (t : Tick) (x : Tick) (s : State),
    ((s.upTo t).sec.lockout = some x) ∧
    (x + 60 * tSec ≤ (s.upTo t).now) :=
  ⟨60 * tSec, 0, { z [] [] with sec.lockout := some 0, alarms := [⟨Al.sessionLockout, 0, 0⟩] }, by decide +kernel⟩

theorem test_SessionsCredentialsAndReports_10 : ∃ (t : Tick) (r : Req) (n v : Nat) (s : State),
    (n < 8) ∧
    (Reaches (s.upTo t) r 0x8021 (n + 1) (objBytes 0x8021 1 v) v) ∧
    ((s.upTo t).o 0x8022 (n + 1) ≠ 1) :=
  ⟨5, rq, 7, 5, z [(0x8022, 8, 2)] [], by
    (try and_intros) <;> first | decide +kernel | rfl | (constructor <;> decide +kernel)⟩

theorem test_SessionsCredentialsAndReports_11 : ∃ (t : Tick) (r : Req) (n v : Nat) (s : State),
    (n < 8) ∧
    (Reaches (s.upTo t) r 0x8021 (n + 1) (objBytes 0x8021 1 v) v) ∧
    ((s.upTo t).o 0x8022 (n + 1) = 1) :=
  ⟨5, rq, 7, 5, z [(0x8022, 8, 1)] [], by
    (try and_intros) <;> first | decide +kernel | rfl | (constructor <;> decide +kernel)⟩

theorem test_SessionsCredentialsAndReports_12 : ∃ (t : Tick) (r : Req) (n : Nat) (s : State),
    (n < 8) ∧
    (Reaches (s.upTo t) r 0x8023 1 (objBytes 0x8023 1 n) n) :=
  ⟨5, rq, 0, { z [(0x8022, 1, 1), (0x8023, 2, 2)] [] with locks := [(26, ⟨7, none⟩)], sec.slot := 0 }, by
    (try and_intros) <;> first | decide +kernel | rfl | (constructor <;> decide +kernel)⟩

theorem test_SessionsCredentialsAndReports_13 : ∃ (t : Tick) (r : Req) (nonce : Nat) (s : State),
    (Reaches (s.upTo t) r 0x8030 1 (objBytes 0x8030 1 nonce) nonce) ∧
    ((s.upTo t).o 0x8030 2 = 0 ∨ (s.upTo t).o 0x8030 2 = 3) ∧
    ((s.upTo t).sec.attWait = none) ∧
    ((s.upTo t).fits ((s.upTo t).costOf .attest 0) secCost = true) :=
  ⟨0, rq, 5, z [(0x8030, 2, 3), (0x8030, 4, 7)] [], by
    (try and_intros) <;> first | decide +kernel | rfl | (constructor <;> decide +kernel)⟩

theorem test_SessionsCredentialsAndReports_14 : ∃ (t : Tick) (r : Req) (nonce : Nat) (s : State),
    (Reaches (s.upTo t) r 0x8030 1 (objBytes 0x8030 1 nonce) nonce) ∧
    ((s.upTo t).o 0x8030 2 = 1 ∨ (s.upTo t).o 0x8030 2 = 2 ∨ (s.upTo t).sec.attWait ≠ none) :=
  ⟨0, rq, 5, z [(0x8030, 2, 1)] [], by
    (try and_intros) <;> first | decide +kernel | rfl | (constructor <;> decide +kernel)⟩

theorem test_SessionsCredentialsAndReports_15 : ∃ (t : Tick) (s : State),
    ((s.upTo t).o 0x8030 2 = 1) :=
  ⟨0, z [(0x8030, 2, 1)] [], by decide +kernel⟩

theorem test_SessionsCredentialsAndReports_16 : ∃ (t : Tick) (s : State),
    ((s.upTo t).o 0x8030 2 = 2) :=
  ⟨0, { z [(0x8030, 2, 2)] [] with grants := [⟨.attest, 0, secCost⟩] }, by decide +kernel⟩

theorem test_ResetsBeginAndEnd_1 : ∃ (t : Tick) (rail : Nat) (s : State),
    (rail < 8) ∧
    ((s.upTo t).start.held ≠ 1) :=
  ⟨0, 3, { z [(0x8000, 10, 3), (0x5070, 1, 8)] [] with start.held := 0, start.rails := 255 }, by decide +kernel⟩

theorem test_ResetsBeginAndEnd_2 : ∃ (t : Tick) (rail : Nat) (s : State),
    (rail < 7) ∧
    ((s.upTo t).start.held = 1) :=
  ⟨0, 3, { State.reset with start.rails := 255, start.goodAt := some 0 }, by decide +kernel⟩

theorem test_ResetsBeginAndEnd_3 : ∃ (t : Tick) (s : State),
    ((s.upTo t).start.held ≠ 1) :=
  ⟨9, { z [(0x8000, 10, 3), (0x8022, 1, 1), (0x4800, 2, 4), (0x4800, 3, 920)] [] with
        start.held := 0, start.rails := 255, cal.store := [(1, 1)] }, by decide +kernel⟩

theorem test_ResetsBeginAndEnd_4 : ∃ (t : Tick) (s : State),
    ((s.upTo t).start.held = 1) :=
  ⟨9, State.reset, by decide +kernel⟩

theorem test_ResetsBeginAndEnd_5 : ∃ (t : Tick) (r : Req) (s : State),
    (Reaches (s.upTo t) r 0x5070 3 [1, 0] 0x100) :=
  ⟨9, rq, { z [(0x8000, 10, 3)] [] with start.held := 0 }, by
    (try and_intros) <;> first | decide +kernel | rfl | (constructor <;> decide +kernel)⟩

theorem test_ResetsBeginAndEnd_6 : ∃ (t : Tick) (rail : Nat) (s : State),
    (rail < 8) ∧
    (bit (s.upTo t).start.rails rail = false) :=
  ⟨0, 7, { State.reset with start.rails := 127 }, by decide +kernel⟩

theorem test_ResetsBeginAndEnd_7 : ∃ (t : Tick) (role src : Nat) (auto : Bool) (x : Tick) (s : State),
    (role < 3) ∧
    (src < 3) ∧
    ((s.upTo t).start.held = 1) ∧
    ((s.upTo t).start.goodAt = some x) ∧
    ((s.upTo t).start.rails = 255) ∧
    (x + 5 * tMs ≤ (s.upTo t).now) ∧
    ((s.upTo t).start.low = none) ∧
    ((s.upTo t).start.cause < 0x80) ∧
    ((s.upTo t).start.cause ≠ 3) :=
  ⟨5 * tMs, 2, 1, true, 0, { State.reset with start.rails := 255, start.goodAt := some 0, start.cause := 1 }, by decide +kernel⟩

theorem test_ResetsBeginAndEnd_8 : ∃ (t : Tick) (role src : Nat) (auto : Bool) (x : Tick) (s : State),
    (role < 3) ∧
    (src < 3) ∧
    ((s.upTo t).start.held = 2) ∧
    ((s.upTo t).start.low = some x) ∧
    (x + 100 * tUs ≤ (s.upTo t).now) ∧
    ((s.upTo t).start.cause < 0x80) ∧
    ((s.upTo t).start.cause ≠ 3) :=
  ⟨100 * tUs, 1, 0, true, 0, { State.reset with start.held := 2, start.low := some 0, start.cause := 2 }, by decide +kernel⟩

theorem test_ControlProcessorRestarts_1 : ∃ (t : Tick) (r : Req) (s : State),
    (Reaches (s.upTo t) r 0x5070 3 [2, 0] 0x200) ∧
    ((s.upTo t).stage = none) ∧
    ((∀ n, n < 28 → ownKind ((s.upTo t).lock n).owner ≠ 1)) :=
  ⟨0, rq, z [(0x5070, 6, 2 ^ 32 - 1), (0x1010, 1, 2)] [], by
    (try and_intros) <;> first | decide +kernel | rfl | (constructor <;> decide +kernel)⟩

theorem test_ControlProcessorRestarts_2 : ∃ (t : Tick) (a2 : Nat) (s : State),
    (a2 < 256) ∧
    ((s.upTo t).o 0x5070 4 ≠ 0) ∧
    ((s.upTo t).start.held = 0) ∧
    ((s.upTo t).stage = none) ∧
    ((∀ n, n < 28 → ownKind ((s.upTo t).lock n).owner ≠ 1)) ∧
    (((s.upTo t).port 0).lastLmg = none) :=
  ⟨5, 9, z0 [(0x5070, 4, 1)] [], by decide +kernel⟩

theorem test_ControlProcessorRestarts_3 : ∃ (t : Tick) (x : Tick) (s : State),
    ((s.upTo t).start.restart = some x) ∧
    ((s.upTo t).cpRuns = true) ∧
    (bit ((s.upTo t).o 0x2420 8) 6 = false) ∧
    ((s.upTo t).start.alarms = []) ∧
    ((∀ p, p < 3 → ((s.upTo t).port p).aWait = [])) :=
  ⟨5, 0, { z [(0x5022, 19, 1)] [] with
        cpAbsent := some 0, start.restart := some 0, alarms := [⟨Al.cpAbsent, 0, 0⟩] }, by decide +kernel⟩

theorem test_ControlProcessorRestarts_4 : ∃ (t : Tick) (s : State),
    ((s.upTo t).start.restart = none) ∧
    ((s.upTo t).cpRuns = true) ∧
    ((s.upTo t).cpAbsent.isSome = true) ∧
    (bit ((s.upTo t).o 0x2420 8) 6 = true) ∧
    ((s.upTo t).pllLocked 3 = false) ∧
    ((s.upTo t).start.alarms = []) ∧
    ((∀ p, p < 3 → ((s.upTo t).port p).aWait = [])) :=
  ⟨5, { z [(0x5022, 19, 1), (0x2420, 8, 64)] [] with cpAbsent := some 0 }, by decide +kernel⟩

theorem test_ControlProcessorRestarts_5 : ∃ (t : Tick) (s : State),
    ((s.upTo t).cpAbsent = none) ∧
    (bit ((s.upTo t).o 0x2420 8) 7 = true) ∧
    ((s.upTo t).pllLocked 2 = false) :=
  ⟨5, z [(0x2420, 8, 0x88)] [], by decide +kernel⟩

theorem test_ControlProcessorRestarts_6 : ∃ (t : Tick) (s : State),
    ((s.upTo t).cpAbsent = none) ∧
    ((s.upTo t).clk.hkStopped = true) ∧
    ((s.upTo t).pllLocked 5 = false) :=
  ⟨5, { z [(0x2420, 8, 7)] [] with clk.hkStopped := true }, by decide +kernel⟩

theorem test_ControlProcessorRestarts_7 : ∃ (t : Tick) (x : Tick) (m : MReq) (s : State),
    ((s.upTo t).cpAbsent = some x) ∧
    ((s.upTo t).cpLost = false) ∧
    ((s.upTo t).cpRuns = true) ∧
    (x + 30 * tMs ≤ (s.upTo t).now) ∧
    ((s.upTo t).mq = [m]) ∧
    (m.req.kind = 3) ∧
    ((s.upTo t).lhp.inq = []) ∧
    ((∀ n, n < 96 → (s.upTo t).dpdMode n ≠ 2)) :=
  ⟨30 * tMs, 0, ⟨rl, 1, 0x11000200, 0, [], 0, false⟩, { z [(0x5022, 19, 1)] [] with
        cpAbsent := some 0, mq := [⟨rl, 1, 0x11000200, 0, [], 0, false⟩] }, by decide +kernel⟩

theorem test_DomainAndChildResets_1 : ∃ (t : Tick) (r : Req) (d : Nat) (s : State),
    (d < 12) ∧
    (Reaches (s.upTo t) r 0x5070 3 [3, d] (0x300 + d)) ∧
    ((s.upTo t).domState d = 1) ∧
    ((∀ n, n ∈ pathsOf d → (s.upTo t).txOn (s.upTo t).time_ n = false)) ∧
    ((∀ n, n < 28 → ((s.upTo t).lock n).owner ≠ 0 → ownedBy d ((s.upTo t).lock n).owner = false)) :=
  ⟨5, rq, 11, { z [(0x5022, 12, 1)] [] with rf.txRun := 0xFFF }, by
    (try and_intros) <;> first | decide +kernel | rfl | (constructor <;> decide +kernel)⟩

theorem test_DomainAndChildResets_2 : ∃ (t : Tick) (r : Req) (d : Nat) (s : State),
    (d = 18 ∨ d = 21) ∧
    (Reaches (s.upTo t) r 0x5070 3 [3, d] (0x300 + d)) :=
  ⟨0, rq, 18, z [] [], by
    (try and_intros) <;> first | decide +kernel | rfl | (constructor <;> decide +kernel)⟩

theorem test_DomainAndChildResets_3 : ∃ (t : Tick) (r : Req) (n v : Nat) (s : State),
    (n < 2) ∧
    (v < 0x10000) ∧
    (Reaches (s.upTo t) r 0x5071 (n + 1) (objBytes 0x5071 1 v) v) ∧
    ((s.upTo t).active (n + 1) = true) ∧
    (r.kind ≠ 2) :=
  ⟨0, rq, 1, 0x20F, z [(0x6002, 5, 6)] [], by
    (try and_intros) <;> first | decide +kernel | rfl | (constructor <;> decide +kernel)⟩

theorem test_DomainAndChildResets_4 : ∃ (t : Tick) (r : Req) (n v : Nat) (s : State),
    (n < 2) ∧
    (v < 0x10000) ∧
    (Reaches (s.upTo t) r 0x5071 (n + 1) (objBytes 0x5071 1 v) v) ∧
    ((s.upTo t).active (n + 1) = false) :=
  ⟨0, rq, 0, 0x20F, z [(0x6002, 5, 6)] [], by
    (try and_intros) <;> first | decide +kernel | rfl | (constructor <;> decide +kernel)⟩

theorem test_StartUpSteps_1 : ∃ (t : Tick) (bad : List Nat) (s : State),
    ((s.upTo t).start.held = 0) ∧
    ((s.upTo t).start.step = 1) ∧
    ((s.upTo t).start.ok = true) ∧
    ((s.upTo t).granted .pll 3 = true) ∧
    (bits ((s.upTo t).o 0x5070 2) 2 2 = 0) :=
  ⟨5, [], { z0 [] [] with start.step := 1, start.ok := true, grants := [⟨.pll, 3, pllCost 3⟩] }, by decide +kernel⟩

theorem test_StartUpSteps_2 : ∃ (t : Tick) (v0 v1 : Nat) (bundle : List Nat) (s : State),
    ((s.upTo t).start.step = 2) ∧
    ((s.upTo t).granted .fwVerify 0 = true) ∧
    ((s.upTo t).start.boot = [0, 1]) ∧
    ((s.upTo t).start.romWait = false) ∧
    (formatOk (bundle.take 512) = false) :=
  ⟨0, 1, 2, [1], { z0 [] [] with start.step := 2, start.boot := [0, 1], grants := [⟨.fwVerify, 0, secCost⟩] }, by decide +kernel⟩

theorem test_StartUpSteps_3 : ∃ (t : Tick) (g : Nat) (s : State),
    ((s.upTo t).start.vidGoal = some g) ∧
    ((s.upTo t).start.vidAt + 20 * tMs ≤ (s.upTo t).now) ∧
    (bookedOf ((s.upTo t).base rCore) ((s.upTo t).factorAt ((s.upTo t).start.vid + 1) rCore) ≤ (s.upTo t).cap rCore) ∧
    ((s.upTo t).start.vid < 31) ∧
    ((s.upTo t).start.step ≠ 6) :=
  ⟨20 * tMs, 2, { z0 [] [] with start.vid := 1, start.vidGoal := some 2 }, by decide +kernel⟩

theorem test_StartUpSteps_4 : ∃ (t : Tick) (a b : Nat) (x y : SMap Nat) (s : State),
    ((s.upTo t).start.mirrors = [some (a, x), some (b, y)]) ∧
    (a < b) ∧
    (b + 1 < 2 ^ 32) ∧
    ((s.upTo t).start.mirrorAt + 3600 * tSec ≤ (s.upTo t).now) ∧
    ((s.upTo t).cpAbsent = none) :=
  ⟨3600 * tSec, 3, 4, [], [(1, 1)], { z0 [(0x8022, 1, 1)] [] with
        start.mirrors := [some (3, []), some (4, [(1, 1)])], cal.store := [(7, 7)] }, by decide +kernel⟩

theorem test_StartUpSteps_5 : ∃ (t : Tick) (bad : List Nat) (s : State),
    ((s.upTo t).power.wakeStep = 4) ∧
    ((s.upTo t).power.wakeOk = true) ∧
    ((s.upTo t).domState Dom.bf = 0) ∧
    ((s.upTo t).granted .dom Dom.bf = false) ∧
    ((s.upTo t).fits noCost (domCost Dom.bf) = true) :=
  ⟨0, [], { z0 [] [] with power.wakeStep := 4, power.wakeOk := true }, by decide +kernel⟩

theorem test_StartUpSteps_6 : ∃ (t : Tick) (d : Nat) (x : Tick) (s : State),
    ((s.upTo t).start.step = 9) ∧
    ((s.upTo t).power.wakeStep = 0) ∧
    ((s.upTo t).power.pend = [(d, x)]) ∧
    (x + 100 * tUs ≤ (s.upTo t).now) ∧
    (d < 20) ∧
    ((s.upTo t).domState d = 0) ∧
    ((s.upTo t).power.dormant = false) ∧
    ((s.upTo t).start.vidGoal = none) ∧
    ((s.upTo t).fits ((s.upTo t).costOf .dom d) (domCost d) = true) ∧
    ((∀ n, n < 16 → ((s.upTo t).ch n).retryAt = none)) ∧
    ((s.upTo t).sec.verify = none) ∧
    ((s.upTo t).sec.blowWait = none) ∧
    ((s.upTo t).sec.openWait = none) ∧
    ((s.upTo t).sec.attWait = none) :=
  ⟨100 * tUs, 3, 0, { z0 [] [] with power.pend := [(3, 0)] }, by decide +kernel⟩

theorem test_Boundaries_1 : ∃ (t : Tick) (scs : Nat) (n : Int) (s : State),
    (scs < 2) ∧
    ((s.upTo t).slotStart scs n ≤ (s.upTo t).time_) ∧
    (NoneDue (s.upTo t)) ∧
    ((s.upTo t).gridScs ≠ scs) ∧
    ((s.upTo t).a 0x2020 2 = scs) ∧
    ((s.upTo t).napSlot n = true ∨ (s.upTo t).power.napped = false) :=
  ⟨0, 0, 0, { z [] [(0x2020, 2, 0), (0x5040, 6, 1)] with timeBase := gpsEpoch }, by
    (try and_intros) <;> first | decide +kernel | rfl | (constructor <;> decide +kernel) | (unfold NoneDue; decide +kernel)⟩

theorem test_Boundaries_2 : ∃ (t : Tick) (scs : Nat) (n : Int) (s : State),
    (scs < 2) ∧
    ((s.upTo t).slotStart scs n ≤ (s.upTo t).time_) ∧
    (NoneDue (s.upTo t)) ∧
    ((s.upTo t).gridScs ≠ scs) ∧
    ((s.upTo t).a 0x2020 2 = scs) ∧
    ((s.upTo t).napSlot n = false) ∧
    ((s.upTo t).power.napped = true) :=
  ⟨0, 0, 0, { z [] [(0x2020, 2, 0), (0x2000, 3, 1), (0x2001, 3, 1)] with
        timeBase := gpsEpoch, power.napped := true, power.napping := true }, by
    (try and_intros) <;> first | decide +kernel | rfl | (constructor <;> decide +kernel) | (unfold NoneDue; decide +kernel)⟩

theorem test_Boundaries_3 : ∃ (t : Tick) (scs : Nat) (n : Int) (s : State),
    (scs < 2) ∧
    ((s.upTo t).slotStart scs n ≤ (s.upTo t).time_) ∧
    (NoneDue (s.upTo t)) ∧
    ((s.upTo t).gridScs = scs) :=
  ⟨0, 1, 0, { z [(0x1100, 11, 9), (0x9001, 3, 0x15), (0x9002, 3, 0x15), (0x9002, 0x0B, 255)] [] with
        timeBase := gpsEpoch, slotAlarms := [(Al.lateLo, 0)], clears := [0x1100, 0x4216, 0x1204], hk.areaNext := [(3, 1)], rf.held := [(5, none)] }, by
    (try and_intros) <;> first | decide +kernel | rfl | (constructor <;> decide +kernel) | (unfold NoneDue; decide +kernel)⟩

theorem test_Boundaries_4 : ∃ (t : Tick) (scs : Nat) (n : Int) (k j p v : Nat) (T : Int) (s : State),
    (scs < 2) ∧
    (k < 14) ∧
    ((s.upTo t).tAir scs n k ≤ (s.upTo t).time_) ∧
    (NoneDue (s.upTo t)) ∧
    ((s.upTo t).dl.segs = []) ∧
    ((s.upTo t).gridScs = scs) ∧
    ((s.upTo t).a 0x2020 2 ≠ scs) ∧
    (((s.upTo t).chst 1).removeNow = false) ∧
    (((s.upTo t).chst 2).removeNow = false) ∧
    ((s.upTo t).clk.hand = none) ∧
    (j < 2) ∧
    (p < 96) ∧
    ((s.upTo t).rf.atten = [(j, p, v, T)]) ∧
    (T ≤ (s.upTo t).time_) :=
  ⟨0, 1, 0, 0, 1, 95, 7, 0, { z [(0x9001, 3, 0x16)] [(0x2020, 2, 0)] with
        timeBase := gpsEpoch, rf.atten := [(1, 95, 7, 0)], clk.lo := amod 4 (State.reset.lo 0) [] 2 (fun x => { x with step := some (-5) }) }, by
    (try and_intros) <;> first | decide +kernel | rfl | (constructor <;> decide +kernel) | (unfold NoneDue; decide +kernel)⟩

theorem test_Boundaries_5 : ∃ (t : Tick) (scs : Nat) (n : Int) (k : Nat) (s : State),
    (scs < 2) ∧
    (k < 14) ∧
    ((s.upTo t).tAir scs n k ≤ (s.upTo t).time_) ∧
    (NoneDue (s.upTo t)) ∧
    ((s.upTo t).gridScs ≠ scs) ∧
    ((s.upTo t).a 0x2020 2 = scs) ∧
    (((s.upTo t).chst 1).removeNow = false) ∧
    (((s.upTo t).chst 2).removeNow = false) ∧
    (txCode ((s.upTo t).patCode (s.upTo t).time_ n k) = true) ∧
    (rxCode ((s.upTo t).patCode (s.upTo t).time_ n k) = false) ∧
    ((s.upTo t).a 0x5040 4 = 0) ∧
    ((s.upTo t).cal.step ≠ 9) :=
  ⟨0, 0, 0, 0, { z [] [(0x2020, 2, 0), (0x2020, 3, 1), (0x2020, 4, 0x55 * 2 ^ 1248), (0x5040, 6, 0)] with timeBase := gpsEpoch }, by
    (try and_intros) <;> first | decide +kernel | rfl | (constructor <;> decide +kernel) | (unfold NoneDue; decide +kernel)⟩

theorem test_Boundaries_6 : ∃ (t : Tick) (scs : Nat) (n : Int) (k p : Nat) (s : State),
    (scs < 2) ∧
    (k < 14) ∧
    ((s.upTo t).tAir scs n k ≤ (s.upTo t).time_) ∧
    (NoneDue (s.upTo t)) ∧
    ((s.upTo t).gridScs ≠ scs) ∧
    ((s.upTo t).a 0x2020 2 ≠ scs) ∧
    (p = 1 ∨ p = 2) ∧
    (((s.upTo t).chst (3 - p)).removeNow = false) ∧
    (((s.upTo t).chst p).removeNow = true) ∧
    ((s.upTo t).chState p = 1) :=
  ⟨0, 0, 0, 13, 2, { z [(0x3037, 1, 1)] [(0x2020, 2, 1)] with
        timeBase := gpsEpoch + 2 * tMs, ul.ch := [(1, ⟨3, true, true, none⟩)] }, by
    (try and_intros) <;> first | decide +kernel | rfl | (constructor <;> decide +kernel) | (unfold NoneDue; decide +kernel)⟩

theorem test_Activation_1 : ∃ (t : Tick) (s : State),
    ((∀ c, c ∈ (s.upTo t).commits → (s.upTo t).time_ < c.at_)) :=
  ⟨5, { z [] [] with commits := [⟨1000, 1, [(key 0x7004 3, 9)]⟩] }, by decide +kernel⟩

theorem test_Activation_2 : ∃ (t : Tick) (c : PCommit) (l1 l2 : List PCommit) (s : State),
    ((s.upTo t).commits = l1 ++ c :: l2) ∧
    (c.at_ ≤ (s.upTo t).time_) ∧
    ((∀ d, d ∈ l1 ++ l2 → (s.upTo t).time_ < d.at_)) ∧
    ((c.vals.map Prod.fst).Pairwise (· < ·)) ∧
    ((∀ x, x ∈ c.vals → x.1 < 2 ^ 24)) ∧
    (smFind c.vals (key 0x8000 5) ≠ some 1) :=
  ⟨5000, ⟨1000, 1, [(key 0x7004 3, 9), (key 0x7004 12, 70000)]⟩, [⟨90000, 1, []⟩], [⟨70000, 1, []⟩], { z [] [] with
        commits := [⟨90000, 1, []⟩, ⟨1000, 1, [(key 0x7004 3, 9), (key 0x7004 12, 70000)]⟩, ⟨70000, 1, []⟩] }, by decide +kernel⟩

theorem test_EmptyDescriptor_1 : ∃ (t : Tick) (n op : Nat) (s : State),
    (op < 3) ∧
    (MemOk s) ∧
    (DescEmpty (s.upTo t) n op) ∧
    (bit ((s.upTo t).rd32 ((s.upTo t).o (chIdx9 n) 0x0A)) 26 = false ∨ (s.upTo t).o (chIdx9 n) 3 = 0 ∨ 0 < (s.upTo t).o (chIdx9 n) 0x0B) :=
  ⟨0, 3, 2, { z [(0x5022, 19, 1), (0x9004, 9, 3), (0x9004, 10, 0x50000040), (0x9005, 3, 4), (0x9004, 3, 4)] [] with
        mem := [(0x50000043, 0x28)], dma.ch := amod 16 Chan.init [] 3 (fun c => { c with fetch := true }), grants := [⟨.dmaChan, 3, costOn rCore 1⟩] }, by
    (try and_intros) <;> first | decide +kernel | rfl | (constructor <;> decide +kernel)⟩

theorem test_EmptyDescriptor_2 : ∃ (t : Tick) (n op : Nat) (s : State),
    (op < 3) ∧
    (DescEmpty (s.upTo t) n op) ∧
    (bit ((s.upTo t).rd32 ((s.upTo t).o (chIdx9 n) 0x0A)) 26 = true) ∧
    ((s.upTo t).o (chIdx9 n) 3 ≠ 0) ∧
    ((s.upTo t).o (chIdx9 n) 0x0B = 0) :=
  ⟨0, 3, 1, { z [(0x5022, 19, 1), (0x9004, 9, 3), (0x9004, 10, 0x50000040), (0x9004, 3, 4)] [] with
        mem := [(0x50000043, 0x1C)], dma.ch := amod 16 Chan.init [] 3 (fun c => { c with fetch := true }), grants := [⟨.dmaChan, 3, costOn rCore 1⟩] }, by
    (try and_intros) <;> first | decide +kernel | rfl | (constructor <;> decide +kernel)⟩

end Sys2Proof.Machine
end

/-!
PROOFS, the ledger (R18, R383): what a holder has after a release, a booking and a request.
-/

namespace Sys2Proof.Machine

variable (s : State)

/-! ### What a holder has -/

theorem State.costOf_release (k : GKind) (n : Nat) (k' : GKind) (n' : Nat) :
    (s.release k n).costOf k' n' = if k' = k ∧ n' = n then noCost else s.costOf k' n' := by
  unfold State.costOf State.release
  rw [List.filter_filter]
  split <;> rename_i hk
  · obtain ⟨rfl, rfl⟩ := hk
    have hnone : ∀ g ∈ s.grants, ¬ (decide (g.kind = k' ∧ g.n = n') && decide (¬ (g.kind = k' ∧ g.n = n'))) = true := by
      intro g _
      rw [decide_not, Bool.and_not_self]
      exact Bool.false_ne_true
    exact congrArg (List.foldl (fun c g => costAdd c g.cost) noCost) (List.filter_eq_nil_iff.mpr hnone)
  · congr 1
    refine List.filter_congr fun g _ => ?_
    by_cases hg : g.kind = k' ∧ g.n = n'
    · obtain ⟨rfl, rfl⟩ := hg
      rw [decide_eq_true hk, Bool.and_true]
    · rw [decide_eq_false hg, Bool.false_and]

theorem State.costOf_append_grant (g : Grant) (k : GKind) (n : Nat) :
    ({ s with grants := s.grants ++ [g] } : State).costOf k n =
      if g.kind = k ∧ g.n = n then costAdd (s.costOf k n) g.cost else s.costOf k n := by
  unfold State.costOf
  rw [List.filter_append, List.foldl_append]
  split <;> rename_i hg
  · rw [List.filter_cons, if_pos (decide_eq_true hg)]
    rfl
  · rw [List.filter_cons, if_neg fun h => hg (of_decide_eq_true h)]
    rfl

/-- A booked cost stands in place of what its holder held, on the eight rails of `noCost`. -/
theorem State.costOf_book (k : GKind) (n : Nat) (cost : List Nat) (k' : GKind) (n' : Nat) :
    (s.book k n cost).costOf k' n' = if k' = k ∧ n' = n then costAdd noCost cost else s.costOf k' n' := by
  unfold State.book
  split <;> rename_i hc
  · rw [State.costOf_release, hc]
    rfl
  · rw [State.costOf_append_grant, State.costOf_release]
    simp only [eq_comm (a := k), eq_comm (a := n)]
    split <;> rfl

theorem noCost_getElem? {r : Nat} (hr : r < 8) : noCost[r]? = some 0 :=
  List.getElem?_replicate_of_lt (n := 8) (a := 0) hr

/-- Adding a cost to none gives that cost on each of the eight rails, also where its list is shorter or longer. -/
theorem costAdd_noCost_getD (cost : List Nat) {r : Nat} (hr : r < 8) : (costAdd noCost cost).getD r 0 = cost.getD r 0 := by
  unfold costAdd
  rw [List.getD_eq_getElem?_getD, List.getD_eq_getElem?_getD, List.getElem?_zipWith, noCost_getElem? hr]
  cases cost[r]? with
  | none => rfl
  | some x => exact Nat.zero_add x

/-! ### What a request answers -/

/-- The refusal counters of the 22 domains are 32 bits wide. -/
theorem width_refusals {d : Nat} (hd : d < 22) : width (key 0x5005 (d + 1)) = 4 := by
  have h : ∀ d : Fin 22, width (key 0x5005 (d + 1)) = 4 := by decide
  exact h ⟨d, hd⟩

/-- A refusal adds one to the domain's counter, which wraps at 32 bits. -/
theorem State.o_bump_refusals {d : Nat} (hd : d < 22) :
    (s.bump 0x5005 (d + 1) 1).o 0x5005 (d + 1) = (s.o 0x5005 (d + 1) + 1) % 2 ^ 32 := by
  have h := s.o_bump 0x5005 (d + 1) 1 0x5005 (d + 1)
  rw [if_pos ⟨rfl, Nat.one_ne_zero⟩, width_refusals hd] at h
  exact h

/-- A request that fits is granted and its cost booked; one that does not fit is refused and counted. -/
theorem State.ask_cases (k : GKind) (n : Nat) (cost : List Nat) (d : Nat) :
    (s.fits (s.costOf k n) cost = true ∧ s.ask k n cost d = (true, s.book k n cost)) ∨
    (s.fits (s.costOf k n) cost = false ∧ s.ask k n cost d = (false, s.bump 0x5005 (d + 1) 1)) := by
  unfold State.ask
  split <;> rename_i hfits
  · exact .inl ⟨hfits, rfl⟩
  · exact .inr ⟨eq_false_of_ne_true hfits, rfl⟩

/-- Settles O51: a grant books exactly the cost asked for, and a refusal only counts. -/
theorem ledgerRequestsAreWhole : Obligations.LedgerRequestsAreWhole := by
  unfold Obligations.LedgerRequestsAreWhole
  intro k n cost dom w hdom
  obtain ⟨-, hask⟩ | ⟨-, hask⟩ := w.ask_cases k n cost dom <;> rw [hask]
  · refine ⟨fun _ => ⟨fun r hr => ?_, fun j m hjm => ?_, Frame.refl.book (by decide) (by decide)⟩, (nomatch ·)⟩
    · rw [State.costOf_book, if_pos ⟨rfl, rfl⟩, costAdd_noCost_getD cost hr]
    · rw [State.costOf_book, if_neg fun h => hjm (Prod.ext h.1 h.2)]
  · exact ⟨(nomatch ·), fun _ =>
      ⟨w.o_bump_refusals hdom, Frame.bump (n := 1) Frame.refl (.inl (List.mem_singleton_self _))⟩⟩

end Sys2Proof.Machine

/-!
PROOFS, the DMA engine (R375, R377, R378): an occurrence of a trigger source, and a descriptor that moves nothing.
-/

namespace Sys2Proof.Machine

variable (s : State)

/-! ### Words of memory -/

theorem State.rd32_congr {u w : State} {a : Nat} (h : ∀ k, k < 4 → u.rd8 (a + k) = w.rd8 (a + k)) : u.rd32 a = w.rd32 a := by
  have h0 := h 0 (by decide)
  have h1 := h 1 (by decide)
  have h2 := h 2 (by decide)
  have h3 := h 3 (by decide)
  simp only [State.rd32, State.rdBytes, Nat.add_assoc, Nat.reduceAdd, Nat.add_zero] at h0 h1 h2 h3 ⊢
  rw [h0, h1, h2, h3]

theorem State.rd32_of_mem {u w : State} (h : u.mem = w.mem) (a : Nat) : u.rd32 a = w.rd32 a :=
  State.rd32_congr fun k _ => congrArg (fun m => (smGet (0 : BitVec 8) m (a + k)).toNat) h

theorem State.rd8_wr32_outside {a b : Nat} (v : Nat) (h : b < a ∨ a + 4 ≤ b) : (s.wr32 a v).rd8 b = s.rd8 b := by
  have hb : ¬ (a ≤ b ∧ b < a + (bytesLE 4 v).length) := by
    rw [show (bytesLE 4 v).length = 4 from rfl]
    omega
  exact (s.rd8_wrBytes _ a b).trans (if_neg hb)

theorem State.rd32_wr32_same (a v : Nat) : (s.wr32 a v).rd32 a = v % 2 ^ 32 := by
  have hbyte : ∀ k, k < 4 → (s.wr32 a v).rd8 (a + k) = (bytesLE 4 v).getD k 0 % 256 := fun k hk => by
    have hin : a ≤ a + k ∧ a + k < a + (bytesLE 4 v).length := ⟨Nat.le_add_right a k, Nat.add_lt_add_left hk a⟩
    exact ((s.rd8_wrBytes _ a (a + k)).trans (if_pos hin)).trans (by rw [Nat.add_sub_cancel_left])
  have h0 := hbyte 0 (by decide)
  have h1 := hbyte 1 (by decide)
  have h2 := hbyte 2 (by decide)
  have h3 := hbyte 3 (by decide)
  simp only [State.rd32, State.rdBytes, ofBytesLE, bytesLE, Nat.add_assoc, Nat.reduceAdd, Nat.add_zero, List.getD_cons_zero,
    List.getD_cons_succ] at h0 h1 h2 h3 ⊢
  rw [h0, h1, h2, h3]
  omega

theorem State.dma_ch_wrBytes (a : Nat) (l : List Nat) : (s.wrBytes a l).dma.ch = s.dma.ch := by
  induction l generalizing s a with
  | nil => rfl
  | cons b l ih => exact ih (s.wr8 a b) (a + 1)

/-- A word written to memory leaves every channel. -/
theorem State.ch_wr32 (a v m : Nat) : (s.wr32 a v).ch m = s.ch m :=
  congrArg (fun c => smGet Chan.init c m) (s.dma_ch_wrBytes a _)

/-! ### The objects of a channel -/

/-- A value that its object's width holds is stored as it is. -/
theorem State.o_seto_of_lt {i j v : Nat} (h : v < 256 ^ width (key i j)) : (s.seto i j v).o i j = v :=
  (s.o_seto_same i j v).trans (Nat.mod_eq_of_lt h)

theorem pow_one_byte : (256 : Nat) ^ 1 = 256 := rfl

theorem pow_four_bytes : (256 : Nat) ^ 4 = 2 ^ 32 := rfl

/-- CH_STATE and CH_TRIG_COUNT are one byte wide, CH_DESC and CH_DONE four. -/
theorem width_chan {n : Nat} (hn : n < 16) :
    width (key (chIdx9 n) 9) = 1 ∧ width (key (chIdx9 n) 0x0A) = 4 ∧ width (key (chIdx9 n) 0x0B) = 1 ∧
      width (key (chIdx9 n) 0x0C) = 4 := by
  have h : ∀ n : Fin 16, width (key (chIdx9 n) 9) = 1 ∧ width (key (chIdx9 n) 0x0A) = 4 ∧
      width (key (chIdx9 n) 0x0B) = 1 ∧ width (key (chIdx9 n) 0x0C) = 4 := by decide
  exact h ⟨n, hn⟩

theorem key_chan_inj {n m i j : Nat} (hi : i < 256) (hj : j < 256) :
    key (chIdx9 n) i = key (chIdx9 m) j ↔ n = m ∧ i = j := by
  unfold key chIdx9
  omega

theorem key_chan_ne {n m i j : Nat} (hi : i < 256) (hj : j < 256) (hij : i ≠ j) : key (chIdx9 n) i ≠ key (chIdx9 m) j :=
  fun h => hij ((key_chan_inj hi hj).mp h).2

theorem key_chan_mem_trigKeys {n j : Nat} (hj : j < 256) :
    key (chIdx9 n) j ∈ trigKeys ↔ n < 16 ∧ (j = 0x0B ∨ j = 0x0E) := by
  have hkey (m : Nat) : key (chIdx9 n) j ∈ [key (0x9001 + m) 0x0B, key (0x9001 + m) 0x0E] ↔ n = m ∧ (j = 0x0B ∨ j = 0x0E) := by
    rw [List.mem_cons, List.mem_singleton, show 0x9001 + m = chIdx9 m from rfl, key_chan_inj hj (by decide),
      key_chan_inj hj (by decide), and_or_left]
  simp only [trigKeys, List.mem_flatMap, List.mem_range, hkey]
  exact ⟨fun ⟨m, hm, hnm, h⟩ => ⟨hnm ▸ hm, h⟩, fun ⟨hn, h⟩ => ⟨n, hn, rfl, h⟩⟩

/-! ### An occurrence of a trigger source (R377) -/

/-- What an occurrence of a source leaves of a count of a channel: one more where the channel names the source, up to 255. -/
def State.trigCounted (w : State) (code n v : Nat) : Nat := if w.o (chIdx9 n) 3 = code ∧ v < 255 then v + 1 else v

/-- The part of one channel in an occurrence of a source. -/
def State.hear (s : State) (code n : Nat) : State := if s.o (chIdx9 n) 3 = code then s.chTrigger n else s

theorem State.trigger_eq (code : Nat) : s.trigger code = (List.range 16).foldl (fun s n => s.hear code n) s := rfl

theorem Frame.hear {ps : List Part} {ks : List Nat} {w s : State} {code n : Nat} (h : Frame ps ks w s) (hn : n < 16)
    (hk : trigKeys ⊆ ks) : Frame ps ks w (s.hear code n) := by
  have hcount : key (chIdx9 n) 0x0B ∈ ks := hk ((key_chan_mem_trigKeys (by decide)).mpr ⟨hn, .inl rfl⟩)
  have hlost : key (chIdx9 n) 0x0E ∈ ks := hk ((key_chan_mem_trigKeys (by decide)).mpr ⟨hn, .inr rfl⟩)
  unfold State.hear State.chTrigger
  exact .ite (fun _ => .ite (fun _ => h.bump (.inl hcount)) fun _ => h.bump (.inl hlost)) fun _ => h

theorem Frame.trigger {ps : List Part} {ks : List Nat} {w s : State} {code : Nat} (h : Frame ps ks w s) (hk : trigKeys ⊆ ks) :
    Frame ps ks w (s.trigger code) := by
  rw [State.trigger_eq]
  exact Frame.foldl _ _ (fun _ _ hm g => g.hear (List.mem_range.mp hm) hk) h

theorem State.o_trigger {i j : Nat} (code : Nat) (h : key i j ∉ trigKeys) : (s.trigger code).o i j = s.o i j :=
  (Frame.refl (ps := []).trigger (List.Subset.refl _)).objs (by decide) i j h

theorem State.o_hear_src (code m n : Nat) : (s.hear code m).o (chIdx9 n) 3 = s.o (chIdx9 n) 3 := by
  unfold State.hear State.chTrigger
  split
  · split <;> rw [State.o_bump, if_neg fun h => key_chan_ne (by decide) (by decide) (by decide) h.1]
  · rfl

theorem State.o_hear_count {n : Nat} (code m : Nat) (hn : n < 16) :
    (s.hear code m).o (chIdx9 n) 0x0B =
      if n = m then s.trigCounted code n (s.o (chIdx9 n) 0x0B) else s.o (chIdx9 n) 0x0B := by
  obtain ⟨-, -, hwidth, -⟩ := width_chan hn
  unfold State.hear State.chTrigger State.trigCounted
  by_cases hnm : n = m
  · subst hnm
    rw [if_pos rfl]
    by_cases hsrc : s.o (chIdx9 n) 3 = code
    · by_cases hcount : s.o (chIdx9 n) 0x0B < 255
      · rw [if_pos hsrc, if_pos hcount, if_pos ⟨hsrc, hcount⟩, State.o_bump, if_pos ⟨rfl, Nat.one_ne_zero⟩, hwidth]
        exact Nat.mod_eq_of_lt (Nat.succ_lt_succ hcount)
      · rw [if_pos hsrc, if_neg hcount, if_neg fun h => hcount h.2, State.o_bump,
          if_neg fun h => key_chan_ne (by decide) (by decide) (by decide) h.1]
    · rw [if_neg hsrc, if_neg fun h => hsrc h.1]
  · rw [if_neg hnm]
    split
    · split <;> rw [State.o_bump, if_neg fun h => hnm ((key_chan_inj (by decide) (by decide)).mp h.1).1]
    · rfl

/-- Over a list of channels without repeats, each counts once. -/
theorem State.o_foldl_hear_count {n : Nat} (code : Nat) (hn : n < 16) (l : List Nat) (hl : l.Nodup) :
    (l.foldl (fun s m => s.hear code m) s).o (chIdx9 n) 0x0B =
      if n ∈ l then s.trigCounted code n (s.o (chIdx9 n) 0x0B) else s.o (chIdx9 n) 0x0B := by
  induction l generalizing s with
  | nil => rfl
  | cons m l ih =>
    obtain ⟨hm, hl⟩ := List.nodup_cons.mp hl
    rw [List.foldl_cons, ih _ hl]
    unfold State.trigCounted
    rw [State.o_hear_src, State.o_hear_count s code m hn]
    by_cases hnm : n = m
    · subst hnm
      rw [if_neg hm, if_pos rfl, if_pos List.mem_cons_self]
      rfl
    · simp only [List.mem_cons, hnm, false_or, if_false]

theorem State.o_trigger_count {n : Nat} (code : Nat) (hn : n < 16) :
    (s.trigger code).o (chIdx9 n) 0x0B = s.trigCounted code n (s.o (chIdx9 n) 0x0B) := by
  rw [State.trigger_eq, s.o_foldl_hear_count code hn _ List.nodup_range, if_pos (List.mem_range.mpr hn)]

/-! ### A channel that goes on or rests (R378) -/

theorem Frame.chanRest {ps : List Part} {ks : List Nat} {w s : State} {n st : Nat} (h : Frame ps ks w s)
    (hp : [.dma, .grants, .rf, .power] ⊆ ps) (hk : key (chIdx9 n) 9 ∈ ks) : Frame ps ks w (s.chanRest n st) :=
  (((h.seto (.inl hk)).release (hp (by decide)) (hp (by decide))).modChan (hp (by decide))).power (hp (by decide))

/-- What a channel does at the tail of its list: it rests in END, and the doorbell it held, acted on now, finds EOC set still. -/
def State.chanEnd (s : State) (n : Nat) : State := (s.chanRest n 4).modChan n (fun c => { c with bell := false })

theorem State.o_chanEnd (n i j : Nat) : (s.chanEnd n).o i j = (s.seto (chIdx9 n) 9 4).o i j := rfl

theorem Frame.chanEnd {ps : List Part} {ks : List Nat} {w s : State} {n : Nat} (h : Frame ps ks w s)
    (hp : [.dma, .grants, .rf, .power] ⊆ ps) (hk : key (chIdx9 n) 9 ∈ ks) : Frame ps ks w (s.chanEnd n) :=
  (h.chanRest hp hk).modChan (hp (by decide))

theorem State.rd32_chanEnd (n a : Nat) : (s.chanEnd n).rd32 a = s.rd32 a := by
  have hmem : ∀ b, (s.chanEnd n).rd8 b = s.rd8 b :=
    (Frame.refl.chanEnd (List.Subset.refl _) (List.mem_singleton_self _)).parts .mem (by decide)
  exact State.rd32_congr fun _ _ => hmem _

theorem State.chTail_of_eoc {n : Nat} (h : bit (s.rd32 (s.o (chIdx9 n) 0x0A)) 27 = true) : s.chTail n = s :=
  if_pos (.inl h)

theorem State.chOn_of_eoc {n : Nat} (hgo : (s.ch n).stop = false) (heoc : bit (s.rd32 (s.o (chIdx9 n) 0x0A)) 27 = true) :
    s.chOn n = s.chanEnd n := by
  have hdesc : (s.chanEnd n).o (chIdx9 n) 0x0A = s.o (chIdx9 n) 0x0A := by
    rw [State.o_chanEnd, State.o_seto_ne _ (key_chan_ne (by decide) (by decide) (by decide))]
  have htail : (s.chanEnd n).chTail n = s.chanEnd n := State.chTail_of_eoc _ (by
    rw [hdesc, State.rd32_chanEnd, heoc])
  have h : s.chOn n = if (s.ch n).bell then (s.chanEnd n).chTail n else s.chanEnd n := by
    unfold State.chOn
    rw [if_neg (by rw [hgo]; decide), if_pos heoc]
    rfl
  rw [h, htail, ite_self]

/-- What a channel does where its list goes on: NEXT is its descriptor, to be read. -/
def State.chanNext (s : State) (n : Nat) : State :=
  ((s.seto (chIdx9 n) 0x0A (s.rd32 (s.o (chIdx9 n) 0x0A + 16))).seto (chIdx9 n) 9 3).modChan n
    (fun c => { c with run := none, fetch := true })

theorem State.chOn_of_next {n : Nat} (hgo : (s.ch n).stop = false) (heoc : bit (s.rd32 (s.o (chIdx9 n) 0x0A)) 27 ≠ true)
    (hnext : isDesc (s.rd32 (s.o (chIdx9 n) 0x0A + 16)) = true) : s.chOn n = s.chanNext n := by
  unfold State.chOn
  rw [if_neg (by rw [hgo]; decide), if_neg heoc, if_pos hnext]
  rfl

/-- A channel that is not to stop, at the tail of its list or with a descriptor to go on with. -/
theorem State.chOn_cases {n : Nat} (hgo : (s.ch n).stop = false)
    (hnext : bit (s.rd32 (s.o (chIdx9 n) 0x0A)) 27 = true ∨ isDesc (s.rd32 (s.o (chIdx9 n) 0x0A + 16)) = true) :
    (bit (s.rd32 (s.o (chIdx9 n) 0x0A)) 27 = true ∧ s.chOn n = s.chanEnd n) ∨
    (bit (s.rd32 (s.o (chIdx9 n) 0x0A)) 27 ≠ true ∧ isDesc (s.rd32 (s.o (chIdx9 n) 0x0A + 16)) = true ∧ s.chOn n = s.chanNext n) := by
  by_cases heoc : bit (s.rd32 (s.o (chIdx9 n) 0x0A)) 27 = true
  · exact .inl ⟨heoc, s.chOn_of_eoc hgo heoc⟩
  · have hdesc := hnext.resolve_left heoc
    exact .inr ⟨heoc, hdesc, s.chOn_of_next hgo heoc hdesc⟩

theorem Frame.chanNext {ps : List Part} {ks : List Nat} {w s : State} {n : Nat} (h : Frame ps ks w s)
    (hp : Part.dma ∈ ps) (hstate : key (chIdx9 n) 9 ∈ ks) (hdesc : key (chIdx9 n) 0x0A ∈ ks) : Frame ps ks w (s.chanNext n) :=
  ((h.seto (.inl hdesc)).seto (.inl hstate)).modChan hp

theorem State.ch_chanEnd_ne {n m : Nat} (hm : m ≠ n) : (s.chanEnd n).ch m = s.ch m := by
  unfold State.chanEnd State.chanRest
  rw [State.ch_modChan, if_neg fun h => hm h.1]
  exact (State.ch_modChan _ n m _).trans (if_neg fun h => hm h.1)

theorem State.ch_chanNext_ne {n m : Nat} (hm : m ≠ n) : (s.chanNext n).ch m = s.ch m :=
  (State.ch_modChan _ n m _).trans (if_neg fun h => hm h.1)

theorem State.o_chanNext (n i j : Nat) : (s.chanNext n).o i j =
    ((s.seto (chIdx9 n) 0x0A (s.rd32 (s.o (chIdx9 n) 0x0A + 16))).seto (chIdx9 n) 9 3).o i j := rfl

theorem State.fetch_chanNext {n : Nat} (hn : n < 16) : ((s.chanNext n).ch n).fetch = true := by
  unfold State.chanNext
  rw [State.ch_modChan, if_pos ⟨rfl, hn⟩]

/-- At the tail the channel is in END, at its descriptor, and its credit is back. -/
theorem State.chanEnd_rests {n : Nat} (hn : n < 16) :
    (s.chanEnd n).o (chIdx9 n) 9 = 4 ∧ (s.chanEnd n).o (chIdx9 n) 0x0A = s.o (chIdx9 n) 0x0A ∧
      (s.chanEnd n).costOf .dmaChan n = noCost := by
  obtain ⟨hstate, -, -, -⟩ := width_chan hn
  refine ⟨?_, ?_, ?_⟩
  · exact (s.o_chanEnd n _ _).trans (State.o_seto_of_lt _ (by rw [hstate]; decide))
  · exact (s.o_chanEnd n _ _).trans (State.o_seto_ne _ (key_chan_ne (by decide) (by decide) (by decide)))
  · exact ((s.seto (chIdx9 n) 9 4).costOf_release .dmaChan n .dmaChan n).trans (if_pos ⟨rfl, rfl⟩)

theorem isDesc_lt {a : Nat} (h : isDesc a = true) : a < 256 ^ 4 := by
  unfold isDesc at h
  simp only [Bool.and_eq_true, decide_eq_true_eq] at h
  omega

/-- Where the list goes on, the channel runs, with NEXT to be read. -/
theorem State.chanNext_goes {n : Nat} (hn : n < 16) (hnext : isDesc (s.rd32 (s.o (chIdx9 n) 0x0A + 16)) = true) :
    (s.chanNext n).o (chIdx9 n) 9 = 3 ∧ (s.chanNext n).o (chIdx9 n) 0x0A = s.rd32 (s.o (chIdx9 n) 0x0A + 16) ∧
      ((s.chanNext n).ch n).fetch = true := by
  obtain ⟨hstate, hdesc, -, -⟩ := width_chan hn
  refine ⟨?_, ?_, s.fetch_chanNext hn⟩ <;> rw [State.o_chanNext]
  · exact State.o_seto_of_lt _ (by rw [hstate]; decide)
  · rw [State.o_seto_ne _ (key_chan_ne (by decide) (by decide) (by decide))]
    exact State.o_seto_of_lt _ (by rw [hdesc]; exact isDesc_lt hnext)

/-! ### A descriptor with LENGTH 0 (R375) -/

/-- The judgement passes a clean descriptor with LENGTH 0 before it looks at an address. -/
theorem State.judgeDesc_empty {n D : Nat} (hop : s.rd32 D / 2 ^ 28 < 3) (hclean : s.rd32 D % 2 ^ 26 = 0) (hlen : s.rd32 (D + 12) = 0)
    (hnext : bit (s.rd32 D) 27 = true ∨ isDesc (s.rd32 (D + 16)) = true) : s.judgeDesc n D = (0, 0) := by
  have hform : ¬ (2 < s.rd32 D / 2 ^ 28 ∨ s.rd32 D % 2 ^ 26 ≠ 0 ∨ s.rd32 (D + 12) / 2 ^ 24 ≠ 0 ∨
      s.rd32 (D + 12) % 2 ^ 24 % 4 ≠ 0 ∨ (bit (s.rd32 D) 27 = false ∧ isDesc (s.rd32 (D + 16)) = false)) := by
    rw [hclean, hlen]
    rintro (h | h | h | h | ⟨heoc, hbad⟩)
    · omega
    · exact h rfl
    · exact h rfl
    · exact h rfl
    · simp only [heoc, hbad, Bool.false_eq_true, or_self] at hnext
  unfold State.judgeDesc
  rw [if_neg hform, if_pos (by rw [hlen, Nat.zero_mod])]

/-- The descriptor asks for a trigger, and the channel names a source to take one from (R377). -/
abbrev State.waits (w : State) (n : Nat) : Prop := bit (w.rd32 (w.o (chIdx9 n) 0x0A)) 26 = true ∧ w.o (chIdx9 n) 3 ≠ 0

/-- CH_TRIG_COUNT once the descriptor has taken the trigger it asks for, in the byte that holds it. -/
def State.countLeft (w : State) (n : Nat) : Nat :=
  if w.waits n then (w.o (chIdx9 n) 0x0B - 1) % 256 else w.o (chIdx9 n) 0x0B

theorem State.countLeft_of_lt {n : Nat} (h : s.o (chIdx9 n) 0x0B < 256) :
    s.countLeft n = s.o (chIdx9 n) 0x0B - (if s.waits n then 1 else 0) := by
  unfold State.countLeft
  split
  · exact Nat.mod_eq_of_lt (Nat.lt_of_le_of_lt (Nat.sub_le _ _) h)
  · rfl

/-- The channel with its trigger taken, its descriptor started. -/
def State.chanTaken (w : State) (n : Nat) : State :=
  (if w.waits n then w.seto (chIdx9 n) 0x0B (w.o (chIdx9 n) 0x0B - 1) else w).seto (chIdx9 n) 9 3

theorem State.chanTaken_keeps (n : Nat) : (s.chanTaken n).mem = s.mem ∧ (s.chanTaken n).dma = s.dma := by
  unfold State.chanTaken
  split <;> exact ⟨rfl, rfl⟩

theorem State.o_chanTaken_count {n : Nat} (hn : n < 16) : (s.chanTaken n).o (chIdx9 n) 0x0B = s.countLeft n := by
  obtain ⟨-, -, hwidth, -⟩ := width_chan hn
  unfold State.chanTaken State.countLeft
  rw [State.o_seto_ne _ (key_chan_ne (by decide) (by decide) (by decide))]
  split
  · rw [State.o_seto_same, hwidth, pow_one_byte]
  · rfl

theorem State.o_chanTaken {n i j : Nat} (hcount : key i j ≠ key (chIdx9 n) 0x0B) (hstate : key i j ≠ key (chIdx9 n) 9) :
    (s.chanTaken n).o i j = s.o i j := by
  unfold State.chanTaken
  rw [State.o_seto_ne _ hstate]
  split
  · exact State.o_seto_ne _ hcount
  · rfl

theorem Frame.chanTaken {ps : List Part} {ks : List Nat} {w s : State} {n : Nat} (h : Frame ps ks w s)
    (hstate : key (chIdx9 n) 9 ∈ ks) (hcount : key (chIdx9 n) 0x0B ∈ ks) : Frame ps ks w (s.chanTaken n) :=
  (Frame.ite (fun _ => h.seto (.inl hcount)) fun _ => h).seto (.inl hstate)

theorem State.descBack_none (n code : Nat) :
    s.descBack n code 0 none = s.wr32 (s.o (chIdx9 n) 0x0A + 20) (code * 2 ^ 28) :=
  congrArg (s.wr32 (s.o (chIdx9 n) 0x0A + 20)) (Nat.add_zero (code * 2 ^ 28))

/-- A whole descriptor that waits for no trigger and passes its judgement ends with EMPTY if its LENGTH is 0. -/
theorem State.chFetch_of_judged {n : Nat} (hwhole : s.eccHit (s.o (chIdx9 n) 0x0A) 20 = false)
    (hstart : ¬ (s.waits n ∧ s.o (chIdx9 n) 0x0B = 0)) (hjudge : (s.chanTaken n).judgeDesc n (s.o (chIdx9 n) 0x0A) = (0, 0))
    (hlen : s.rd32 (s.o (chIdx9 n) 0x0A + 12) % 2 ^ 24 = 0) : s.chFetch n = (s.chanTaken n).chDone n 2 0 none := by
  unfold State.chFetch
  rw [if_neg (by rw [hwhole]; decide), if_neg fun e => hstart ⟨⟨e.1, e.2.1⟩, e.2.2⟩]
  unfold State.chanTaken at hjudge ⊢
  dsimp only
  rw [hjudge]
  exact if_pos hlen

/-- EMPTY in word 5 of the descriptor, and the descriptor counted. -/
def State.emptyCounted (w : State) (n : Nat) : State :=
  ((w.chanTaken n).wr32 (w.o (chIdx9 n) 0x0A + 20) (2 * 2 ^ 28)).bump (chIdx9 n) 0x0C 1

/-- What the end of an empty descriptor leaves before the channel goes on: its completion event has occurred too. -/
def State.emptyEnded (w : State) (n : Nat) : State := (w.emptyCounted n).trigger (1 + n)

section Empty

variable {s} {n op : Nat} (h : DescEmpty s n op)
include h

theorem DescEmpty.chFetch_of_taken (hop : op < 3)
    (hstart : ¬ (s.waits n ∧ s.o (chIdx9 n) 0x0B = 0)) : s.chFetch n = (s.emptyEnded n).chOn n := by
  have hmem := (s.chanTaken_keeps n).1
  have hjudge : (s.chanTaken n).judgeDesc n (s.o (chIdx9 n) 0x0A) = (0, 0) := by
    refine State.judgeDesc_empty _ ?_ ?_ ?_ ?_ <;> simp only [State.rd32_of_mem hmem]
    · exact h.oper ▸ hop
    · exact h.clean
    · exact h.zero
    · exact h.next
  have hdesc : (s.chanTaken n).o (chIdx9 n) 0x0A = s.o (chIdx9 n) 0x0A :=
    s.o_chanTaken (key_chan_ne (by decide) (by decide) (by decide))
      (key_chan_ne (by decide) (by decide) (by decide))
  have hlen : s.rd32 (s.o (chIdx9 n) 0x0A + 12) % 2 ^ 24 = 0 := by rw [h.zero, Nat.zero_mod]
  rw [s.chFetch_of_judged h.whole hstart hjudge hlen]
  unfold State.chDone State.emptyEnded State.emptyCounted
  rw [State.descBack_none, hdesc]

theorem DescEmpty.chFetch_of_waiting (hwait : s.waits n) (hcount : s.o (chIdx9 n) 0x0B = 0) :
    s.chFetch n = s.seto (chIdx9 n) 9 2 := by
  unfold State.chFetch
  rw [if_neg (by rw [h.whole]; decide), if_pos ⟨hwait.1, hwait.2, hcount⟩]

theorem DescEmpty.chRun_eq : s.chRun n op = s.chFetch n := by
  have hstate : s.o (chIdx9 n) 9 ∈ [2, 3] := by
    rw [List.mem_cons, List.mem_singleton]
    exact h.running
  exact if_pos ⟨h.channel, h.fetches, hstate, h.powered, .inl h.oper⟩

end Empty

theorem exec_startOf {op : Nat} (hop : op < 3) (t : Tick) (n : Nat) : exec (startOf t n op) s = s.run t (fun s => s.chRun n op) := by
  match op, hop with
  | 0, _ => rfl
  | 1, _ => rfl
  | 2, _ => rfl

theorem State.o_wr32 (a v i j : Nat) : (s.wr32 a v).o i j = s.o i j :=
  (Frame.refl.wrBytes (ps := [.mem, .dma]) (ks := []) (by decide) (by decide)).objs (by decide) i j List.not_mem_nil

theorem State.o_emptyCounted {n i j : Nat} (h : key i j ≠ key (chIdx9 n) 0x0C) : (s.emptyCounted n).o i j = (s.chanTaken n).o i j := by
  unfold State.emptyCounted
  rw [State.o_bump, if_neg fun e => h e.1, State.o_wr32]

/-- The objects of the channels other than the four that the end of the descriptor writes. -/
theorem State.o_emptyEnded {n m j : Nat} (hj : j < 256) (hwr : j ∉ [9, 0x0B, 0x0C, 0x0E]) :
    (s.emptyEnded n).o (chIdx9 m) j = s.o (chIdx9 m) j := by
  have hne {k : Nat} (hk : k < 256) (hmem : k ∈ [9, 0x0B, 0x0C, 0x0E]) : key (chIdx9 m) j ≠ key (chIdx9 n) k := fun e =>
    hwr (((key_chan_inj hj hk).mp e).2 ▸ hmem)
  have htrig : key (chIdx9 m) j ∉ trigKeys := fun e => by
    obtain ⟨-, rfl | rfl⟩ := (key_chan_mem_trigKeys hj).mp e <;> exact hwr (by decide)
  unfold State.emptyEnded
  rw [State.o_trigger _ _ htrig, State.o_emptyCounted _ (hne (by decide) (by decide)),
    State.o_chanTaken _ (hne (by decide) (by decide)) (hne (by decide) (by decide))]

theorem State.o_emptyEnded_done {n : Nat} (hn : n < 16) :
    (s.emptyEnded n).o (chIdx9 n) 0x0C = (s.o (chIdx9 n) 0x0C + 1) % 2 ^ 32 := by
  obtain ⟨-, -, -, hwidth⟩ := width_chan hn
  have htrig : key (chIdx9 n) 0x0C ∉ trigKeys := fun e => absurd ((key_chan_mem_trigKeys (by decide)).mp e).2 (by decide)
  unfold State.emptyEnded State.emptyCounted
  rw [State.o_trigger _ _ htrig, State.o_bump, if_pos ⟨rfl, Nat.one_ne_zero⟩, State.o_wr32,
    State.o_chanTaken _ (key_chan_ne (by decide) (by decide) (by decide))
      (key_chan_ne (by decide) (by decide) (by decide)), hwidth, pow_four_bytes]

theorem State.o_emptyEnded_count {n c : Nat} (hc : c < 16) :
    (s.emptyEnded n).o (chIdx9 c) 0x0B = s.trigCounted (1 + n) c (if c = n then s.countLeft n else s.o (chIdx9 c) 0x0B) := by
  have hcount : (s.emptyCounted n).o (chIdx9 c) 0x0B = if c = n then s.countLeft n else s.o (chIdx9 c) 0x0B := by
    rw [State.o_emptyCounted _ (key_chan_ne (by decide) (by decide) (by decide))]
    split <;> rename_i hcn
    · subst hcn
      exact s.o_chanTaken_count hc
    · exact s.o_chanTaken (fun e => hcn ((key_chan_inj (by decide) (by decide)).mp e).1)
        (key_chan_ne (by decide) (by decide) (by decide))
  have hsrc : (s.emptyCounted n).o (chIdx9 c) 3 = s.o (chIdx9 c) 3 :=
    (s.o_emptyCounted (key_chan_ne (by decide) (by decide) (by decide))).trans
      (s.o_chanTaken (key_chan_ne (by decide) (by decide) (by decide)) (key_chan_ne (by decide) (by decide) (by decide)))
  unfold State.emptyEnded
  rw [State.o_trigger_count _ _ hc, hcount]
  unfold State.trigCounted
  rw [hsrc]

theorem Frame.emptyEnded {ps : List Part} {ks : List Nat} {w s : State} {n : Nat} (h : Frame ps ks w s) (hn : n < 16)
    (hp : [.mem, .dma] ⊆ ps) (hk : key (chIdx9 n) 9 :: key (chIdx9 n) 0x0C :: trigKeys ⊆ ks) : Frame ps ks w (s.emptyEnded n) := by
  have hcount : key (chIdx9 n) 0x0B ∈ trigKeys := (key_chan_mem_trigKeys (by decide)).mpr ⟨hn, .inl rfl⟩
  have htaken := h.chanTaken (n := n) (hk List.mem_cons_self)
    (hk (List.mem_cons_of_mem _ (List.mem_cons_of_mem _ hcount)))
  have hword : Frame ps ks w ((s.chanTaken n).wr32 (s.o (chIdx9 n) 0x0A + 20) (2 * 2 ^ 28)) :=
    htaken.wrBytes (hp (by decide)) (hp (by decide))
  exact (hword.bump (.inl (hk (List.mem_cons_of_mem _ List.mem_cons_self)))).trigger fun _ hmem =>
    hk (List.mem_cons_of_mem _ (List.mem_cons_of_mem _ hmem))

theorem State.ch_bump (i j k m : Nat) : (s.bump i j k).ch m = s.ch m := by simp [State.ch]

theorem State.rd8_bump (i j k a : Nat) : (s.bump i j k).rd8 a = s.rd8 a := by simp [State.rd8]

theorem State.ch_trigger (code m : Nat) : (s.trigger code).ch m = s.ch m := by
  have hdma : (s.trigger code).dma = s.dma := (Frame.refl (ps := []).trigger (List.Subset.refl _)).parts .dma (by decide)
  unfold State.ch
  rw [hdma]

theorem State.rd8_trigger (code a : Nat) : (s.trigger code).rd8 a = s.rd8 a :=
  (Frame.refl (ps := []).trigger (List.Subset.refl _)).parts .mem (by decide) a

theorem State.ch_emptyEnded (n m : Nat) : (s.emptyEnded n).ch m = s.ch m := by
  unfold State.emptyEnded State.emptyCounted
  rw [State.ch_trigger, State.ch_bump, State.ch_wr32]
  exact congrArg (fun d => smGet Chan.init d.ch m) (s.chanTaken_keeps n).2

/-- The memory after the descriptor ends: word 5 written. -/
theorem State.rd8_emptyEnded (n a : Nat) :
    (s.emptyEnded n).rd8 a = (s.wr32 (s.o (chIdx9 n) 0x0A + 20) (2 * 2 ^ 28)).rd8 a := by
  have hbyte (b : Nat) : (s.chanTaken n).rd8 b = s.rd8 b :=
    congrArg (fun m => (smGet (0 : BitVec 8) m b).toNat) (s.chanTaken_keeps n).1
  unfold State.emptyEnded State.emptyCounted
  rw [State.rd8_trigger, State.rd8_bump]
  unfold State.wr32
  rw [State.rd8_wrBytes, State.rd8_wrBytes, hbyte]

theorem State.rd32_emptyEnded_word5 (n : Nat) : (s.emptyEnded n).rd32 (s.o (chIdx9 n) 0x0A + 20) = 2 * 2 ^ 28 :=
  ((State.rd32_congr fun _ _ => s.rd8_emptyEnded n _).trans (s.rd32_wr32_same _ _)).trans (Nat.mod_eq_of_lt (by decide))

theorem State.rd32_emptyEnded_before {n k : Nat} (hk : k ≤ 16) :
    (s.emptyEnded n).rd32 (s.o (chIdx9 n) 0x0A + k) = s.rd32 (s.o (chIdx9 n) 0x0A + k) :=
  State.rd32_congr fun i hi => (s.rd8_emptyEnded n _).trans (s.rd8_wr32_outside _ (.inl (by omega)))

/-- What R375 leaves of an empty descriptor of channel `n`: EMPTY in word 5 and no other byte moved, the descriptor counted, its
completion event counted by the channels that wait for it (R377), and the channel at END or at NEXT (R378). -/
structure EmptyDone (w u : State) (n : Nat) : Prop where
  code : u.rd32 (w.o (chIdx9 n) 0x0A + 20) = 2 * 2 ^ 28
  still : ∀ a, (a < w.o (chIdx9 n) 0x0A + 20 ∨ w.o (chIdx9 n) 0x0A + 24 ≤ a) → u.rd8 a = w.rd8 a
  counted : u.o (chIdx9 n) 0x0C = (w.o (chIdx9 n) 0x0C + 1) % 2 ^ 32
  event : ∀ c, c < 16 → u.o (chIdx9 c) 0x0B =
    w.trigCounted (1 + n) c (if c = n then w.countLeft n else w.o (chIdx9 c) 0x0B)
  goesOn : if bit (w.rd32 (w.o (chIdx9 n) 0x0A)) 27 = true then
      u.o (chIdx9 n) 9 = 4 ∧ u.o (chIdx9 n) 0x0A = w.o (chIdx9 n) 0x0A ∧ u.costOf .dmaChan n = noCost else
      u.o (chIdx9 n) 9 = 3 ∧ u.o (chIdx9 n) 0x0A = w.rd32 (w.o (chIdx9 n) 0x0A + 16) ∧ (u.ch n).fetch = true
  others : ∀ m, m ≠ n → u.ch m = w.ch m
  frame : Frame [.dma, .mem, .grants, .rf, .power] (key (chIdx9 n) 9 :: key (chIdx9 n) 0x0A :: key (chIdx9 n) 0x0C :: trigKeys) w u

theorem EmptyDone.done {t : Tick} {u : State} {n : Nat} (h : EmptyDone (s.upTo t) u n) : EmptyDone (s.upTo t) (s.done t u) n where
  code := (State.rd32_congr fun _ _ => s.done_rd8 t u _).trans h.code
  still a ha := (s.done_rd8 t u a).trans (h.still a ha)
  counted := h.counted
  event := h.event
  goesOn := h.goesOn
  others := h.others
  frame := h.frame.done s

/-- How the channel goes on changes nothing of what the end of the descriptor left but the channel itself. -/
theorem State.chOn_frame {n : Nat} (hgo : (s.ch n).stop = false)
    (hnext : bit (s.rd32 (s.o (chIdx9 n) 0x0A)) 27 = true ∨ isDesc (s.rd32 (s.o (chIdx9 n) 0x0A + 16)) = true) :
    Frame [.dma, .grants, .rf, .power] [key (chIdx9 n) 9, key (chIdx9 n) 0x0A] s (s.chOn n) ∧
      ∀ m, m ≠ n → (s.chOn n).ch m = s.ch m := by
  obtain ⟨-, hon⟩ | ⟨-, -, hon⟩ := s.chOn_cases hgo hnext <;> rw [hon]
  · exact ⟨Frame.refl.chanEnd (List.Subset.refl _) List.mem_cons_self, fun _ hm => s.ch_chanEnd_ne hm⟩
  · exact ⟨Frame.refl.chanNext (by decide) List.mem_cons_self (List.mem_cons_of_mem _ List.mem_cons_self),
      fun _ hm => s.ch_chanNext_ne hm⟩

theorem DescEmpty.emptyDone {n op : Nat} {s : State} (h : DescEmpty s n op) : EmptyDone s ((s.emptyEnded n).chOn n) n := by
  have hn := h.channel
  have hdesc : (s.emptyEnded n).o (chIdx9 n) 0x0A = s.o (chIdx9 n) 0x0A := s.o_emptyEnded (by decide) (by decide)
  have hword0 : (s.emptyEnded n).rd32 (s.o (chIdx9 n) 0x0A) = s.rd32 (s.o (chIdx9 n) 0x0A) :=
    s.rd32_emptyEnded_before (k := 0) (Nat.zero_le _)
  have hword4 : (s.emptyEnded n).rd32 (s.o (chIdx9 n) 0x0A + 16) = s.rd32 (s.o (chIdx9 n) 0x0A + 16) :=
    s.rd32_emptyEnded_before (Nat.le_refl _)
  have hgo : ((s.emptyEnded n).ch n).stop = false := by rw [State.ch_emptyEnded, h.goes]
  have hnext := h.next
  rw [← hword0, ← hword4, ← hdesc] at hnext
  obtain ⟨hframe, hch⟩ := State.chOn_frame _ hgo hnext
  have hobj {c j : Nat} (hj : j < 256) (hne : j ∉ [9, 0x0A]) :
      ((s.emptyEnded n).chOn n).o (chIdx9 c) j = (s.emptyEnded n).o (chIdx9 c) j :=
    hframe.objs (by decide) _ _ fun e => hne (by
      rw [List.mem_cons, List.mem_singleton] at e ⊢
      exact e.imp (fun h => ((key_chan_inj hj (by decide)).mp h).2) fun h => ((key_chan_inj hj (by decide)).mp h).2)
  have hmem : ∀ a, ((s.emptyEnded n).chOn n).rd8 a = (s.emptyEnded n).rd8 a := hframe.parts .mem (by decide)
  refine ⟨?_, ?_, ?_, ?_, ?_, ?_, ?_⟩
  · exact (State.rd32_congr fun _ _ => hmem _).trans (s.rd32_emptyEnded_word5 n)
  · exact fun a ha => ((hmem a).trans (s.rd8_emptyEnded n a)).trans (s.rd8_wr32_outside _ ha)
  · exact (hobj (by decide) (by decide)).trans (s.o_emptyEnded_done hn)
  · exact fun c hc => (hobj (by decide) (by decide)).trans (s.o_emptyEnded_count hc)
  · obtain ⟨heoc, hon⟩ | ⟨heoc, hdescs, hon⟩ := State.chOn_cases _ hgo hnext
    · rw [hdesc, hword0] at heoc
      rw [if_pos heoc, hon, ← hdesc]
      exact State.chanEnd_rests _ hn
    · rw [hdesc, hword0] at heoc
      have hgoes := State.chanNext_goes _ hn hdescs
      rw [hdesc, hword4] at hgoes
      rw [if_neg heoc, hon]
      exact hgoes
  · exact fun m hm => (hch m hm).trans (s.ch_emptyEnded n m)
  · have hwider := hframe.mono (ps' := [.dma, .mem, .grants, .rf, .power]) (by decide) fun _ hk =>
      List.mem_append_left (key (chIdx9 n) 0x0C :: trigKeys) hk
    exact (Frame.refl.emptyEnded hn (by decide) (List.cons_subset_cons _ (List.subset_cons_self _ _))).trans hwider

/-- A descriptor with LENGTH 0 that waits for no trigger, or takes one, ends at once with EMPTY (R375). -/
theorem completes_empty {t : Tick} {n op : Nat} (hop : op < 3) (h : DescEmpty (s.upTo t) n op)
    (hstart : ¬ ((s.upTo t).waits n ∧ (s.upTo t).o (chIdx9 n) 0x0B = 0)) :
    Completes (startOf t n op) t s fun w u => EmptyDone w u n := by
  refine completes_of (exec_startOf s hop t n) ?_
  rw [h.chRun_eq, h.chFetch_of_taken hop hstart]
  exact h.emptyDone.done

/-- A descriptor with LENGTH 0 waits for the trigger that its WAIT asks for while none has occurred (R375, R377). -/
theorem completes_empty_waiting {t : Tick} {n op : Nat} (hop : op < 3) (h : DescEmpty (s.upTo t) n op)
    (hwait : (s.upTo t).waits n) (hcount : (s.upTo t).o (chIdx9 n) 0x0B = 0) :
    Completes (startOf t n op) t s fun w u => u.o (chIdx9 n) 9 = 2 ∧ Frame [] [key (chIdx9 n) 9] w u := by
  refine completes_of (exec_startOf s hop t n) ?_
  rw [h.chRun_eq, h.chFetch_of_waiting hwait hcount]
  refine ⟨?_, (Frame.refl.seto (.inl List.mem_cons_self)).done s⟩
  exact State.o_seto_of_lt _ (by rw [(width_chan h.channel).1]; decide)

/-- R375 as `Obligations.EmptyDescriptor` has it, for a CH_TRIG_COUNT that its byte can hold: the count falls by the trigger taken and
rises by the channel's own completion event. -/
theorem completes_empty_of_count_lt {t : Tick} {n op : Nat} (hop : op < 3) (h : DescEmpty (s.upTo t) n op)
    (hstart : ¬ ((s.upTo t).waits n ∧ (s.upTo t).o (chIdx9 n) 0x0B = 0)) (hcount : (s.upTo t).o (chIdx9 n) 0x0B < 256) :
    Completes (startOf t n op) t s fun w u => EmptyDone w u n ∧ u.o (chIdx9 n) 0x0B =
      w.trigCounted (1 + n) n (w.o (chIdx9 n) 0x0B - (if w.waits n then 1 else 0)) := by
  obtain ⟨u, hu, hdone⟩ := completes_empty s hop h hstart
  refine ⟨u, hu, hdone, ?_⟩
  rw [hdone.event n h.channel, if_pos rfl, State.countLeft_of_lt _ hcount]

/-! ### Where the statement fails: a count past its byte -/

/-- Channel 3 runs and its descriptor, COMPARE with EOC and WAIT, has LENGTH 0; it names a trigger source. Its CH_TRIG_COUNT, of one
byte, stands at 257: no object write of the model leaves that (`State.seto` truncates, and R377 saturates at 255), but the
statement speaks of every state, and so of this one. -/
def overfullCount : State :=
  { State.reset with
    obj := [(key 0x5022 (Dom.cp + 1), 1), (key (chIdx9 3) 3, 5), (key (chIdx9 3) 9, 3), (key (chIdx9 3) 0x0A, 0x50000040),
      (key (chIdx9 3) 0x0B, 257)]
    mem := [(0x50000043, 0x2C)]
    dma := { Dma.init with ch := [(3, { Chan.init with fetch := true })] } }

theorem overfullCount_memOk : MemOk overfullCount := by
  unfold MemOk
  decide +kernel

theorem overfullCount_descEmpty : DescEmpty (overfullCount.upTo 0) 3 2 := by
  constructor <;> decide +kernel

/-- It waits on source 5, not on its own completion event. -/
theorem overfullCount_waits : (overfullCount.upTo 0).waits 3 ∧ (overfullCount.upTo 0).o (chIdx9 3) 3 = 5 := by
  decide +kernel

theorem overfullCount_count : (overfullCount.upTo 0).o (chIdx9 3) 0x0B = 257 := by
  decide +kernel

/-- Refutes O52: the trigger taken from a CH_TRIG_COUNT of 257 leaves 256 by the statement, and 0 in the one byte that the model writes.
With a count that its byte can hold the statement's first clause stands (`completes_empty_of_count_lt`), and its second stands as it is
(`completes_empty_waiting`). -/
theorem not_emptyDescriptor : ¬ Obligations.EmptyDescriptor := by
  unfold Obligations.EmptyDescriptor
  rintro ⟨hends, -⟩
  obtain ⟨hwaits, hsrc⟩ := overfullCount_waits
  have hstart : ¬ ((overfullCount.upTo 0).waits 3 ∧ (overfullCount.upTo 0).o (chIdx9 3) 0x0B = 0) := fun h =>
    absurd (overfullCount_count.symm.trans h.2) (by decide)
  obtain ⟨u, hu, -, -, -, -, hcount, -⟩ := hends 0 3 2 overfullCount (by decide) overfullCount_memOk overfullCount_descEmpty
    (.inr (.inr (by rw [overfullCount_count]; decide)))
  obtain ⟨v, hv, hdone⟩ := completes_empty overfullCount (by decide) overfullCount_descEmpty hstart
  obtain rfl : u = v := Host.Outcome.next.inj (hu.symm.trans hv)
  have hbyte : u.o (chIdx9 3) 0x0B = 0 := by
    rw [hdone.event 3 (by decide), if_pos rfl]
    unfold State.trigCounted State.countLeft
    rw [if_pos hwaits, hsrc, overfullCount_count]
    decide
  rw [hbyte, if_pos hwaits, hsrc, overfullCount_count] at hcount
  exact absurd hcount (by decide)

end Sys2Proof.Machine

/-!
PROOFS, the AVS step (R234, R385): a request for base cost 0 on VDD_CORE, judged at the A of the next code.
-/

namespace Sys2Proof.Machine

variable (s : State)

/-! ### The parts of an AVS step -/

/-- AVS_MAX follows the code that R234 asks for, before its ceiling. -/
def State.avsAlarmed (s : State) : State := s.alarmIf Al.avsMax 0 (decide (18 < avsWant (s.o 0x4800 4)))

/-- The objects that show a step, AVS_CODE and AVS_MV, are written, and AGE_MARGIN clears. -/
def State.avsRaised (s : State) : State :=
  ((s.seto 0x4800 2 (s.o 0x4800 2 + 1)).seto 0x4800 3 (900 + 5 * (s.o 0x4800 2 + 1))).clearAl Al.ageMargin 0

/-- A step whose request fits: the new code is shown, driven on VID and queued for the calibration store. -/
def State.avsTaken (s : State) : State :=
  ({ s.avsRaised with start := { s.avsRaised.start with vid := s.o 0x4800 2 + 1 } } : State).modCal fun c => { c with
    avsAt := some s.avsRaised.now, avsRefused := none, storeQ := c.storeQ ++ [(key 0x4800 2, s.o 0x4800 2 + 2)] }

/-- The counters of a step whose request does not fit: AVS_DEFERRED (R234), and the ledger's refusals for AO (assumption 59). -/
def State.avsCounted (s : State) : State := (s.bump 0x4800 0x0B 1).bump 0x5005 (Dom.ao + 1) 1

/-- What follows a refusal: the first one's instant stands, and 24 h after it AGE_MARGIN is raised. -/
def State.avsWaits (s : State) : State :=
  match s.cal.avsRefused with
  | none => s.modCal fun c => { c with avsRefused := some s.now }
  | some t => if t + 24 * 3600 * tSec ≤ s.now ∧ ¬ s.raised Al.ageMargin 0 then s.raise Al.ageMargin 0 else s

/-- What VDD_CORE would book after the next step (R385): its base sum as it stands, at the A of the next code. -/
def State.avsBooked (s : State) : Nat := bookedOf (s.base rCore) (s.factorAt (s.o 0x4800 2 + 1) rCore)

/-- A step is due (R234): AVS is enabled, the code is below what the ageing asks for, and 20 ms have passed since the last step. -/
structure AvsDue (w : State) : Prop where
  enabled : w.a 0x4800 1 ≠ 0
  below : w.o 0x4800 2 < min 18 (avsWant (w.o 0x4800 4))
  rested : ∀ x, w.cal.avsAt = some x → x + 20 * tMs ≤ w.now

/-! ### How a step goes -/

theorem State.avsAlarmed_frame : Frame logParts logKeys s s.avsAlarmed :=
  Frame.refl.alarmIf (List.Subset.refl _) (List.Subset.refl _)

theorem State.o_avsAlarmed {i j : Nat} (h : key i j ∉ logKeys) : s.avsAlarmed.o i j = s.o i j :=
  s.avsAlarmed_frame.objs (by decide) i j h

theorem State.avsAlarmed_keeps : s.avsAlarmed.now = s.now ∧ s.avsAlarmed.cal = s.cal ∧ s.avsAlarmed.start = s.start ∧
    s.avsAlarmed.grants = s.grants ∧ s.avsAlarmed.band = s.band ∧ ∀ i j, s.avsAlarmed.a i j = s.a i j := by
  simp [State.avsAlarmed]

theorem State.avsBooked_avsAlarmed : s.avsAlarmed.avsBooked = s.avsBooked := by
  obtain ⟨-, -, -, hgrants, hband, -⟩ := s.avsAlarmed_keeps
  unfold State.avsBooked State.base State.factorAt
  rw [hgrants, hband, State.o_avsAlarmed _ (by decide)]

/-- A step that is due is taken if its request fits under the cap, and refused if not. -/
theorem AvsDue.avsStep_eq {w : State} (h : AvsDue w) :
    w.avsStep = if w.avsBooked ≤ w.cap rCore then w.avsAlarmed.avsTaken else w.avsAlarmed.avsCounted.avsWaits := by
  obtain ⟨hnow, hcal, -, -, -, hact⟩ := w.avsAlarmed_keeps
  have hgoes : ¬ (w.avsAlarmed.a 0x4800 1 = 0 ∨ min 18 (avsWant (w.o 0x4800 4)) ≤ w.avsAlarmed.o 0x4800 2) := by
    rw [hact, State.o_avsAlarmed _ (by decide)]
    exact not_or.mpr ⟨h.enabled, Nat.not_le.mpr h.below⟩
  have hrested : (match w.avsAlarmed.cal.avsAt with
      | some t => decide (w.avsAlarmed.now < t + 20 * tMs)
      | none => false) ≠ true := by
    rw [hcal, hnow]
    split <;> rename_i hat
    · exact fun hlt => Nat.not_le.mpr (of_decide_eq_true hlt) (h.rested _ hat)
    · exact Bool.false_ne_true
  have hcap : w.avsAlarmed.cap rCore = w.cap rCore := w.o_avsAlarmed (by decide)
  rw [← w.avsBooked_avsAlarmed, ← hcap]
  refine ((if_neg hgoes).trans (if_neg hrested)).trans ?_
  -- the rest compares both sides at a state that is named, so that the kernel does not evaluate the alarm
  unfold State.avsAlarmed
  obtain ⟨v, hv⟩ : ∃ v, w.alarmIf Al.avsMax 0 (decide (18 < avsWant (w.o 0x4800 4))) = v := ⟨_, rfl⟩
  rw [hv]
  rfl

/-! ### What a step that is taken leaves -/

/-- AVS_CODE is one byte wide, AVS_MV two, and AVS_DEFERRED four. -/
theorem width_avs : width (key 0x4800 2) = 1 ∧ width (key 0x4800 3) = 2 ∧ width (key 0x4800 0x0B) = 4 := by decide

theorem State.avsRaised_keeps : s.avsRaised.now = s.now ∧ s.avsRaised.cal = s.cal ∧ s.avsRaised.start = s.start := by
  simp [State.avsRaised]

/-- The new code and its target are shown as they are: 18 steps stay within both widths. -/
theorem State.o_avsTaken (h : s.o 0x4800 2 < 18) :
    s.avsTaken.o 0x4800 2 = s.o 0x4800 2 + 1 ∧ s.avsTaken.o 0x4800 3 = 900 + 5 * (s.o 0x4800 2 + 1) := by
  obtain ⟨hcode, hmv, -⟩ := width_avs
  have hshown {i j : Nat} (hij : key i j ∉ logKeys) : s.avsTaken.o i j =
      ((s.seto 0x4800 2 (s.o 0x4800 2 + 1)).seto 0x4800 3 (900 + 5 * (s.o 0x4800 2 + 1))).o i j :=
    (Frame.refl.clearAl (List.Subset.refl _) (List.Subset.refl _)).objs (by decide) i j hij
  rw [hshown (by decide), hshown (by decide), State.o_seto_ne _ (by decide)]
  exact ⟨State.o_seto_of_lt _ (by rw [hcode]; omega), State.o_seto_of_lt _ (by rw [hmv]; omega)⟩

theorem State.start_avsTaken : s.avsTaken.start = { s.start with vid := s.o 0x4800 2 + 1 } := by
  obtain ⟨-, -, hstart⟩ := s.avsRaised_keeps
  rw [← hstart]
  rfl

theorem State.cal_avsTaken : s.avsTaken.cal = { s.cal with
    avsAt := some s.now, avsRefused := none, storeQ := s.cal.storeQ ++ [(key 0x4800 2, s.o 0x4800 2 + 2)] } := by
  obtain ⟨hnow, hcal, -⟩ := s.avsRaised_keeps
  rw [← hnow, ← hcal]
  rfl

theorem State.raised_avsTaken (c d : Nat) :
    s.avsTaken.raised c d = if c = Al.ageMargin ∧ d = 0 then false else s.raised c d :=
  State.raised_clearAl _ _ _ _ _

theorem State.avsTaken_frame : Frame (.cal :: .start :: logParts) (key 0x4800 2 :: key 0x4800 3 :: logKeys) s s.avsTaken := by
  have hshown : Frame (.cal :: .start :: logParts) (key 0x4800 2 :: key 0x4800 3 :: logKeys) s s.avsRaised :=
    ((Frame.refl.seto (.inl (by decide))).seto (.inl (by decide))).clearAl (by decide) (by decide)
  exact (hshown.start (by decide)).modCal (by decide)

/-- What a step that is taken does (R234, R385): it moves the code on by one, and no grant is booked for it. -/
def AvsStepTaken (w u : State) : Prop :=
  u.o 0x4800 2 = w.o 0x4800 2 + 1 ∧ u.o 0x4800 3 = 900 + 5 * (w.o 0x4800 2 + 1) ∧ u.start = { w.start with vid := w.o 0x4800 2 + 1 } ∧
  u.cal = { w.cal with
    avsAt := some w.now, avsRefused := none, storeQ := w.cal.storeQ ++ [(key 0x4800 2, w.o 0x4800 2 + 2)] } ∧
  u.raised Al.ageMargin 0 = false ∧ u.raised Al.avsMax 0 = decide (18 < avsWant (w.o 0x4800 4)) ∧
  Frame (.cal :: .start :: logParts) (key 0x4800 2 :: key 0x4800 3 :: logKeys) w u

theorem AvsStepTaken.done {t : Tick} {u : State} (h : AvsStepTaken (s.upTo t) u) : AvsStepTaken (s.upTo t) (s.done t u) := by
  obtain ⟨hcode, htarget, hvid, hcal, hmargin, hmax, hframe⟩ := h
  exact ⟨hcode, htarget, hvid, hcal, hmargin, hmax, hframe.done s⟩

theorem AvsDue.avsStepTaken {w : State} (h : AvsDue w) (hfits : w.avsBooked ≤ w.cap rCore) : AvsStepTaken w w.avsStep := by
  have hcode : w.avsAlarmed.o 0x4800 2 = w.o 0x4800 2 := w.o_avsAlarmed (by decide)
  obtain ⟨hnow, hcal, hstart, -⟩ := w.avsAlarmed_keeps
  obtain ⟨hshown, htarget⟩ := w.avsAlarmed.o_avsTaken (by
    rw [hcode]
    exact (Nat.lt_min.mp h.below).1)
  have hvid := w.avsAlarmed.start_avsTaken
  have hstored := w.avsAlarmed.cal_avsTaken
  have hmax : w.avsAlarmed.avsTaken.raised Al.avsMax 0 = decide (18 < avsWant (w.o 0x4800 4)) := by
    rw [State.raised_avsTaken, if_neg (by decide)]
    exact (State.raised_alarmIf _ _ _ _ _ _).trans (if_pos ⟨rfl, rfl⟩)
  rw [hcode] at hshown htarget
  rw [hcode, hstart] at hvid
  rw [hcode, hcal, hnow] at hstored
  rw [h.avsStep_eq, if_pos hfits]
  exact ⟨hshown, htarget, hvid, hstored, (State.raised_avsTaken _ _ _).trans (if_pos ⟨rfl, rfl⟩), hmax,
    (w.avsAlarmed_frame.mono (by decide) (by decide)).trans (State.avsTaken_frame _)⟩

/-! ### What a step that is refused leaves -/

theorem State.avsCounted_keeps : s.avsCounted.now = s.now ∧ s.avsCounted.cal = s.cal := by
  simp [State.avsCounted]

theorem State.o_avsCounted : s.avsCounted.o 0x4800 0x0B = (s.o 0x4800 0x0B + 1) % 2 ^ 32 ∧
    s.avsCounted.o 0x5005 (Dom.ao + 1) = (s.o 0x5005 (Dom.ao + 1) + 1) % 2 ^ 32 := by
  obtain ⟨-, -, hdeferred⟩ := width_avs
  unfold State.avsCounted
  constructor
  · rw [State.o_bump, if_neg fun h => absurd h.1 (by decide), State.o_bump, if_pos ⟨rfl, Nat.one_ne_zero⟩, hdeferred, pow_four_bytes]
  · rw [State.o_bump_refusals _ (by decide), State.o_bump, if_neg fun h => absurd h.1 (by decide)]

theorem State.avsWaits_frame : Frame (.cal :: logParts) logKeys s s.avsWaits := by
  unfold State.avsWaits
  split
  · exact Frame.refl.modCal (by decide)
  · exact .ite (fun _ => Frame.refl.raise (List.subset_cons_self _ _) (List.Subset.refl _)) fun _ => Frame.refl

theorem State.cal_avsWaits : s.avsWaits.cal = { s.cal with avsRefused := some (s.cal.avsRefused.getD s.now) } := by
  unfold State.avsWaits
  split <;> rename_i hfirst
  · rw [hfirst]
    rfl
  · rw [hfirst, Option.getD_some, ← hfirst]
    split
    · simp
    · rfl

/-- What a step that is refused does (R234, R385): it is counted, for AVS and for AO, and the code stays. -/
def AvsStepRefused (w u : State) : Prop :=
  u.o 0x4800 0x0B = (w.o 0x4800 0x0B + 1) % 2 ^ 32 ∧ u.o 0x5005 (Dom.ao + 1) = (w.o 0x5005 (Dom.ao + 1) + 1) % 2 ^ 32 ∧
  u.cal = { w.cal with avsRefused := some (w.cal.avsRefused.getD w.now) } ∧
  Frame (.cal :: logParts) (key 0x4800 0x0B :: key 0x5005 (Dom.ao + 1) :: logKeys) w u

theorem AvsStepRefused.done {t : Tick} {u : State} (h : AvsStepRefused (s.upTo t) u) : AvsStepRefused (s.upTo t) (s.done t u) := by
  obtain ⟨hdeferred, hrefused, hcal, hframe⟩ := h
  exact ⟨hdeferred, hrefused, hcal, hframe.done s⟩

theorem AvsDue.avsStepRefused {w : State} (h : AvsDue w) (hover : w.cap rCore < w.avsBooked) : AvsStepRefused w w.avsStep := by
  obtain ⟨hnow, hcal, -⟩ := w.avsAlarmed_keeps
  obtain ⟨hnow', hcal'⟩ := w.avsAlarmed.avsCounted_keeps
  obtain ⟨hdeferred, hrefused⟩ := w.avsAlarmed.o_avsCounted
  have hobj {i j : Nat} (hij : key i j ∉ logKeys) : w.avsAlarmed.avsCounted.avsWaits.o i j = w.avsAlarmed.avsCounted.o i j :=
    (State.avsWaits_frame _).objs (by decide) i j hij
  have hfirst := w.avsAlarmed.avsCounted.cal_avsWaits
  have hcounted : Frame (.cal :: logParts) (key 0x4800 0x0B :: key 0x5005 (Dom.ao + 1) :: logKeys) w w.avsAlarmed.avsCounted :=
    ((w.avsAlarmed_frame.mono (by decide) (by decide)).bump (.inl (by decide))).bump (.inl (by decide))
  rw [State.o_avsAlarmed _ (by decide)] at hdeferred hrefused
  rw [hnow', hcal', hnow, hcal] at hfirst
  rw [h.avsStep_eq, if_neg (Nat.not_le.mpr hover)]
  exact ⟨(hobj (by decide)).trans hdeferred, (hobj (by decide)).trans hrefused, hfirst,
    hcounted.trans ((State.avsWaits_frame _).mono (by decide) (by decide))⟩

/-- Settles O16: a step that is due goes by whether its request fits under the cap of VDD_CORE. -/
theorem avsStepIsALedgerRequest : Obligations.AvsStepIsALedgerRequest := by
  unfold Obligations.AvsStepIsALedgerRequest
  constructor <;> intro t s hon hbelow hrested hjudged
  · exact completes_of rfl ((AvsDue.avsStepTaken ⟨hon, hbelow, hrested⟩ hjudged).done s)
  · exact completes_of rfl ((AvsDue.avsStepRefused ⟨hon, hbelow, hrested⟩ hjudged).done s)

end Sys2Proof.Machine
